-- ==== Sys2Proof/Word.lean ====
section
/-!
DEFINITION. The word types of the Dorban 716 and the plainest facts of its numbering.
A sample and a bus word are bits to the manual; every count, index and gain is a plain number.
-/

namespace Sys2Proof

/-- A 24-bit signed sample (00_scope, "Samples and gain"): the type itself keeps the sample range. -/
abbrev Sample := BitVec 24

/-- A 32-bit word: a service word of a trunk frame (R194) or a word of a link block or site report (R202). -/
abbrev Word32 := BitVec 32

/-- The tag of a service message: 8 bits of the header (R200). -/
abbrev Tag := BitVec 8

/-- A deck number as messages give it: 0 to 3 are P0 to P3, 4 is A and 5 is F (chapter 4, section 4.1). -/
abbrev DeckId := Fin 6

/-- A caller line number, L0 to L5 (R95). -/
abbrev LineId := Fin 6

/-- A cart number (R41). -/
abbrev CartId := Fin 256

/-- An alert record number, which is also the number of its slot (R143). -/
abbrev RecordId := Fin 16

/-- A recorder number (R48). -/
abbrev RecorderId := Fin 4

/-- A route index (R17). -/
abbrev RouteId := Fin 48

end Sys2Proof
end

