-- ==== Sys2Proof/Config.lean ====
section
/-!
DEFINITION. What an implementation of the Dorban 716 fixes and what its manual leaves free.
-/

namespace Sys2Proof

/-- The sample store holds 268,435,456 words of 24 bits (R37). -/
def Config.storeWords : Nat := 268435456

/-- A page is 65,536 words (R37). -/
def Config.pageWords : Nat := 65536

/-- The store has 4,096 pages (R37). -/
def Config.storePages : Nat := 4096

/-- FREE VALUE (R37: the contents of every word are undefined at power-on, and a read of a word not
written since gives some sample in the 24-bit range). The first argument counts the power-ons, the
second is the word's address. It has no body, so nothing can be proved of the sample it stands for.
DESIGN CHOICE, notes/assumptions/1.md: safe. -/
opaque Config.unwrittenSample (powerOns address : Nat) : Sample

end Sys2Proof
end

