-- ==== Sys2Proof/Syntax.lean ====
section
/-!
DEFINITION. The commands of the Dorban 716: one constructor for each row of the operation table.
The first 48 rows are events of the part and of its surroundings; the other 62 are requests, each taken
at the event of its LAST word (R196), with the header's tag and the fields of R201 in the manual's order.
A request's fields are carried as the numbers of its message, so that an out-of-range field can still be
sent and refused by its owner; an absent optional field is `none`.
-/

namespace Sys2Proof

/-- The two link ports (R179). -/
inductive Port
  | a
  | b
  deriving DecidableEq, Repr

/-- The operands that ORDER_APPEND and ORDER_INSERT share (R86, R201). -/
structure EntryFields where
  tag : Nat
  cart : Nat
  mode : Nat
  startTime : Option Nat
  gain : Option Nat
  fadeMs : Option Nat
  segueOverride : Option Nat
  deriving DecidableEq, Repr

/-- One item of CALL_SETUP's list (R108); an in-lane of all ones is none (R201). -/
structure LineFields where
  line : Nat
  inLane : Nat
  returnGain : Nat
  deriving DecidableEq, Repr

/-- The fields of ALERT_NOTICE (R137, R201). -/
structure NoticeFields where
  originator : Nat
  identity : Nat
  eventClass : Nat
  severity : Nat
  issueTime : Nat
  validDuration : Nat
  audioLane : Nat
  declaredLength : Nat
  areas : List Nat
  deriving DecidableEq, Repr

/-- The fields of FILTER_SET (R141, R201); an event class of all ones is ANY. -/
structure FilterFields where
  index : Nat
  eventClass : Nat
  minSeverity : Nat
  action : Nat
  confirmWindow : Option Nat
  expiryAction : Nat
  leadIn : Option Nat
  leadOut : Option Nat
  areas : List Nat
  deriving DecidableEq, Repr

/-- The seven optional operands of MONITOR_SET (R174, R201). -/
structure MonitorFields where
  mode : Option Nat
  threshold : Option Nat
  warn : Option Nat
  fault : Option Nat
  hold : Option Nat
  restore : Option Nat
  scope : Option Nat
  deriving DecidableEq, Repr

/-- The six optional operands of LINK_SETUP (R189, R201). -/
structure LinkFields where
  blockLength : Option Nat
  timeoutMs : Option Nat
  lagLimit : Option Nat
  revertive : Option Nat
  revertHold : Option Nat
  preferred : Option Nat
  deriving DecidableEq, Repr

/-- The commands, in the order of the operation table. -/
inductive Instr
  -- the part's events
  | powerOn
  | activitySeen
  | activityCeases
  | alignmentFound
  | alignedFrame (lanes : Vector Sample 16)
  | failedPosition
  | settlingFailure
  | lockEvent
  | frameLoss
  | stationClockFrame
  | secondAdvance
  | timeReached (entryTag : Nat)
  | validityExpiry (record : RecordId)
  | windowExpiry (record : RecordId)
  | mixFrame
  | routeRampEnd (route : RouteId)
  | gateRampEnd (route : RouteId)
  | voiceHoldExpiry
  | transmitFrame
  | deckFrame (deck : DeckId)
  | prefetchComplete (deck : DeckId)
  | autoFadeStart (deck : DeckId)
  | segueEvent (deck : DeckId)
  | playEnd (deck : DeckId)
  | fadeEnd (deck : DeckId)
  | recorderFrame (recorder : RecorderId)
  | cartRecordingFull (recorder : RecorderId)
  | alertDeclaredLength (recorder : RecorderId)
  | alertSlotFull (recorder : RecorderId)
  | delayFrame
  | targetLanding
  | bypassReached
  | delayOverrun
  | dumpCrossfadeEnd
  | switchFrame
  | crossfadeEnd
  | monitorFrame
  | monitorBlockEnd
  | lineQuietFault (line : LineId)
  | lineOverloadChange
  | answerTimerExpiry (line : LineId)
  | linkFrame
  | linkBlockComplete
  | siteReport (port : Port) (word0 word1 word2 : Word32)
  | heartbeatExpiry (port : Port)
  | revertiveReturn
  | serviceWord (word : Word32)
  | badMessage (payload : BitVec 30)
  -- the requests
  | statusRead (tag : Tag)
  | timeSet (tag : Tag) (seconds : Nat)
  | restart (tag : Tag)
  | routeSet (tag : Tag) (index sourceKind sourceNumber destination gain exponent voice duckable : Nat)
  | routeGain (tag : Tag) (index gain exponent : Nat)
  | routeClear (tag : Tag) (index exponent : Nat)
  | routeRead (tag : Tag) (index : Nat)
  | duckSet (tag : Tag) (depth attack release threshold hold : Nat)
  | outmapSet (tag : Tag) (items : List (Nat × Nat))
  | regionSet (tag : Tag) (region startPage pageCount : Nat)
  | cartDefine (tag : Tag) (cart startPage pageCount form cls : Nat)
  | cartDelete (tag : Tag) (cart : Nat)
  | cartMarks (tag : Tag) (cart cueIn cueOut : Nat) (intro segue : Option Nat)
  | cartRecord (tag : Tag) (cart sourceKind sourceNumber : Nat)
  | cartRecordStop (tag : Tag) (cart : Nat)
  | cartRead (tag : Tag) (cart : Nat)
  | deckStart (tag : Tag) (deck : Nat)
  | deckFade (tag : Tag) (deck : Nat)
  | deckCut (tag : Tag) (deck : Nat)
  | deckPause (tag : Tag) (deck : Nat)
  | deckResume (tag : Tag) (deck : Nat)
  | deckRead (tag : Tag) (deck : Nat)
  | orderAppend (tag : Tag) (entry : EntryFields)
  | orderInsert (tag : Tag) (entry : EntryFields) (before : Nat)
  | orderRemove (tag : Tag) (entryTag : Nat)
  | orderClear (tag : Tag)
  | orderNext (tag : Tag)
  | orderHold (tag : Tag)
  | orderRun (tag : Tag)
  | orderRead (tag : Tag) (position : Nat)
  | callAnswer (tag : Tag) (line : Nat)
  | callReady (tag : Tag) (line : Nat)
  | callTake (tag : Tag) (line : Nat)
  | callPark (tag : Tag) (line : Nat)
  | callDrop (tag : Tag) (line : Nat)
  | callSetup (tag : Tag) (limit holdGain : Option Nat) (items : List LineFields)
  | lineRead (tag : Tag) (line : Nat)
  | lineRing (tag : Tag) (line callRef : Nat)
  | lineConnected (tag : Tag) (line callRef : Nat)
  | lineHangup (tag : Tag) (line callRef : Nat)
  | delaySetup (tag : Tag) (target dumpLength buildSlip catchupSlip : Option Nat)
  | delayStart (tag : Tag)
  | delayExit (tag : Tag)
  | delayDump (tag : Tag)
  | delayRead (tag : Tag)
  | alertNotice (tag : Tag) (notice : NoticeFields)
  | alertAudioEnd (tag : Tag) (originator identity : Nat)
  | alertCancel (tag : Tag) (originator identity : Nat)
  | alertConfirm (tag : Tag) (record : Nat)
  | alertDecline (tag : Tag) (record : Nat)
  | alertAbort (tag : Tag) (record : Nat)
  | alertForget (tag : Tag) (record : Nat)
  | alertRead (tag : Tag) (record : Nat)
  | filterSet (tag : Tag) (filter : FilterFields)
  | filterClear (tag : Tag) (index : Nat)
  | airSetup (tag : Tag) (cart enable fadeMs : Option Nat)
  | monitorSet (tag : Tag) (setting : Nat) (fields : MonitorFields)
  | monitorClear (tag : Tag) (setting line : Nat)
  | monitorRead (tag : Tag) (setting line : Nat)
  | linkSetup (tag : Tag) (fields : LinkFields)
  | linkSelect (tag : Tag) (port force : Nat)
  | linkRead (tag : Tag)
  deriving DecidableEq, Repr

/-- The request kinds of the kind-code table (R201). -/
inductive RequestKind
  | statusRead | timeSet | restart
  | routeSet | routeGain | routeClear | routeRead | duckSet | outmapSet
  | regionSet | cartDefine | cartDelete | cartMarks | cartRecord | cartRecordStop | cartRead
  | deckStart | deckFade | deckCut | deckPause | deckResume | deckRead
  | orderAppend | orderInsert | orderRemove | orderClear | orderNext | orderHold | orderRun | orderRead
  | callAnswer | callReady | callTake | callPark | callDrop | callSetup | lineRead
  | lineRing | lineConnected | lineHangup
  | delaySetup | delayStart | delayExit | delayDump | delayRead
  | alertNotice | alertAudioEnd | alertCancel
  | alertConfirm | alertDecline | alertAbort | alertForget | alertRead | filterSet | filterClear
  | airSetup | monitorSet | monitorClear | monitorRead
  | linkSetup | linkSelect | linkRead
  deriving DecidableEq, Repr

/-- The three sender classes of the inbound trunk and recipients of the outbound trunk (R194, R200). -/
inductive Party
  | console
  | alertRx
  | phone
  deriving DecidableEq, Repr

/-- The payload with all 30 bits set: the code for none and for ANY (R201). -/
def noneCode : Nat := 1073741823

end Sys2Proof
end

