-- ==== Sys2Proof/Decode.lean ====
section
/-!
DEFINITION. Commands by the bits of the operation table. The table gives its rows no bits: a request is
spelled by the words of a service message, which Machine/Service.lean decodes (R200, R201), and an event by
no word at all (notes/assumptions/20.md).
-/

namespace Sys2Proof

/-- The command that a word spells by the table's bits: none, since no row gives bits. -/
def decodeTableWord (_nbits _w : Nat) : Option Instr := none

end Sys2Proof
end

