-- ==== Sys2Proof/Machine/State.lean ====
section
/-!
DEFINITION. The state of the Dorban 716: every record the manual gives the part, as plain data, with
its power-on values, and the queue of commands that wait to be taken.
Fields marked MODEL'S OWN are not records of the manual; the assumption log says why each is there.
-/

namespace Sys2Proof.Machine

/-! ### Chapter 1: trunk, clock and out-map -/

/-- The receiver's lock states (R2 to R6), in the order of section 1.2. -/
inductive LockState
  | noSignal | acquiring | settling | locked
  deriving DecidableEq, Repr

/-- The source of frame timing (R7): the inbound trunk, or the local crystal, which the manual calls LOCAL. -/
inductive ClockSource
  | trunk | crystal
  deriving DecidableEq, Repr

/-- The signals an out-map entry may name (R10). -/
inductive Signal
  | airL | airR | pgmL | pgmR | dlyL | dlyR | cueL | cueR | scr
  | lineReturn (line : LineId)
  | holdFeed | silence
  deriving DecidableEq, Repr

/-- The Trunk Receiver's record (R1 to R6, R15). -/
structure Trunk where
  lock : LockState
  settleCount : Nat
  failureCount : Nat
  /-- Whether the receiver hands on the service word of the present inbound frame: it does so only
  while LOCKED and at an aligned frame (R1, R194). -/
  handsWord : Bool
  deriving DecidableEq, Repr

def Trunk.reset : Trunk :=
  { lock := .noSignal, settleCount := 0, failureCount := 0, handsWord := false }

/-- The Station Clock's record (section 1.5, R12). -/
structure Clock where
  source : ClockSource
  frameCount : Nat
  seconds : Nat
  timeValid : Bool
  holdover : Nat
  deriving DecidableEq, Repr

def Clock.reset : Clock :=
  { source := .crystal, frameCount := 0, seconds := 0, timeValid := false, holdover := 0 }

/-- The out-map at power-on (R10). -/
def outMapReset : Vector Signal 16 :=
  #v[.airL, .airR, .lineReturn 0, .lineReturn 1, .lineReturn 2, .lineReturn 3, .lineReturn 4,
     .lineReturn 5, .silence, .silence, .silence, .silence, .silence, .silence, .silence, .silence]

/-- One outbound trunk frame (R9): the pins of the outbound trunk as last driven. -/
structure OutFrame where
  lanes : Vector Sample 16
  word : Word32
  deriving DecidableEq, Repr

def OutFrame.reset : OutFrame := { lanes := Vector.replicate 16 0, word := 0 }

/-! ### Audio values -/

/-- A stereo value: an L side and an R side. -/
structure Stereo where
  l : Sample
  r : Sample
  deriving DecidableEq, Repr

def Stereo.silence : Stereo := { l := 0, r := 0 }

/-- A deck's output, in its form (R60). -/
inductive Frame
  | mono (s : Sample)
  | stereo (l r : Sample)
  deriving DecidableEq, Repr

/-- What the blocks complete at a frame event and their users take at the next one (R8). -/
structure Outputs where
  lanes : Vector Sample 16
  pgm : Stereo
  cue : Stereo
  scr : Sample
  returns : Vector Sample 6
  holdFeed : Sample
  decks : Vector Frame 6
  dly : Stereo
  air : Stereo
  deriving DecidableEq, Repr

def Outputs.reset : Outputs :=
  { lanes := Vector.replicate 16 0, pgm := .silence, cue := .silence, scr := 0
    returns := Vector.replicate 6 0, holdFeed := 0, decks := Vector.replicate 6 (.mono 0)
    dly := .silence, air := .silence }

/-! ### Chapter 2: the Mix Engine -/

/-- Where a route's samples come from (R17, R18). -/
inductive RouteSource
  | lane (x : Fin 16)
  | pair (k : Fin 8)
  | deck (n : Fin 4)
  | line (k : LineId)
  deriving DecidableEq, Repr

/-- A route's destination bus (R17, R19). -/
inductive Bus
  | pgm | cue | scr
  deriving DecidableEq, Repr

/-- One entry of the route table (R17). -/
structure Route where
  inUse : Bool
  clearing : Bool
  source : RouteSource
  destination : Bus
  target : Nat
  current : Nat
  exponent : Nat
  remaining : Nat
  step : Int
  voice : Bool
  duckable : Bool
  gateFactor : Nat
  gateRemaining : Nat
  gateStep : Int
  /-- The gate target last set (R20): whether the gate is, or is moving, open. -/
  gateOpen : Bool
  deriving DecidableEq, Repr

/-- A free entry: in-use no, clearing clear, every numeric field 0 (R17). -/
def Route.free : Route :=
  { inUse := false, clearing := false, source := .lane 0, destination := .pgm, target := 0
    current := 0, exponent := 0, remaining := 0, step := 0, voice := false, duckable := false
    gateFactor := 0, gateRemaining := 0, gateStep := 0, gateOpen := false }

/-- The five duck settings (R33). -/
structure DuckSettings where
  depth : Nat
  attack : Nat
  release : Nat
  threshold : Nat
  hold : Nat
  deriving DecidableEq, Repr

def DuckSettings.reset : DuckSettings :=
  { depth := 8192, attack := 64, release := 8, threshold := 131072, hold := 24000 }

/-- The Mix Engine's record: the route table and the duck state (R17, R24, R25). -/
structure Mix where
  routes : Vector Route 48
  duck : DuckSettings
  duckFactor : Nat
  sinceVoice : Nat
  deriving DecidableEq, Repr

def Mix.reset : Mix :=
  { routes := Vector.replicate 48 .free, duck := .reset, duckFactor := 16384, sinceVoice := 48001 }

/-! ### Chapter 3: the sample store, carts and recorders -/

/-- One written word of the store: its address and its sample. -/
abbrev StoreCell := Nat × Sample

/-- The sample store (R37): the words written since power-on, addresses strictly rising. -/
structure Store where
  cells : List StoreCell
  /-- MODEL'S OWN: how many power-ons have been taken, the argument of the free contents. -/
  powerOns : Nat
  deriving DecidableEq, Repr

def Store.reset : Store := { cells := [], powerOns := 0 }

/-- A region record (R39). -/
structure Region where
  start : Nat
  pages : Nat
  deriving DecidableEq, Repr

def Region.none : Region := { start := 0, pages := 0 }

/-- MONO or STEREO (R41). -/
inductive Form
  | mono | stereo
  deriving DecidableEq, Repr

/-- A cart's class (R41). -/
inductive CartClass
  | program | service
  deriving DecidableEq, Repr

/-- A cart's state (R42). -/
inductive CartState
  | empty | defined | recording | ready
  deriving DecidableEq, Repr

/-- A cart record (R41). -/
structure Cart where
  state : CartState
  start : Nat
  pages : Nat
  form : Form
  cls : CartClass
  length : Nat
  cueIn : Nat
  intro : Option Nat
  segue : Option Nat
  cueOut : Nat
  deriving DecidableEq, Repr

def Cart.empty : Cart :=
  { state := .empty, start := 0, pages := 0, form := .mono, cls := .program, length := 0
    cueIn := 0, intro := none, segue := none, cueOut := 0 }

/-- A recorder's source (R48). -/
inductive RecordSource
  | lane (x : Fin 16)
  | pair (k : Fin 8)
  deriving DecidableEq, Repr

/-- A recorder's binding with its target (R48). -/
inductive Binding
  | free
  | cart (c : CartId)
  | alert (i : RecordId)
  deriving DecidableEq, Repr

/-- A recorder (R48). -/
structure Recorder where
  binding : Binding
  source : RecordSource
  position : Nat
  limit : Nat
  grantOrder : Nat
  deriving DecidableEq, Repr

def Recorder.free : Recorder :=
  { binding := .free, source := .lane 0, position := 0, limit := 0, grantOrder := 0 }

/-- The Sample Store controller's records other than the store's words (R39, R41, R48). -/
structure Library where
  delayRegion : Region
  alertRegion : Region
  carts : Vector Cart 256
  recorders : Vector Recorder 4
  /-- The last grant order given (R48). -/
  lastGrant : Nat
  deriving DecidableEq, Repr

def Library.reset : Library :=
  { delayRegion := .none, alertRegion := .none, carts := Vector.replicate 256 .empty
    recorders := Vector.replicate 4 .free, lastGrant := 0 }

/-! ### Chapter 4: decks -/

/-- A deck's state (R57). -/
inductive DeckState
  | empty | loading | cued | playing | fading | paused | done
  deriving DecidableEq, Repr

/-- What a deck plays (R55). -/
inductive DeckSource
  | none
  | cart (c : CartId)
  | slot (i : RecordId)
  deriving DecidableEq, Repr

/-- Why a deck last reached DONE (R55). -/
inductive EndCause
  | played | cut
  deriving DecidableEq, Repr

/-- The state a PAUSED deck returns to (R55). -/
inductive PriorState
  | playing | fading
  deriving DecidableEq, Repr

/-- A deck record (R55). -/
structure Deck where
  state : DeckState
  source : DeckSource
  form : Form
  cueIn : Nat
  playEnd : Nat
  position : Nat
  seguePoint : Option Nat
  segueSent : Bool
  gain : Nat
  fadeLength : Nat
  fadeSpan : Nat
  fadeRemaining : Nat
  loop : Bool
  pausedForAlert : Bool
  prior : Option PriorState
  audibleOrder : Nat
  entryTag : Nat
  endCause : Option EndCause
  /-- MODEL'S OWN: the deck's frame events since its LOAD, for the 960-frame bound of R59. -/
  loadAge : Nat
  deriving DecidableEq, Repr

def Deck.reset : Deck :=
  { state := .empty, source := .none, form := .mono, cueIn := 0, playEnd := 0, position := 0
    seguePoint := none, segueSent := false, gain := 0, fadeLength := 0, fadeSpan := 0
    fadeRemaining := 0, loop := false, pausedForAlert := false, prior := none, audibleOrder := 0
    entryTag := 0, endCause := none, loadAge := 0 }

/-- The six deck records and the last audible order given (R55, R67). -/
structure Decks where
  decks : Vector Deck 6
  lastAudible : Nat
  deriving DecidableEq, Repr

/-- That the first audible order given is 1, the last given being 0 at power-on, is the model's choice
(notes/assumptions/26.md). -/
def Decks.reset : Decks := { decks := Vector.replicate 6 .reset, lastAudible := 0 }

/-! ### Chapter 5: the running order -/

/-- How an entry is started (R75). -/
inductive StartMode
  | manual | segue | timed
  deriving DecidableEq, Repr

/-- An entry's state (R76). -/
inductive EntryState
  | waiting | assigned | airing
  deriving DecidableEq, Repr

/-- A running-order entry (R75). -/
structure Entry where
  tag : Nat
  cart : CartId
  mode : StartMode
  startTime : Option Nat
  gain : Option Nat
  fadeMs : Option Nat
  segueOverride : Option Nat
  state : EntryState
  deck : Option DeckId
  startNumber : Nat
  seguePassed : Bool
  timeReached : Bool
  skipPending : Bool
  deriving DecidableEq, Repr

/-- The Running Order controller's record (R75). -/
structure Order where
  entries : List Entry
  hold : Bool
  lastStart : Nat
  deriving DecidableEq, Repr

def Order.reset : Order := { entries := [], hold := false, lastStart := 0 }

/-! ### Chapter 6: caller lines -/

/-- A line's state (R95). -/
inductive LineState
  | idle | ringing | answering | screen | hold | onAir
  deriving DecidableEq, Repr

/-- A line record (R95). -/
structure Line where
  state : LineState
  callRef : Nat
  inLane : Option (Fin 16)
  returnGain : Nat
  muted : Bool
  answerTimer : Nat
  deriving DecidableEq, Repr

def Line.reset : Line :=
  { state := .idle, callRef := 0, inLane := none, returnGain := 16384, muted := false
    answerTimer := 0 }

/-- What the Monitor block hands the Caller Line controller, to be taken at the controller's own
event (R110). -/
inductive LineNotice
  | quietFault (line : LineId)
  | overloadFault (line : LineId)
  | overloadClear (line : LineId)
  | scopeChange
  deriving DecidableEq, Repr

/-- The Caller Line controller's records (R95, R96, R103). -/
structure Callers where
  lines : Vector Line 6
  queue : List LineId
  limit : Nat
  holdGain : Nat
  deriving DecidableEq, Repr

def Callers.reset : Callers :=
  { lines := Vector.replicate 6 .reset, queue := [], limit := 2, holdGain := 8192 }

/-! ### Chapter 7: the air delay -/

/-- The delay's state (R115, R118). -/
inductive DelayState
  | bypass | build | steady | catchup | exit | held
  deriving DecidableEq, Repr

/-- The delay record (R115). -/
structure Delay where
  state : DelayState
  prior : Option DelayState
  written : Nat
  readPos : Int
  startMark : Nat
  bypassFrame : Stereo
  target : Nat
  dumpLength : Nat
  buildSlip : Nat
  catchupSlip : Nat
  exitFlag : Bool
  overrunFlag : Bool
  crossfade : Nat
  oldReadPos : Int
  deriving DecidableEq, Repr

def Delay.reset : Delay :=
  { state := .bypass, prior := none, written := 0, readPos := 0, startMark := 0
    bypassFrame := .silence, target := 480000, dumpLength := 240000, buildSlip := 128
    catchupSlip := 128, exitFlag := false, overrunFlag := false, crossfade := 0, oldReadPos := 0 }

/-! ### Chapter 8: emergency alerts -/

/-- An alert record's state (R143). -/
inductive AlertState
  | free | recording | awaiting | queued | airing | aired | logged | declined | cancelled | expired
  | aborted
  deriving DecidableEq, Repr

/-- A filter's action (R140); a record's action is one of the first three (R143). -/
inductive AlertAction
  | auto | confirm | log | ignore
  deriving DecidableEq, Repr

/-- A filter's window-expiry action (R140). -/
inductive ExpiryAction
  | air | drop
  deriving DecidableEq, Repr

/-- A filter entry (R140); an event class of `none` is ANY. -/
structure Filter where
  inUse : Bool
  eventClass : Option Nat
  minSeverity : Nat
  areas : List Nat
  action : AlertAction
  confirmWindow : Nat
  expiryAction : ExpiryAction
  leadIn : Option CartId
  leadOut : Option CartId
  deriving DecidableEq, Repr

/-- An entry not in use (R136); its other fields are not read. -/
def Filter.unused : Filter :=
  { inUse := false, eventClass := none, minSeverity := 0, areas := [], action := .auto
    confirmWindow := 0, expiryAction := .air, leadIn := none, leadOut := none }

/-- An alert record (R143). -/
structure AlertRecord where
  state : AlertState
  originator : Nat
  identity : Nat
  eventClass : Nat
  severity : Nat
  areas : List Nat
  issueTime : Nat
  audioLane : Nat
  declaredLength : Nat
  validUntil : Nat
  filter : Option (Fin 24)
  action : AlertAction
  confirmWindow : Nat
  expiryAction : ExpiryAction
  leadIn : Option CartId
  leadOut : Option CartId
  arrival : Nat
  confirmedEarly : Bool
  truncated : Bool
  recordedLength : Nat
  queueEntry : Nat
  deadline : Option Nat
  /-- Whether valid-until was reached while the record was RECORDING: a deadline already reached stays reached
  (R148), though nothing else happens to the record then (R149). -/
  validUntilReached : Bool
  deriving DecidableEq, Repr

/-- A FREE record: every field at 0 or absent and both flags clear (R136). -/
def AlertRecord.free : AlertRecord :=
  { state := .free, originator := 0, identity := 0, eventClass := 0, severity := 0, areas := []
    issueTime := 0, audioLane := 0, declaredLength := 0, validUntil := 0, filter := none
    action := .auto, confirmWindow := 0, expiryAction := .air, leadIn := none, leadOut := none
    arrival := 0, confirmedEarly := false, truncated := false, recordedLength := 0, queueEntry := 0
    deadline := none, validUntilReached := false }

/-- The parts of an airing (R153). -/
inductive Part
  | leadIn | slot | leadOut
  deriving DecidableEq, Repr

/-- The Alert controller's records (section 8.1, R136). -/
structure Alerts where
  filters : Vector Filter 24
  recent : List (Nat × Nat)
  records : Vector AlertRecord 16
  airing : Option RecordId
  part : Part
  decksPaused : Bool
  arrivalCount : Nat
  queueCount : Nat
  deriving DecidableEq, Repr

def Alerts.reset : Alerts :=
  { filters := Vector.replicate 24 .unused, recent := [], records := Vector.replicate 16 .free
    airing := none, part := .leadIn, decksPaused := false, arrivalCount := 0, queueCount := 0 }

/-! ### Chapter 9: the air switch and the monitors -/

/-- The air owner (R160). -/
inductive AirOwner
  | program | alert | fallback
  deriving DecidableEq, Repr

/-- The Air Switch's record (R160). -/
structure AirSwitch where
  owner : AirOwner
  runFlag : Bool
  outgoing : Option AirOwner
  weight : Nat
  span : Nat
  fallbackCart : Option CartId
  fallbackEnable : Bool
  fadeLength : Nat
  deriving DecidableEq, Repr

def AirSwitch.reset : AirSwitch :=
  { owner := .program, runFlag := false, outgoing := none, weight := 0, span := 480
    fallbackCart := none, fallbackEnable := false, fadeLength := 480 }

/-- A monitor's mode (R168, R172). -/
inductive MonitorMode
  | latched | auto | report | off
  deriving DecidableEq, Repr

/-- The LINE-overload scope (R168). -/
inductive Scope
  | line | all
  deriving DecidableEq, Repr

/-- One of the eight monitor settings (R168). -/
structure MonitorSetting where
  mode : MonitorMode
  threshold : Nat
  warn : Nat
  fault : Nat
  hold : Nat
  restore : Nat
  scope : Scope
  deriving DecidableEq, Repr

/-- A monitor's state (R168). -/
inductive MonitorState
  | clear | warning | fault
  deriving DecidableEq, Repr

/-- One of the eighteen monitor cells: an instance of a setting at a point or a line (R168). -/
structure MonitorCell where
  state : MonitorState
  persistence : Nat
  restoreCount : Nat
  peakL : Nat
  peakR : Nat
  /-- Whether the block being measured is to be discarded (R169). -/
  discard : Bool
  deriving DecidableEq, Repr

def MonitorCell.reset : MonitorCell :=
  { state := .clear, persistence := 0, restoreCount := 0, peakL := 0, peakR := 0, discard := false }

/-- The silence and quiet settings at power-on (R168), with the given mode. -/
def MonitorSetting.silenceReset (mode : MonitorMode) : MonitorSetting :=
  { mode := mode, threshold := 8389, warn := 10, fault := 30, hold := 10, restore := 5
    scope := .line }

/-- The overload settings at power-on (R168). -/
def MonitorSetting.overloadReset : MonitorSetting :=
  { mode := .off, threshold := 8300000, warn := 10, fault := 30, hold := 10, restore := 5
    scope := .line }

/-- The Monitor block's records (R168, R169). Settings are numbered as R201 lists them: 0 PGM-silence,
1 PGM-overload, 2 DLY-silence, 3 DLY-overload, 4 AIR-silence, 5 AIR-overload, 6 LINE-quiet,
7 LINE-overload. Cells 0 to 5 are the point instances of settings 0 to 5; cell 6 + k is LINE-quiet of
Lk and cell 12 + k is LINE-overload of Lk. -/
structure Monitors where
  settings : Vector MonitorSetting 8
  cells : Vector MonitorCell 18
  phase : Nat
  /-- Changes handed to the Caller Line controller and not yet taken, oldest first (R110). -/
  lineNotices : List LineNotice
  deriving DecidableEq, Repr

def Monitors.reset : Monitors :=
  { settings := #v[.silenceReset .off, .overloadReset, .silenceReset .off, .overloadReset,
      .silenceReset .report, .overloadReset, .silenceReset .off, .overloadReset]
    cells := Vector.replicate 18 .reset, phase := 0, lineNotices := [] }

/-! ### Chapter 10: the transmitter link -/

/-- The carrier as the site reports it (R183). -/
inductive Carrier
  | on | off
  deriving DecidableEq, Repr

/-- The site's power (R183). -/
inductive SitePower
  | mains | standby
  deriving DecidableEq, Repr

/-- A site status: each value unknown (`none`) or known (R179). -/
structure SiteStatus where
  carrier : Option Carrier
  power : Option SitePower
  silence : Option Bool
  deriving DecidableEq, Repr

def SiteStatus.unknown : SiteStatus := { carrier := none, power := none, silence := none }

/-- A port's health (R184). -/
inductive Health
  | down | proving | up | lagging
  deriving DecidableEq, Repr

/-- A port record (R179). -/
structure PortRecord where
  health : Health
  proving : Nat
  heartbeat : Nat
  acknowledged : Nat
  site : SiteStatus
  taken : Nat
  discarded : Nat
  deriving DecidableEq, Repr

def PortRecord.reset : PortRecord :=
  { health := .down, proving := 0, heartbeat := 0, acknowledged := 0, site := .unknown, taken := 0
    discarded := 0 }

/-- The Link controller's record (R179). -/
structure Link where
  active : Port
  preferred : Port
  revertive : Bool
  revertHold : Nat
  revertTimer : Nat
  timeoutMs : Nat
  lagLimit : Nat
  blockLength : Nat
  nextLength : Nat
  phase : Nat
  counter : Nat
  peak : Nat
  lastPeak : Nat
  site : SiteStatus
  mismatch : Bool
  portA : PortRecord
  portB : PortRecord
  /-- The AIR frames gathered into the present block, oldest first (R180). -/
  gathered : List Stereo
  /-- The words of the last block sent on each port: the pins of the link ports (R182, R202). -/
  sentA : List Word32
  sentB : List Word32
  deriving DecidableEq, Repr

def Link.reset : Link :=
  { active := .a, preferred := .a, revertive := false, revertHold := 60, revertTimer := 0
    timeoutMs := 1000, lagLimit := 500, blockLength := 96, nextLength := 96, phase := 0, counter := 0
    peak := 0, lastPeak := 0, site := .unknown, mismatch := false, portA := .reset, portB := .reset
    gathered := [], sentA := [], sentB := [] }

/-! ### Chapter 11: the service channel -/

/-- The status codes (R196). -/
inductive Status
  | done | badForm | badCheck | unknown | denied | range | state | busy | full | absent | notSafe
  | alertOnAir | noTime
  deriving DecidableEq, Repr

/-- Why a cart recording ended normally (R52). -/
inductive DoneCause
  | stop | full
  deriving DecidableEq, Repr

/-- Why a cart recording was abandoned (R53). -/
inductive AbandonCause
  | lost | alert
  deriving DecidableEq, Repr

/-- Why an entry was removed (R45, R65). -/
inductive RemoveCause
  | cart | cut
  deriving DecidableEq, Repr

/-- Why an entry was started (R80). -/
inductive StartCause
  | request | segue | timed
  deriving DecidableEq, Repr

/-- Why the delay changed state (R124). -/
inductive DelayCause
  | request | target | bypassReached | alert
  deriving DecidableEq, Repr

/-- Why a notice was rejected (R139, R142). -/
inductive RejectCause
  | expired | filtered | tableFull | noRegion | noRecorder
  deriving DecidableEq, Repr

/-- Why a part was skipped (R153). -/
inductive SkipCause
  | notReady | wrongClass
  deriving DecidableEq, Repr

/-- Why the air owner changed (R162). -/
inductive OwnerCause
  | alertStart | alertEnd | dlyFault | dlyClear | setup
  deriving DecidableEq, Repr

/-- Why the fallback deck could not be loaded (R165). -/
inductive FallbackCause
  | noCart | notReady | wrongClass
  deriving DecidableEq, Repr

/-- Why the active port changed (R186, R187, R190). -/
inductive PortCause
  | portDown | portUp | revert | select
  deriving DecidableEq, Repr

/-- The pair, class, severity and filter index that an intake report carries (R142). -/
structure NoticeReport where
  originator : Nat
  identity : Nat
  eventClass : Nat
  severity : Nat
  filter : Option (Fin 24)
  deriving DecidableEq, Repr

/-- A value of the site status, in a LINK_EVENT SITE (R188). -/
inductive SiteChange
  | carrier (old : Option Carrier) (new : Carrier)
  | power (old : Option SitePower) (new : SitePower)
  | silence (old : Option Bool) (new : Bool)
  deriving DecidableEq, Repr

/-- The reports to CONSOLE (R201), each with the contents its reporting rule names. -/
inductive Report
  | trunkLocked (holdover : Nat)
  | trunkLost
  | routeFreed (route : RouteId)
  | recordDone (cart : CartId) (length : Nat) (cause : DoneCause)
  | recordAbandoned (cart : CartId) (cause : AbandonCause) (frames : Nat)
  | deckLoaded (deck : DeckId) (source : DeckSource)
  | deckEnded (deck : DeckId) (source : DeckSource) (cause : EndCause)
  | deckLateStart (deck : DeckId) (tag : Nat)
  | entryPlayed (tag : Nat) (deck : DeckId)
  | entryCut (tag : Nat) (deck : DeckId)
  | entryRemoved (cause : RemoveCause) (tag : Nat)
  | entrySkipped (tag : Nat)
  | entryStarted (tag : Nat) (deck : DeckId) (cause : StartCause)
  | entryUnassigned (tag : Nat) (deck : DeckId)
  | callRinging (line : LineId) (callRef : Nat)
  | callConnected (line : LineId) (callRef : Nat)
  | callAnswerFailed (line : LineId) (callRef : Nat)
  | callHangup (line : LineId) (callRef : Nat) (left : LineState)
  | callDropped (line : LineId) (callRef : Nat)
  | callMuted (line : LineId) (callRef : Nat)
  | callUnmuted (line : LineId) (callRef : Nat)
  | delaySafe (length dump : Nat)
  | delayNotSafe (length dump : Nat)
  | delayState (old new : DelayState) (length : Nat) (cause : DelayCause)
  | delayDumped (amount length : Nat)
  | delayOverrun (written length : Nat)
  | alertAccepted (notice : NoticeReport) (record : RecordId)
  | alertLogged (notice : NoticeReport) (record : Option RecordId)
  | alertRejected (notice : NoticeReport) (cause : RejectCause)
  | alertDuplicate (originator identity : Nat)
  | alertRecorded (record : RecordId) (length : Nat) (truncated : Bool)
  | alertExpired (record : RecordId)
  | alertWindowExpired (record : RecordId) (outcome : AlertState)
  | alertCancelled (record : RecordId) (left : AlertState)
  | alertConfirmed (record : RecordId)
  | alertDeclined (record : RecordId)
  | alertAiring (record : RecordId)
  | alertAired (record : RecordId)
  | alertAbortedLost (record : RecordId)
  | alertAbortedRequest (record : RecordId)
  | alertPartSkipped (record : RecordId) (part : Part) (cart : CartId) (cause : SkipCause)
  | airOwner (old new : AirOwner) (cause : OwnerCause)
  | airNoFallback (cause : FallbackCause)
  | monitorState (setting : Fin 8) (line : Option LineId) (old new : MonitorState) (peak : Nat)
  | linkHealth (port : Port) (old new : Health)
  | linkChangeover (old new : Port) (cause : PortCause) (counter : Nat)
  | linkBothDown
  | linkSite (change : SiteChange)
  | linkMismatch (peak acknowledged : Nat)
  deriving DecidableEq, Repr

/-- An outbound message (R197): a reply with its data words, a report, or a command to PHONE. A reply
carries the code of the request kind it answers (R201). -/
inductive Outbound
  | reply (party : Party) (tag : Tag) (kind : Nat) (status : Status) (data : List Nat)
  | report (r : Report)
  | phoneAnswer (line : LineId) (callRef : Nat)
  | phoneRelease (line : LineId) (callRef : Nat)
  deriving DecidableEq, Repr

/-- The egress queue and the dropped flags (section 11.2, R197). -/
structure Egress where
  queue : List Outbound
  /-- Words of the head message already sent. -/
  sent : Nat
  /-- MODEL'S OWN: places secured for the reply and commands of the request being carried out (R197);
  0 between events. -/
  reserved : Nat
  reportsDropped : Bool
  requestsDropped : Bool
  deriving DecidableEq, Repr

def Egress.reset : Egress :=
  { queue := [], sent := 0, reserved := 0, reportsDropped := false, requestsDropped := false }

/-- The open inbound message (R194): the header's fields, the NEXT payloads in order, the running sum. -/
structure OpenMessage where
  cls : Nat
  kind : Nat
  tag : Tag
  count : Nat
  fields : List Nat
  sum : Nat
  deriving DecidableEq, Repr

/-! ### The whole part -/

/-- The blocks whose rules call on one another inside one event: an operation on the rig can change
these and nothing else of the part. -/
structure Rig where
  egress : Egress
  library : Library
  decks : Decks
  order : Order
  delay : Delay
  alerts : Alerts
  airSwitch : AirSwitch
  monitors : Monitors
  deriving DecidableEq, Repr

def Rig.reset : Rig :=
  { egress := .reset, library := .reset, decks := .reset, order := .reset, delay := .reset
    alerts := .reset, airSwitch := .reset, monitors := .reset }

/-- The state of the Dorban 716. -/
structure State where
  trunk : Trunk
  clock : Clock
  /-- The service message being assembled (R15, R194). -/
  inbound : Option OpenMessage
  outMap : Vector Signal 16
  outFrame : OutFrame
  mix : Mix
  store : Store
  callers : Callers
  link : Link
  rig : Rig
  /-- What the blocks have completed at the present frame event (R8). -/
  completed : Outputs
  /-- What the blocks had completed at the frame event before, which their users take (R8). -/
  taken : Outputs
  /-- MODEL'S OWN: the commands that wait, first in, first out. -/
  pending : List Instr
  deriving DecidableEq, Repr

/-- The part after power-on or a release of the reset pin (R15, R35, R37, R39, R41, R48, R55, R75, R95,
R96, R103, R115, R136, R160, R168, R179, R199), with no command waiting. -/
def State.reset : State :=
  { trunk := .reset, clock := .reset, inbound := none, outMap := outMapReset, outFrame := .reset
    mix := .reset, store := .reset, callers := .reset, link := .reset, rig := .reset
    completed := .reset, taken := .reset, pending := [] }

/-- The faults of the machine. -/
inductive Fault
  /-- A frame event would read or write a word outside the sample store's 268,435,456 words (R37).
  Raised by DECK_FRAME, RECORDER_FRAME, DELAY_FRAME and the events that are one of them. No state that
  requests build reaches it, since R40 and R44 keep every region and extent inside the store: safe. -/
  | noSuchWord
  deriving DecidableEq, Repr

/-- The refusals of the machine. -/
inductive Refusal
  /-- The command has no meaning in this model; raised by `exec` alone, for no command at present: safe. -/
  | notModelled (mnemonic : String)
  deriving DecidableEq, Repr

/-- The answer of one command or step. -/
abbrev Answer := Host.Outcome State Fault Refusal

end Sys2Proof.Machine
end

