-- ==== Sys2Proof/Machine/Operands.lean ====
section
/-!
DEFINITION. Operand forms: the codes of kinds, enumerations and special values (R201), read from a
message's numbers and written into a message's data words. A reader of a code answers `none` outside
its values; the owner then refuses with RANGE.
-/

namespace Sys2Proof

/-! ### Kinds, senders and ports -/

/-- The kind codes (R201). -/
def RequestKind.code : RequestKind → Nat
  | .statusRead => 0x01 | .timeSet => 0x02 | .restart => 0x03
  | .routeSet => 0x10 | .routeGain => 0x11 | .routeClear => 0x12 | .routeRead => 0x13
  | .duckSet => 0x14 | .outmapSet => 0x15
  | .regionSet => 0x20 | .cartDefine => 0x21 | .cartDelete => 0x22 | .cartMarks => 0x23
  | .cartRecord => 0x24 | .cartRecordStop => 0x25 | .cartRead => 0x26
  | .deckStart => 0x30 | .deckFade => 0x31 | .deckCut => 0x32 | .deckPause => 0x33
  | .deckResume => 0x34 | .deckRead => 0x35
  | .orderAppend => 0x38 | .orderInsert => 0x39 | .orderRemove => 0x3A | .orderClear => 0x3B
  | .orderNext => 0x3C | .orderHold => 0x3D | .orderRun => 0x3E | .orderRead => 0x3F
  | .callAnswer => 0x40 | .callReady => 0x41 | .callTake => 0x42 | .callPark => 0x43
  | .callDrop => 0x44 | .callSetup => 0x45 | .lineRead => 0x46
  | .lineRing => 0x48 | .lineConnected => 0x49 | .lineHangup => 0x4A
  | .delaySetup => 0x50 | .delayStart => 0x51 | .delayExit => 0x52 | .delayDump => 0x53
  | .delayRead => 0x54
  | .alertNotice => 0x60 | .alertAudioEnd => 0x61 | .alertCancel => 0x62
  | .alertConfirm => 0x68 | .alertDecline => 0x69 | .alertAbort => 0x6A | .alertForget => 0x6B
  | .alertRead => 0x6C | .filterSet => 0x6D | .filterClear => 0x6E
  | .airSetup => 0x70 | .monitorSet => 0x71 | .monitorClear => 0x72 | .monitorRead => 0x73
  | .linkSetup => 0x78 | .linkSelect => 0x79 | .linkRead => 0x7A

/-- The sender that may send a kind (R196, check 4). -/
def RequestKind.sender : RequestKind → Party
  | .alertNotice | .alertAudioEnd | .alertCancel => .alertRx
  | .lineRing | .lineConnected | .lineHangup => .phone
  | _ => .console

/-- The class or recipient code of a party (R194, R200). -/
def Party.code : Party → Nat
  | .console => 1
  | .alertRx => 2
  | .phone => 3

def Port.code : Port → Nat
  | .a => 0 | .b => 1

end Sys2Proof

namespace Sys2Proof.Machine

/-! ### Numbers to indexes -/

/-- The index `k` of a collection of `n`, if there is one. -/
def index? (n k : Nat) : Option (Fin n) := if h : k < n then some ⟨k, h⟩ else none

/-- A flag or on/off field: 0 clear or off, 1 set or on (R201). -/
def flag? : Nat → Option Bool
  | 0 => some false
  | 1 => some true
  | _ => none

/-- A field that must lie from `lo` to `hi`. -/
def inRange? (lo hi k : Nat) : Option Nat := if lo ≤ k ∧ k ≤ hi then some k else none

/-- An optional operand: absent passes as absent, present must be read by `f`. -/
def optional? {α : Type} (f : Nat → Option α) : Option Nat → Option (Option α)
  | none => some none
  | some k => (f k).map some

/-- A value limited to `lo` to `hi` (00_scope, "Values, ranges and clamping"). -/
def clamp (lo hi k : Nat) : Nat := if k < lo then lo else if hi < k then hi else k

/-- A route's source from its kind and number (R17, R29, R201). -/
def routeSource? (kind number : Nat) : Option RouteSource :=
  match kind with
  | 0 => (index? 16 number).map .lane
  | 1 => (index? 8 number).map .pair
  | 2 => (index? 4 number).map .deck
  | 3 => (index? 6 number).map .line
  | _ => none

def bus? : Nat → Option Bus
  | 0 => some .pgm
  | 1 => some .cue
  | 2 => some .scr
  | _ => none

/-- A recorder's source from its kind and number (R50, R201). -/
def recordSource? (kind number : Nat) : Option RecordSource :=
  match kind with
  | 0 => (index? 16 number).map .lane
  | 1 => (index? 8 number).map .pair
  | _ => none

/-- The out-map signals by code (R201). -/
def signal? : Nat → Option Signal
  | 0 => some .airL
  | 1 => some .airR
  | 2 => some .pgmL
  | 3 => some .pgmR
  | 4 => some .dlyL
  | 5 => some .dlyR
  | 6 => some .cueL
  | 7 => some .cueR
  | 8 => some .scr
  | 15 => some .holdFeed
  | 16 => some .silence
  | k + 9 => (index? 6 k).map .lineReturn

def form? : Nat → Option Form
  | 0 => some .mono
  | 1 => some .stereo
  | _ => none

def cartClass? : Nat → Option CartClass
  | 0 => some .program
  | 1 => some .service
  | _ => none

def startMode? : Nat → Option StartMode
  | 0 => some .manual
  | 1 => some .segue
  | 2 => some .timed
  | _ => none

/-- An in-lane: 0 to 15, or none by the special code (R108, R201). -/
def inLane? (k : Nat) : Option (Option (Fin 16)) :=
  if k = noneCode then some none else (index? 16 k).map some

/-- A fallback cart: 0 to 255, or none by the special code (R167, R201). -/
def cartOrNone? (k : Nat) : Option (Option CartId) :=
  if k = noneCode then some none else (index? 256 k).map some

def alertAction? : Nat → Option AlertAction
  | 0 => some .auto
  | 1 => some .confirm
  | 2 => some .log
  | 3 => some .ignore
  | _ => none

def expiryAction? : Nat → Option ExpiryAction
  | 0 => some .air
  | 1 => some .drop
  | _ => none

/-- A filter's event class: 0 to 63, or ANY by the special code (R140, R201). -/
def eventClass? (k : Nat) : Option (Option Nat) :=
  if k = noneCode then some none else (inRange? 0 63 k).map some

def monitorMode? : Nat → Option MonitorMode
  | 0 => some .latched
  | 1 => some .auto
  | 2 => some .report
  | 3 => some .off
  | _ => none

def scope? : Nat → Option Scope
  | 0 => some .line
  | 1 => some .all
  | _ => none

def port? : Nat → Option Port
  | 0 => some .a
  | 1 => some .b
  | _ => none

/-- A block length: 48, 96 or 192 frames (R189). -/
def blockLength? (k : Nat) : Option Nat := if k = 48 ∨ k = 96 ∨ k = 192 then some k else none

/-! ### Kinds and senders by code -/

/-- Every request kind, in the order of the codes. -/
def requestKinds : List RequestKind :=
  [.statusRead, .timeSet, .restart, .routeSet, .routeGain, .routeClear, .routeRead, .duckSet,
   .outmapSet, .regionSet, .cartDefine, .cartDelete, .cartMarks, .cartRecord, .cartRecordStop,
   .cartRead, .deckStart, .deckFade, .deckCut, .deckPause, .deckResume, .deckRead, .orderAppend,
   .orderInsert, .orderRemove, .orderClear, .orderNext, .orderHold, .orderRun, .orderRead,
   .callAnswer, .callReady, .callTake, .callPark, .callDrop, .callSetup, .lineRead, .lineRing,
   .lineConnected, .lineHangup, .delaySetup, .delayStart, .delayExit, .delayDump, .delayRead,
   .alertNotice, .alertAudioEnd, .alertCancel, .alertConfirm, .alertDecline, .alertAbort,
   .alertForget, .alertRead, .filterSet, .filterClear, .airSetup, .monitorSet, .monitorClear,
   .monitorRead, .linkSetup, .linkSelect, .linkRead]

/-- The request kind with a code; `none` for a code that is no request kind (R196, check 3). -/
def requestKind? (code : Nat) : Option RequestKind := requestKinds.find? (fun k => k.code == code)

/-- The sender of an inbound class; `none` for 0, 4, 5 and 6, and for the part's own 7 (R194). -/
def party? : Nat → Option Party
  | 1 => some .console
  | 2 => some .alertRx
  | 3 => some .phone
  | _ => none

/-! ### Values to codes -/

/-- A value of the wide or long form (R201): the quotient by 2^30, then the remainder. -/
def wide (v : Nat) : List Nat := [v / 1073741824, v % 1073741824]

/-- A signed value in the one-word form (R201): a sign word, then the magnitude. -/
def signed (v : Int) : List Nat := [if v < 0 then 1 else 0, v.natAbs]

/-- A signed value in the long form (R201). -/
def signedLong (v : Int) : List Nat := (if v < 0 then 1 else 0) :: wide v.natAbs

/-- An absent value is the special code (R201). -/
def orNone : Option Nat → Nat
  | none => noneCode
  | some v => v

/-- An absent value in the wide form is the special code in both words (notes/assumptions/8.md). -/
def wideOrNone : Option Nat → List Nat
  | none => [noneCode, noneCode]
  | some v => wide v

def Bool.code : Bool → Nat
  | false => 0
  | true => 1

def Status.code : Status → Nat
  | .done => 0 | .badForm => 1 | .badCheck => 2 | .unknown => 3 | .denied => 4 | .range => 5
  | .state => 6 | .busy => 7 | .full => 8 | .absent => 9 | .notSafe => 10 | .alertOnAir => 11
  | .noTime => 12

/-- The lock state's codes in STATUS_READ. No rule lists the four states as a field's values: that they are numbered in
the order of section 1.2, NO_SIGNAL first, and not of R1's table, LOCKED first, is the model's choice
(notes/assumptions/8.md). -/
def LockState.code : LockState → Nat
  | .noSignal => 0 | .acquiring => 1 | .settling => 2 | .locked => 3

def ClockSource.code : ClockSource → Nat
  | .trunk => 0 | .crystal => 1

/-- The source field of a route in ROUTE_READ: that it takes two words, the kind and the number that ROUTE_SET has for
it, is the model's choice, since R201 gives that form for the operands alone (notes/assumptions/8.md). -/
def RouteSource.codes : RouteSource → List Nat
  | .lane x => [0, x]
  | .pair k => [1, k]
  | .deck n => [2, n]
  | .line k => [3, k]

def Bus.code : Bus → Nat
  | .pgm => 0 | .cue => 1 | .scr => 2

def Form.code : Form → Nat
  | .mono => 0 | .stereo => 1

def CartClass.code : CartClass → Nat
  | .program => 0 | .service => 1

def CartState.code : CartState → Nat
  | .empty => 0 | .defined => 1 | .recording => 2 | .ready => 3

def DeckState.code : DeckState → Nat
  | .empty => 0 | .loading => 1 | .cued => 2 | .playing => 3 | .fading => 4 | .paused => 5 | .done => 6

/-- A deck's source: the cart number, 256 plus the slot number, or none (notes/assumptions/8.md). -/
def DeckSource.code : DeckSource → Nat
  | .none => noneCode
  | .cart c => c
  | .slot i => 256 + i

def EndCause.code : EndCause → Nat
  | .played => 0 | .cut => 1

def PriorState.code : PriorState → Nat
  | .playing => 0 | .fading => 1

def StartMode.code : StartMode → Nat
  | .manual => 0 | .segue => 1 | .timed => 2

def EntryState.code : EntryState → Nat
  | .waiting => 0 | .assigned => 1 | .airing => 2

def LineState.code : LineState → Nat
  | .idle => 0 | .ringing => 1 | .answering => 2 | .screen => 3 | .hold => 4 | .onAir => 5

def DelayState.code : DelayState → Nat
  | .bypass => 0 | .build => 1 | .steady => 2 | .catchup => 3 | .exit => 4 | .held => 5

/-- The delay's prior state has values of its own, BUILD, STEADY, CATCHUP and EXIT, coded from 0 in that order
(R115, R201); no other state can be the prior state. -/
def DelayState.priorCode? : DelayState → Option Nat
  | .build => some 0 | .steady => some 1 | .catchup => some 2 | .exit => some 3
  | .bypass | .held => none

def AlertState.code : AlertState → Nat
  | .free => 0 | .recording => 1 | .awaiting => 2 | .queued => 3 | .airing => 4 | .aired => 5
  | .logged => 6 | .declined => 7 | .cancelled => 8 | .expired => 9 | .aborted => 10

def AlertAction.code : AlertAction → Nat
  | .auto => 0 | .confirm => 1 | .log => 2 | .ignore => 3

def ExpiryAction.code : ExpiryAction → Nat
  | .air => 0 | .drop => 1

def Part.code : Part → Nat
  | .leadIn => 0 | .slot => 1 | .leadOut => 2

def AirOwner.code : AirOwner → Nat
  | .program => 0 | .alert => 1 | .fallback => 2

def MonitorMode.code : MonitorMode → Nat
  | .latched => 0 | .auto => 1 | .report => 2 | .off => 3

def Scope.code : Scope → Nat
  | .line => 0 | .all => 1

def MonitorState.code : MonitorState → Nat
  | .clear => 0 | .warning => 1 | .fault => 2

/-- The carrier is an on/off field: 0 off, 1 on (R183, R201). -/
def Carrier.code : Carrier → Nat
  | .off => 0 | .on => 1

def SitePower.code : SitePower → Nat
  | .mains => 0 | .standby => 1

def Health.code : Health → Nat
  | .down => 0 | .proving => 1 | .up => 2 | .lagging => 3

def DoneCause.code : DoneCause → Nat
  | .stop => 0 | .full => 1

def AbandonCause.code : AbandonCause → Nat
  | .lost => 0 | .alert => 1

def RemoveCause.code : RemoveCause → Nat
  | .cart => 0 | .cut => 1

def StartCause.code : StartCause → Nat
  | .request => 0 | .segue => 1 | .timed => 2

def DelayCause.code : DelayCause → Nat
  | .request => 0 | .target => 1 | .bypassReached => 2 | .alert => 3

def RejectCause.code : RejectCause → Nat
  | .expired => 0 | .filtered => 1 | .tableFull => 2 | .noRegion => 3 | .noRecorder => 4

def SkipCause.code : SkipCause → Nat
  | .notReady => 0 | .wrongClass => 1

def OwnerCause.code : OwnerCause → Nat
  | .alertStart => 0 | .alertEnd => 1 | .dlyFault => 2 | .dlyClear => 3 | .setup => 4

def FallbackCause.code : FallbackCause → Nat
  | .noCart => 0 | .notReady => 1 | .wrongClass => 2

def PortCause.code : PortCause → Nat
  | .portDown => 0 | .portUp => 1 | .revert => 2 | .select => 3

/-! ### Message contents -/

/-- The three values of a site status as data words; that unknown is the special code is the model's choice
(notes/assumptions/8.md). -/
def SiteStatus.codes (s : SiteStatus) : List Nat :=
  [orNone (s.carrier.map Carrier.code), orNone (s.power.map SitePower.code),
   orNone (s.silence.map Bool.code)]

/-- The pair, class, severity and filter index of an intake report (R142). -/
def NoticeReport.codes (n : NoticeReport) : List Nat :=
  [n.originator, n.identity, n.eventClass, n.severity, orNone (n.filter.map Fin.val)]

/-- A report's family, subject and data, the data in the order in which each reporting rule names its
contents (R201). The model's choice (notes/assumptions/8.md) are: that CONNECTED, for which R99 names no contents,
carries the line and the call reference; that REMOVED carries its cause and then the entry's tag for cause CUT too, for
which R65 and R85 name the cause alone; and that the outcome in WINDOW_EXPIRED, which R149 does not code, has the code
of the record state it names, QUEUED 3 or DECLINED 7. -/
def Report.fields : Report → List Nat
  | .trunkLocked h => [1, 1] ++ wide h
  | .trunkLost => [1, 2]
  | .routeFreed i => [2, 1, i]
  | .recordDone c n cause => [3, 1, c, n, cause.code]
  | .recordAbandoned c cause n => [3, 2, c, cause.code, n]
  | .deckLoaded d src => [4, 1, d, src.code]
  | .deckEnded d src cause => [4, 2, d, src.code, cause.code]
  | .deckLateStart d tag => [4, 3, d, tag]
  | .entryPlayed tag d => [5, 1, tag, d]
  | .entryCut tag d => [5, 2, tag, d]
  | .entryRemoved cause tag => [5, 3, cause.code, tag]
  | .entrySkipped tag => [5, 4, tag]
  | .entryStarted tag d cause => [5, 5, tag, d, cause.code]
  | .entryUnassigned tag d => [5, 6, tag, d]
  | .callRinging k ref => [6, 1, k, ref]
  | .callConnected k ref => [6, 2, k, ref]
  | .callAnswerFailed k ref => [6, 3, k, ref]
  | .callHangup k ref left => [6, 4, k, ref, left.code]
  | .callDropped k ref => [6, 5, 0, k, ref]
  | .callMuted k ref => [6, 6, k, ref]
  | .callUnmuted k ref => [6, 7, k, ref]
  | .delaySafe d q => [7, 1] ++ wide d ++ [q]
  | .delayNotSafe d q => [7, 2] ++ wide d ++ [q]
  | .delayState old new d cause => [7, 3, old.code, new.code] ++ wide d ++ [cause.code]
  | .delayDumped a d => [7, 4] ++ wide a ++ wide d
  | .delayOverrun w d => [7, 5] ++ wide w ++ wide d
  | .alertAccepted n i => [8, 1] ++ n.codes ++ [i.val]
  | .alertLogged n i => [8, 2] ++ n.codes ++ i.toList.map Fin.val
  | .alertRejected n cause => [8, 3] ++ n.codes ++ [cause.code]
  | .alertDuplicate o i => [8, 4, o, i]
  | .alertRecorded i n t => [8, 5, i, n, Bool.code t]
  | .alertExpired i => [8, 6, i]
  | .alertWindowExpired i out => [8, 7, i, out.code]
  | .alertCancelled i left => [8, 8, i, left.code]
  | .alertConfirmed i => [8, 9, i]
  | .alertDeclined i => [8, 10, i]
  | .alertAiring i => [8, 11, i]
  | .alertAired i => [8, 12, i]
  | .alertAbortedLost i => [8, 13, 0, i]
  | .alertAbortedRequest i => [8, 13, i, 1]
  | .alertPartSkipped i p c cause => [8, 14, i, p.code, c, cause.code]
  | .airOwner old new cause => [9, 1, old.code, new.code, cause.code]
  | .airNoFallback cause => [9, 2, cause.code]
  | .monitorState set line old new peak =>
      [10, 1, set.val] ++ line.toList.map Fin.val ++ [old.code, new.code, peak]
  | .linkHealth p old new => [11, 1, p.code, old.code, new.code]
  | .linkChangeover old new cause n => [11, 2, old.code, new.code, cause.code] ++ wide n
  | .linkBothDown => [11, 3]
  | .linkSite (.carrier old new) => [11, 4, 0, orNone (old.map Carrier.code), new.code]
  | .linkSite (.power old new) => [11, 4, 1, orNone (old.map SitePower.code), new.code]
  | .linkSite (.silence old new) => [11, 4, 2, orNone (old.map Bool.code), Bool.code new]
  | .linkMismatch peak ack => [11, 5, peak] ++ wide ack

/-- The fields of an outbound message, in order (R201). -/
def Outbound.fields : Outbound → List Nat
  | .reply _ _ kind status data => kind :: status.code :: data
  | .report r => r.fields
  | .phoneAnswer k ref => [k, ref]
  | .phoneRelease k ref => [k, ref]

/-- The kind code of an outbound message (R201). -/
def Outbound.kindCode : Outbound → Nat
  | .reply _ _ _ _ _ => 0x80
  | .report _ => 0x81
  | .phoneAnswer _ _ => 0x90
  | .phoneRelease _ _ => 0x91

/-- Replies carry the request's tag; reports and commands carry tag 0 (R197). -/
def Outbound.tag : Outbound → Tag
  | .reply _ tag _ _ _ => tag
  | _ => 0

def Outbound.recipient : Outbound → Party
  | .reply party _ _ _ _ => party
  | .report _ => .console
  | .phoneAnswer _ _ => .phone
  | .phoneRelease _ _ => .phone

/-- Whether a message may be evicted to make room (R197): reports alone. -/
def Outbound.isReport : Outbound → Bool
  | .report _ => true
  | _ => false

/-- A service word: the word code in bits 31–30, the payload in bits 29–0 (R200). -/
def serviceWordOf (code payload : Nat) : Word32 := BitVec.ofNat 32 (code * 1073741824 + payload)

/-- The FIRST payload of an outbound message (R200): class 7, kind, tag, N and the recipient. -/
def Outbound.header (m : Outbound) : Nat :=
  7 * 134217728 + m.kindCode * 524288 + m.tag.toNat * 2048 + m.fields.length * 32 + m.recipient.code

/-- The check of a message (R194): the sum of the FIRST and NEXT payloads modulo 65,536. -/
def checkOf (header : Nat) (fields : List Nat) : Nat := (header + fields.sum) % 65536

/-- The words of an outbound message: FIRST, each NEXT, LAST (R194, R197). -/
def Outbound.words (m : Outbound) : List Word32 :=
  serviceWordOf 1 m.header :: m.fields.map (serviceWordOf 2) ++
    [serviceWordOf 3 (checkOf m.header m.fields)]

end Sys2Proof.Machine
end

