-- ==== Sys2Proof/Machine/Ops.lean ====
section
/-!
DEFINITION. The operations the blocks share: tables, circular numbers, sample arithmetic, the sample
store, the egress queue, and the taking of a request.
-/

namespace Sys2Proof.Machine

/-! ### Tables -/

/-- The table with entry `i` replaced. -/
def vset {α : Type} {n : Nat} (v : Vector α n) (i : Fin n) (x : α) : Vector α n := v.set i.val x i.isLt

/-- The table with entry `i` changed by `f`. -/
def vmodify {α : Type} {n : Nat} (v : Vector α n) (i : Fin n) (f : α → α) : Vector α n :=
  vset v i (f v[i])

/-- The table with every entry changed by `f`; over lists, so that the kernel can run it. -/
def vmap {α β : Type} {n : Nat} (f : α → β) (v : Vector α n) : Vector β n :=
  ⟨(v.toList.map f).toArray, by simp⟩

/-- A table of the values of `f` at the indexes below `n`. -/
def vtable {α : Type} (n : Nat) (f : Fin n → α) : Vector α n :=
  ⟨((List.finRange n).map f).toArray, by simp⟩

def allLines : List LineId := [0, 1, 2, 3, 4, 5]

/-- The program decks P0 to P3. -/
def programDecks : List DeckId := [0, 1, 2, 3]

/-- The alert deck A and the fallback deck F (section 4.1). -/
def deckA : DeckId := 4
def deckF : DeckId := 5

def isProgramDeck (d : DeckId) : Bool := d.val < 4

def allRecorders : List RecorderId := [0, 1, 2, 3]

def allRecords : List RecordId := [0, 1, 2, 3, 4, 5, 6, 7, 8, 9, 10, 11, 12, 13, 14, 15]

/-! ### Circular numbers -/

/-- `x` counts as greater than `y`: the difference modulo 2^32 is from 1 to 2^31 − 1 (R48, R67, R75, R136). -/
def serialGreater (x y : Nat) : Bool :=
  let d := (x + (4294967296 - y % 4294967296)) % 4294967296
  1 ≤ d && d ≤ 2147483647

/-- The next grant order or audible order: after 4,294,967,295 comes 0 (R48, R67). -/
def nextSerial (n : Nat) : Nat := (n + 1) % 4294967296

/-- The next start number, arrival number or queue-entry number: after 4,294,967,295 comes 1 (R75, R136). -/
def nextCount (n : Nat) : Nat := if 4294967295 ≤ n then 1 else n + 1

/-- A count that stops at 4,294,967,295 (R12, R179). -/
def stopCount (n : Nat) : Nat := if 4294967295 ≤ n then 4294967295 else n + 1

/-! ### Sample arithmetic (00_scope, "Arithmetic and rounding") -/

/-- The sample of a value already known to lie in the sample range. -/
def exactSample (x : Int) : Sample := BitVec.ofInt 24 x

/-- Saturated: limited to the sample range (R22). -/
def saturate (x : Int) : Sample :=
  if 8388607 < x then BitVec.ofInt 24 8388607
  else if x < -8388608 then BitVec.ofInt 24 (-8388608)
  else BitVec.ofInt 24 x

/-- The product of a value and a gain word over 16384, rounded half up (R21, R60). -/
def scaled (x : Int) (gain : Nat) : Int := (x * gain + 8192) / 16384

/-- A gain word scaled by another factor of at most 16384, rounded half up (R21). -/
def scaledGain (gain factor : Nat) : Nat := (gain * factor + 8192) / 16384

/-- A sample's magnitude. -/
def magnitude (s : Sample) : Nat := s.toInt.natAbs

/-- The value `x` moved toward `goal` by at most `rate`, stopping there (R25). -/
def moveToward (x goal rate : Nat) : Nat :=
  if goal < x then (if x - rate < goal then goal else x - rate)
  else if goal < x + rate then goal else x + rate

/-- A weighted mix of two samples over `span`, floored (R129, R163). -/
def mixSample (old new : Sample) (oldWeight newWeight span : Nat) : Sample :=
  exactSample ((old.toInt * oldWeight + new.toInt * newWeight) / span)

def mixStereo (old new : Stereo) (oldWeight newWeight span : Nat) : Stereo :=
  { l := mixSample old.l new.l oldWeight newWeight span
    r := mixSample old.r new.r oldWeight newWeight span }

/-- A deck's output on two sides: a mono value stands on both (R161). -/
def Frame.onBoth : Frame → Stereo
  | .mono s => { l := s, r := s }
  | .stereo l r => { l := l, r := r }

/-- Silence in a form (R60). -/
def silenceIn : Form → Frame
  | .mono => .mono 0
  | .stereo => .stereo 0 0

/-! ### The sample store (R37) -/

/-- The value listed at an address. -/
def cellsRead : List StoreCell → Nat → Option Sample
  | [], _ => none
  | (b, v) :: rest, a => if a = b then some v else cellsRead rest a

/-- The list with `v` at address `a`, addresses still rising. -/
def cellsWrite : List StoreCell → Nat → Sample → List StoreCell
  | [], a, v => [(a, v)]
  | (b, w) :: rest, a, v =>
    if a < b then (a, v) :: (b, w) :: rest
    else if a = b then (a, v) :: rest
    else (b, w) :: cellsWrite rest a v

/-- The canonical form: addresses strictly rising. An unlisted word has no value of its own, so no
listed entry can equal what it reads as (notes/assumptions/1.md). -/
def cellsRising : List StoreCell → Bool
  | [] => true
  | [_] => true
  | (a, _) :: (b, v) :: rest => a < b && cellsRising ((b, v) :: rest)

def Store.wf (st : Store) : Bool := cellsRising st.cells

/-- The word at an address: as written, or some sample when it was not written since power-on. -/
def Store.read (st : Store) (a : Nat) : Sample :=
  (cellsRead st.cells a).getD (Config.unwrittenSample st.powerOns a)

def Store.write (st : Store) (a : Nat) (v : Sample) : Store :=
  { st with cells := cellsWrite st.cells a v }

/-- Frame `p` of an extent from page `start`, in its form (R37). -/
def extentWords (form : Form) (start p : Nat) : List Nat :=
  match form with
  | .mono => [start * Config.pageWords + p]
  | .stereo => [start * Config.pageWords + 2 * p, start * Config.pageWords + 2 * p + 1]

def Store.readFrame (st : Store) (form : Form) (start p : Nat) : Frame :=
  match form with
  | .mono => .mono (st.read (start * Config.pageWords + p))
  | .stereo => .stereo (st.read (start * Config.pageWords + 2 * p))
      (st.read (start * Config.pageWords + 2 * p + 1))

def Store.writeFrame (st : Store) (start p : Nat) : Frame → Store
  | .mono s => st.write (start * Config.pageWords + p) s
  | .stereo l r => (st.write (start * Config.pageWords + 2 * p) l).write
      (start * Config.pageWords + 2 * p + 1) r

/-- Whether every word of a list lies in the store. -/
def inStore (words : List Nat) : Bool := words.all (fun a => a < Config.storeWords)

/-! ### The egress queue (R197) -/

/-- The queue without its youngest report, if it holds one. -/
def dropYoungestReport : List Outbound → Option (List Outbound)
  | [] => none
  | m :: rest =>
    match dropYoungestReport rest with
    | some kept => some (m :: kept)
    | none => if m.isReport then some rest else none

/-- The queue without the youngest report that has not begun: the head is passed over once a word of it
has been sent. -/
def Egress.evicted (e : Egress) : Option (List Outbound) :=
  if e.sent = 0 then dropYoungestReport e.queue
  else match e.queue with
    | [] => none
    | head :: rest => (dropYoungestReport rest).map (head :: ·)

/-- A report joins the queue, or is discarded when no place is left (R197). -/
def Egress.report (e : Egress) (r : Report) : Egress :=
  if e.queue.length + e.reserved < 32 then { e with queue := e.queue ++ [.report r] }
  else { e with reportsDropped := true }

/-- A reply or command raised by a request takes a place secured for it (R197). -/
def Egress.push (e : Egress) (m : Outbound) : Egress :=
  { e with queue := e.queue ++ [m], reserved := e.reserved - 1 }

/-- A command raised by an event of the part, or a reply raised by the Service Channel Interface: a full
queue gives up its youngest report, or else the message is not queued and requests-dropped is set (R197). -/
def Egress.urgent (e : Egress) (m : Outbound) : Egress :=
  if e.queue.length + e.reserved < 32 then { e with queue := e.queue ++ [m] }
  else match e.evicted with
    | some kept => { e with queue := kept ++ [m] }
    | none => { e with requestsDropped := true }

/-- `n` reports evicted, youngest first; `none` when there are not so many. -/
def Egress.evict (e : Egress) : Nat → Option Egress
  | 0 => some e
  | n + 1 => match e.evicted with
    | some kept => Egress.evict { e with queue := kept } n
    | none => none

/-- The room a request needs is secured before it is carried out (R197): for each place that is lacking
a report is evicted; `none` when enough room cannot be made. -/
def Egress.secure (e : Egress) (places : Nat) : Option Egress :=
  (e.evict (e.queue.length + places - 32)).map (fun kept => { kept with reserved := places })

/-! ### The rig -/

def Rig.report (r : Rig) (m : Report) : Rig := { r with egress := r.egress.report m }

/-- Reports queued in order. -/
def Rig.reports (r : Rig) : List Report → Rig
  | [] => r
  | m :: rest => (r.report m).reports rest

/-- A command to PHONE raised by an event of the part (R102). -/
def Rig.command (r : Rig) (m : Outbound) : Rig := { r with egress := r.egress.urgent m }

/-- A command to PHONE raised by a console request (R102). -/
def Rig.requestCommand (r : Rig) (m : Outbound) : Rig := { r with egress := r.egress.push m }

/-- The reply to a request: its tag, its kind's code and its status, with data (R196, R201). -/
def Rig.reply (r : Rig) (tag : Tag) (kind : RequestKind) (status : Status) (data : List Nat) : Rig :=
  { r with egress := r.egress.push (.reply kind.sender tag kind.code status data) }

def Rig.deck (r : Rig) (d : DeckId) : Deck := r.decks.decks[d]

def Rig.setDeck (r : Rig) (d : DeckId) (x : Deck) : Rig :=
  { r with decks := { r.decks with decks := vset r.decks.decks d x } }

def Rig.cart (r : Rig) (c : CartId) : Cart := r.library.carts[c]

def Rig.setCart (r : Rig) (c : CartId) (x : Cart) : Rig :=
  { r with library := { r.library with carts := vset r.library.carts c x } }

def Rig.recorder (r : Rig) (k : RecorderId) : Recorder := r.library.recorders[k]

def Rig.setRecorder (r : Rig) (k : RecorderId) (x : Recorder) : Rig :=
  { r with library := { r.library with recorders := vset r.library.recorders k x } }

def Rig.record (r : Rig) (i : RecordId) : AlertRecord := r.alerts.records[i]

def Rig.setRecord (r : Rig) (i : RecordId) (x : AlertRecord) : Rig :=
  { r with alerts := { r.alerts with records := vset r.alerts.records i x } }

def Rig.setEntries (r : Rig) (es : List Entry) : Rig := { r with order := { r.order with entries := es } }

/-! ### The part -/

def State.onRig (s : State) (f : Rig → Rig) : State := { s with rig := f s.rig }

def State.report (s : State) (m : Report) : State := s.onRig (·.report m)

def State.line (s : State) (k : LineId) : Line := s.callers.lines[k]

def State.setLine (s : State) (k : LineId) (x : Line) : State :=
  { s with callers := { s.callers with lines := vset s.callers.lines k x } }

def State.reply (s : State) (tag : Tag) (kind : RequestKind) (status : Status) (data : List Nat) :
    State := s.onRig (·.reply tag kind status data)

/-- The places secured for a request that it did not use are given back when it has been carried out. -/
def State.release (s : State) : State :=
  s.onRig (fun r => { r with egress := { r.egress with reserved := 0 } })

/-- A request is taken at its LAST word (R196, R197): the message that carried it closes, the places it
needs in the egress queue are secured, and its owner carries it out; without room it is not carried out
and requests-dropped is set. -/
def State.take (s : State) (places : Nat) (carryOut : State → State) : State :=
  match s.rig.egress.secure places with
  | some e => (carryOut { s with inbound := none, rig := { s.rig with egress := e } }).release
  | none =>
    { s with
      inbound := none
      rig := { s.rig with egress := { s.rig.egress with requestsDropped := true } } }

/-- The same for a request that changes the rig alone. -/
def State.takeOnRig (s : State) (carryOut : Rig → Rig) : State := s.take 1 (·.onRig carryOut)

/-! ### Checks -/

/-- A check that needs a value, refused with a status when there is none. -/
def require {α : Type} (status : Status) : Option α → Except Status α
  | some a => .ok a
  | none => .error status

/-- A check that refuses with a status while a condition holds. -/
def refuse (status : Status) (condition : Bool) : Except Status Unit :=
  if condition then .error status else .ok ()

/-- A request's checks are made in order before anything is changed: the first that fails gives the reply,
with no data, and otherwise the request is carried out (R201, 00_scope). -/
def State.judged {α : Type} (s : State) (tag : Tag) (kind : RequestKind) (check : Except Status α)
    (carryOut : α → State) : State :=
  match check with
  | .error status => s.reply tag kind status []
  | .ok a => carryOut a

/-- An event of the part whose condition does not stand is not an event of the part, and nothing happens
(notes/assumptions/4.md). -/
def whenDue (due : Bool) (s : State) (event : State → Answer) : Answer :=
  if due then event s else .next s

end Sys2Proof.Machine
end

