-- ==== Sys2Proof/Machine/Flags.lean ====
section
/-!
DEFINITION. The conditions that blocks read of one another's records as they stand at an event: nothing
here is stored; each is computed from the records (R96, R116, R123, R43, R84, R172 and their like).
-/

namespace Sys2Proof.Machine

/-! ### The store -/

/-- A cart's capacity in frames (R41). -/
def Cart.capacity (c : Cart) : Nat :=
  match c.form with
  | .mono => c.pages * 65536
  | .stereo => c.pages * 32768

/-- The air delay's capacity C in frames (R39). -/
def Library.delayCapacity (l : Library) : Nat := l.delayRegion.pages * 32768

/-- The frames of one alert slot (R39). -/
def Library.slotFrames (l : Library) : Nat := l.alertRegion.pages / 16 * 65536

/-- The page at which alert slot `i` starts (R37). -/
def Library.slotStart (l : Library) (i : RecordId) : Nat :=
  l.alertRegion.start + i.val * (l.alertRegion.pages / 16)

/-- Two runs of pages share a page. -/
def pagesMeet (start₁ count₁ start₂ count₂ : Nat) : Bool :=
  0 < count₁ && 0 < count₂ && start₁ < start₂ + count₂ && start₂ < start₁ + count₁

/-- A run of pages meets the extent of a cart that is not EMPTY, other than `except` (R40, R44). -/
def Library.meetsCart (l : Library) (start count : Nat) (except : Option CartId) : Bool :=
  (List.finRange 256).any fun c =>
    l.carts[c].state != .empty && some c != except &&
      pagesMeet start count l.carts[c].start l.carts[c].pages

/-! ### Decks -/

/-- PLAYING or FADING (R67). -/
def Deck.audible (k : Deck) : Bool := k.state == .playing || k.state == .fading

/-- A cart is the source of a deck that is not EMPTY (R43). -/
def Rig.cartInDeck (r : Rig) (c : CartId) : Bool :=
  r.decks.decks.toList.any fun k => k.state != .empty && k.source == .cart c

/-- The number of decks that hold a cart (R47). -/
def Rig.decksHolding (r : Rig) (c : CartId) : Nat :=
  (r.decks.decks.toList.filter fun k => k.state != .empty && k.source == .cart c).length

/-- A cart is held: by a deck, by a recorder, or by an ASSIGNED or AIRING entry (R43). -/
def Rig.cartHeld (r : Rig) (c : CartId) : Bool :=
  r.cartInDeck c ||
  r.library.recorders.toList.any (fun k => k.binding == .cart c) ||
  r.order.entries.any (fun e => e.state != .waiting && e.cart == c)

/-- The recorder bound to a target, if any (R47, R48). -/
def Rig.recorderOf (r : Rig) (b : Binding) : Option RecorderId :=
  allRecorders.find? fun k => (r.recorder k).binding == b

/-- Some program deck stands paused for an alert (R68, R71). -/
def Rig.anyPausedForAlert (r : Rig) : Bool := programDecks.any fun d => (r.deck d).pausedForAlert

/-- Automatic starts are deferred (R84). -/
def Rig.deferred (r : Rig) : Bool := r.order.hold || r.anyPausedForAlert

/-! ### The running order -/

/-- The first entry that is not AIRING (section 5.1). -/
def firstNonAiring (es : List Entry) : Option Entry := es.find? fun e => e.state != .airing

/-- The leader: the AIRING entry with the greatest start number (section 5.1). -/
def leader (es : List Entry) : Option Entry :=
  (es.filter fun e => e.state == .airing).foldl
    (fun best e => match best with
      | none => some e
      | some b => if serialGreater e.startNumber b.startNumber then some e else some b) none

/-- An entry that stands first non-airing is due (R82, R83). -/
def dueIn (es : List Entry) (e : Entry) : Bool :=
  match e.mode with
  | .manual => false
  | .segue => match leader es with
    | none => true
    | some l => l.seguePassed
  | .timed => e.timeReached

/-! ### Caller lines -/

/-- The number of lines in ON_AIR (R96). -/
def Callers.onAirCount (c : Callers) : Nat :=
  (c.lines.toList.filter fun l => l.state == .onAir).length

/-- A line's place in the caller queue, 0 for the head (R109). -/
def Callers.place (c : Callers) (k : LineId) : Option Nat := c.queue.findIdx? (· == k)

/-! ### The air delay -/

/-- The length D of the delay in su (R116). -/
def Delay.length (d : Delay) : Int := (d.written : Int) * 4096 - d.readPos

/-- The safe condition (R123). -/
def Delay.safe (d : Delay) : Bool := d.state != .bypass && (d.dumpLength : Int) * 4096 ≤ d.length

/-! ### Alerts -/

/-- RECORDING, AWAITING, QUEUED and AIRING are the live states (R143). -/
def AlertRecord.live (a : AlertRecord) : Bool :=
  a.state == .recording || a.state == .awaiting || a.state == .queued || a.state == .airing

/-- A record other than FREE with a pair (R138). -/
def Alerts.withPair (a : Alerts) (originator identity : Nat) : Option RecordId :=
  allRecords.find? fun i =>
    a.records[i].state != .free && a.records[i].originator == originator &&
      a.records[i].identity == identity

/-- The first of two QUEUED records in the queue's order (R151): higher severity first, and among equal
severities the smaller queue-entry number. -/
def AlertRecord.queuesBefore (a b : AlertRecord) : Bool :=
  b.severity < a.severity ||
    (a.severity == b.severity && serialGreater b.queueEntry a.queueEntry)

/-- The head of the alert queue (R151). -/
def Alerts.head (a : Alerts) : Option RecordId :=
  (allRecords.filter fun i => a.records[i].state == .queued).foldl
    (fun best i => match best with
      | none => some i
      | some b => if a.records[i].queuesBefore a.records[b] then some i else some b) none

/-- The number of QUEUED records. -/
def Alerts.queueLength (a : Alerts) : Nat :=
  (allRecords.filter fun i => a.records[i].state == .queued).length

/-! ### Monitors -/

/-- The setting that governs a cell (R168). -/
def cellSetting (c : Fin 18) : Fin 8 :=
  if h : c.val < 6 then ⟨c.val, by omega⟩ else if c.val < 12 then 6 else 7

/-- The line a cell measures; none for a point instance. -/
def cellLine (c : Fin 18) : Option LineId :=
  if c.val < 6 then none
  else if h : c.val < 12 then some ⟨c.val - 6, by omega⟩
  else some ⟨c.val - 12, by omega⟩

/-- The LINE-quiet and LINE-overload cells of a line. -/
def quietCell (k : LineId) : Fin 18 := ⟨6 + k.val, by omega⟩
def overloadCell (k : LineId) : Fin 18 := ⟨12 + k.val, by omega⟩

/-- The DLY-silence and AIR-silence cells. -/
def dlySilence : Fin 18 := 2
def airSilence : Fin 18 := 4

/-- Settings 1, 3, 5 and 7 are overload settings; the others are silence and quiet settings (R201). -/
def isOverloadSetting (i : Fin 8) : Bool := i.val % 2 == 1

/-- A cell acts while it stands in FAULT and its mode is LATCHED or AUTO (R172). -/
def Monitors.acts (m : Monitors) (c : Fin 18) : Bool :=
  m.cells[c].state == .fault &&
    (m.settings[cellSetting c].mode == .latched || m.settings[cellSetting c].mode == .auto)

/-- An overload fault stands for a line (R112). -/
def Monitors.overloadStands (m : Monitors) (k : LineId) : Bool := m.acts (overloadCell k)

/-- The dead-air flag of the link blocks (R173, R181). -/
def Monitors.deadAir (m : Monitors) : Bool := m.acts airSilence

/-! ### The air switch -/

/-- The owner that R162 evaluates. -/
def Rig.evaluatedOwner (r : Rig) : AirOwner :=
  if r.airSwitch.runFlag then .alert
  else if r.monitors.acts dlySilence && r.airSwitch.fallbackEnable then .fallback
  else .program

/-- FALLBACK is the owner or the outgoing input (R166). -/
def AirSwitch.usesFallback (a : AirSwitch) : Bool :=
  a.owner == .fallback || a.outgoing == some .fallback

/-! ### The link -/

def Link.port (l : Link) : Port → PortRecord
  | .a => l.portA
  | .b => l.portB

def otherPort : Port → Port
  | .a => .b
  | .b => .a

/-- The lag of the active port (R185). -/
def Link.lag (l : Link) : Nat :=
  let d := (l.counter + 8589934591 - (l.port l.active).acknowledged % 4294967296) % 4294967296
  if 2147483648 ≤ d then 0 else d

/-- The conditions under which the revert timer runs (R187). -/
def Link.reverting (l : Link) : Bool :=
  l.revertive && l.preferred != l.active && (l.port l.preferred).health == .up

end Sys2Proof.Machine
end

