-- ==== Sys2Proof/Machine/DeckOps.lean ====
section
/-!
DEFINITION. The transitions of one deck (chapter 4): the legality table, LOAD, UNLOAD, the entry into
DONE, PAUSE and FADE, as the blocks that own decks use them. What the running order does when a program
deck releases stands in OrderOps.
-/

namespace Sys2Proof.Machine

/-- The requests a deck takes (R56). -/
inductive DeckRequest
  | load | start | fade | cut | pause | resume | unload
  deriving DecidableEq, Repr

/-- Whether the legality table has no STATE in the request's cell (R57). -/
def DeckState.allows : DeckState → DeckRequest → Bool
  | .empty, .load => true
  | .loading, .unload => true
  | .cued, .start => true
  | .cued, .cut => true
  | .cued, .unload => true
  | .playing, .fade => true
  | .playing, .cut => true
  | .playing, .pause => true
  | .fading, .fade => true
  | .fading, .cut => true
  | .fading, .pause => true
  | .paused, .cut => true
  | .paused, .resume => true
  | .done, .unload => true
  | _, _ => false

/-- What an owner's LOAD carries (R58). The fields after `slotLength` are a program deck's. -/
structure LoadRequest where
  source : DeckSource
  slotLength : Nat
  entryTag : Nat
  gain : Nat
  fadeLength : Nat
  segueOverride : Option Nat
  deriving DecidableEq, Repr

/-- A LOAD of a cart or slot by the alert controller or the air switch. -/
def LoadRequest.plain (source : DeckSource) (slotLength : Nat) : LoadRequest :=
  { source := source, slotLength := slotLength, entryTag := 0, gain := 16384, fadeLength := 0
    segueOverride := none }

/-- The status with which a deck refuses a LOAD; `none` when it takes it (R58). -/
def Rig.loadRefusal (r : Rig) (d : DeckId) (source : DeckSource) : Option Status :=
  if (r.deck d).state != .empty then some .state
  else match source with
    | .cart c =>
      if (r.cart c).state != .ready then some .absent
      else if (r.cart c).cls != (if isProgramDeck d then .program else .service) then some .range
      else none
    | .slot _ => none
    | .none => some .absent

/-- A program deck's segue point (R61). -/
def seguePointOf (segueOverride cartSegue : Option Nat) (cueIn playEnd : Nat) : Nat :=
  match segueOverride with
  | some o => if cueIn + o < playEnd then cueIn + o else playEnd
  | none => match cartSegue with
    | some m => m
    | none => playEnd

/-- The deck record after a LOAD that it takes (R58). -/
def Deck.loaded (k : Deck) (d : DeckId) (q : LoadRequest) (form : Form) (cueIn playEnd : Nat)
    (cartSegue : Option Nat) : Deck :=
  { Deck.reset with
    state := .loading
    source := q.source
    form := form
    cueIn := cueIn
    playEnd := playEnd
    position := cueIn
    seguePoint := if isProgramDeck d then some (seguePointOf q.segueOverride cartSegue cueIn playEnd)
      else none
    gain := if isProgramDeck d then q.gain else 16384
    fadeLength := if isProgramDeck d then q.fadeLength else 0
    loop := d == deckF
    audibleOrder := k.audibleOrder
    entryTag := if isProgramDeck d then q.entryTag else 0 }

/-- A LOAD that the deck takes (R58). -/
def Rig.loadDeck (r : Rig) (d : DeckId) (q : LoadRequest) : Rig :=
  match q.source with
  | .cart c =>
    let cart := r.cart c
    r.setDeck d ((r.deck d).loaded d q cart.form cart.cueIn cart.cueOut cart.segue)
  | _ => r.setDeck d ((r.deck d).loaded d q .mono 0 q.slotLength none)

/-- A deck made EMPTY: the source becomes none and every field takes its power-on value except the
audible order (R65). -/
def Deck.emptied (k : Deck) : Deck := { Deck.reset with audibleOrder := k.audibleOrder }

/-- UNLOAD (R65). -/
def Rig.unloadDeck (r : Rig) (d : DeckId) : Rig := r.setDeck d (r.deck d).emptied

/-- A deck enters DONE, with the report ENDED (R66). -/
def Rig.finishDeck (r : Rig) (d : DeckId) (cause : EndCause) : Rig :=
  (r.setDeck d { r.deck d with state := .done, endCause := some cause }).report
    (.deckEnded d (r.deck d).source cause)

/-- Deck A or F taken to EMPTY from whatever state it is in: CUT then UNLOAD where the state calls for
both, or UNLOAD alone (R65, R70, R166). -/
def Rig.emptyDeck (r : Rig) (d : DeckId) : Rig :=
  match (r.deck d).state with
  | .empty => r
  | .playing | .fading | .paused => (r.finishDeck d .cut).unloadDeck d
  | .loading | .cued | .done => r.unloadDeck d

/-- PAUSE, for an alert or by request: a fade is frozen where it stood (R64, R68). -/
def Deck.paused (k : Deck) (forAlert : Bool) : Deck :=
  { k with
    state := .paused
    prior := some (if k.state == .fading then .fading else .playing)
    pausedForAlert := forAlert || k.pausedForAlert }

/-- RESUME: the deck returns to its prior state with a new audible order (R64, R67). -/
def Deck.resumed (k : Deck) (order : Nat) : Deck :=
  { k with
    state := if k.prior == some .fading then .fading else .playing
    prior := none
    pausedForAlert := false
    audibleOrder := order }

/-- START (R57, R67). -/
def Deck.started (k : Deck) (order : Nat) : Deck := { k with state := .playing, audibleOrder := order }

/-- The requested fade of a PLAYING deck that has frames left: the given length, or the frames left if
that is smaller (R63). -/
def Deck.fadedOver (k : Deck) (frames : Nat) : Deck :=
  let n := if k.playEnd - k.position < frames then k.playEnd - k.position else frames
  { k with state := .fading, fadeSpan := n, fadeRemaining := n }

/-- A deck becomes audible with the next audible order (R67). -/
def Rig.makeAudible (r : Rig) (d : DeckId) (f : Deck → Nat → Deck) : Rig :=
  let order := nextSerial r.decks.lastAudible
  let r' := r.setDeck d (f (r.deck d) order)
  { r' with decks := { r'.decks with lastAudible := order } }

end Sys2Proof.Machine
end

