-- ==== Sys2Proof/Machine/OrderOps.lean ====
section
/-!
DEFINITION. The running order's operations (chapter 5) and the releases of program decks: leaving the
list, assignment and displacement, the skip, starting, and the settling that the controller makes at the
end of every event it takes.
-/

namespace Sys2Proof.Machine

/-! ### Leaving the list -/

/-- The entries without the one that carries a tag. -/
def withoutTag (es : List Entry) (tag : Nat) : List Entry := es.filter fun e => e.tag != tag

def Rig.updateEntry (r : Rig) (tag : Nat) (f : Entry → Entry) : Rig :=
  r.setEntries (r.order.entries.map fun e => if e.tag == tag then f e else e)

/-- A program deck in DONE releases: it becomes EMPTY and its entry leaves the list (R66, R85). -/
def Rig.releaseDeck (r : Rig) (d : DeckId) : Rig :=
  let k := r.deck d
  let gone := (r.setEntries (withoutTag r.order.entries k.entryTag)).unloadDeck d
  match k.endCause with
  | some .cut => gone.report (.entryCut k.entryTag d)
  | _ => gone.report (.entryPlayed k.entryTag d)

/-- A deck reaches DONE; a program deck releases in the same event, decks A and F rest (R66). That DECK_EVENT ENDED
is queued before ENTRY_EVENT CUT or PLAYED is the model's choice (notes/assumptions/12.md). -/
def Rig.endDeck (r : Rig) (d : DeckId) (cause : EndCause) : Rig :=
  if isProgramDeck d then (r.finishDeck d cause).releaseDeck d else r.finishDeck d cause

/-- A CUT of a CUED program deck: the deck is EMPTY and its entry is removed with cause CUT (R65, R85). R65 and R85
give this report its cause alone: that it carries the entry's tag after the cause, and no deck, is the model's choice
(notes/assumptions/8.md). -/
def Rig.cutCued (r : Rig) (d : DeckId) : Rig :=
  let tag := (r.deck d).entryTag
  ((r.setEntries (withoutTag r.order.entries tag)).unloadDeck d).report (.entryRemoved .cut tag)

/-- Every WAITING entry that names a cart leaves the list, with the reports in list order (R45, R50). -/
def Rig.removeWaitingFor (r : Rig) (c : CartId) : Rig :=
  let names := fun e : Entry => e.state == .waiting && e.cart == c
  (r.setEntries (r.order.entries.filter fun e => !names e)).reports
    ((r.order.entries.filter names).map fun e => .entryRemoved .cart e.tag)

/-! ### The audible rule -/

/-- Of the audible program decks, the one with the smallest audible order (R67). -/
def Rig.oldestAudible (r : Rig) : Option DeckId :=
  (programDecks.filter fun d => (r.deck d).audible).foldl
    (fun best d => match best with
      | none => some d
      | some b => if serialGreater (r.deck b).audibleOrder (r.deck d).audibleOrder then some d
        else some b) none

/-- Before a program deck becomes audible: while two are, the one with the smaller audible order is cut
and releases (R67). -/
def Rig.audibleRule (r : Rig) : Rig :=
  if (programDecks.filter fun d => (r.deck d).audible).length < 2 then r
  else match r.oldestAudible with
    | some d => r.endDeck d .cut
    | none => r

/-- START of a deck (R57, R60, R67). -/
def Rig.startDeck (r : Rig) (d : DeckId) : Rig :=
  (if isProgramDeck d then r.audibleRule else r).makeAudible d Deck.started

/-- RESUME of a program deck (R64, R67). -/
def Rig.resumeDeck (r : Rig) (d : DeckId) : Rig := r.audibleRule.makeAudible d Deck.resumed

/-- FADE of a PLAYING or FADING deck: a PLAYING deck with no frames left is DONE at once, and a fade in
flight is not changed (R63). -/
def Rig.fadeDeck (r : Rig) (d : DeckId) (frames : Nat) : Rig :=
  let k := r.deck d
  if k.state != .playing then r
  else if k.playEnd ≤ k.position then r.endDeck d .played
  else r.setDeck d (k.fadedOver frames)

/-! ### Starting -/

/-- An entry after its start: AIRING with the next start number; its time-reached flag set if TIMED
(R80). -/
def Entry.started (e : Entry) (number : Nat) : Entry :=
  { e with
    state := .airing
    startNumber := number
    skipPending := false
    timeReached := e.timeReached || e.mode == .timed }

/-- An entry is started on the deck that holds it (R80). -/
def Rig.startEntry (r : Rig) (e : Entry) (cause : StartCause) : Rig :=
  match e.deck with
  | none => r
  | some d =>
    let r₁ := r.startDeck d
    let number := nextCount r₁.order.lastStart
    let r₂ := r₁.updateEntry e.tag (·.started number)
    ({ r₂ with order := { r₂.order with lastStart := number } }).report (.entryStarted e.tag d cause)

/-- The cause of an automatic start (R80). -/
def StartMode.cause : StartMode → StartCause
  | .timed => .timed
  | _ => .segue

/-- An entry can start now: it is the first non-airing entry, it is due, its deck is CUED and no deferral
stands (R79). -/
def Rig.startable (r : Rig) : Option Entry :=
  if r.deferred then none
  else match firstNonAiring r.order.entries with
    | none => none
    | some e =>
      match e.deck with
      | none => none
      | some d =>
        if e.state == .assigned && (r.deck d).state == .cued && dueIn r.order.entries e then some e
        else none

/-! ### Assignment and displacement -/

/-- The LOAD with which an entry takes a deck (R78). -/
def Entry.loadRequest (e : Entry) : LoadRequest :=
  { source := .cart e.cart
    slotLength := 0
    entryTag := e.tag
    gain := e.gain.getD 16384
    fadeLength := e.fadeMs.getD 0 * 48
    segueOverride := e.segueOverride }

/-- One assignment: the first WAITING entry takes the lowest-numbered EMPTY program deck while fewer than
two entries are ASSIGNED (R78). -/
def Rig.assignOne (r : Rig) : Option Rig :=
  if 2 ≤ (r.order.entries.filter fun e => e.state == .assigned).length then none
  else match r.order.entries.find? (fun e => e.state == .waiting),
      programDecks.find? (fun d => (r.deck d).state == .empty) with
    | some e, some d =>
      if r.loadRefusal d (.cart e.cart) = none then
        some ((r.updateEntry e.tag fun x => { x with state := .assigned, deck := some d }).loadDeck d
          e.loadRequest)
      else none
    | _, _ => none

/-- A WAITING entry stands before an ASSIGNED one (R77). -/
def waitingBeforeAssigned (es : List Entry) : Bool :=
  (es.dropWhile fun e => e.state != .waiting).any fun e => e.state == .assigned

/-- Displacement of an ASSIGNED entry (R77). -/
def Rig.displace (r : Rig) (e : Entry) : Rig :=
  match e.deck with
  | none => r.updateEntry e.tag fun x => { x with state := .waiting }
  | some d =>
    ((r.unloadDeck d).updateEntry e.tag fun x => { x with state := .waiting, deck := none }).report
      (.entryUnassigned e.tag d)

/-- Assignment, with displacement while a WAITING entry that cannot be assigned stands before an ASSIGNED
one (R77, R78). Each round assigns or displaces one entry; the fuel covers a full list. -/
def Rig.arrangeFor : Nat → Rig → Rig
  | 0, r => r
  | n + 1, r =>
    match r.assignOne with
    | some r' => r'.arrangeFor n
    | none =>
      if waitingBeforeAssigned r.order.entries then
        match (r.order.entries.filter fun e => e.state == .assigned).getLast? with
        | some e => (r.displace e).arrangeFor n
        | none => r
      else r

def Rig.arrange (r : Rig) : Rig := r.arrangeFor 192

/-! ### The skip -/

/-- The decks of ASSIGNED entries that leave the list are sent UNLOAD. -/
def Rig.unloadEntries (r : Rig) : List Entry → Rig
  | [] => r
  | e :: rest =>
    match e.deck with
    | some d => if e.state == .assigned then (r.unloadDeck d).unloadEntries rest
      else r.unloadEntries rest
    | none => r.unloadEntries rest

/-- Every audible program deck is sent FADE (R83). That it is sent in deck order, so that decks with no frames left
report their ends in deck order, is the model's choice: step 2 of R83 gives no order (notes/assumptions/7.md). -/
def Rig.fadeAudible (r : Rig) (frames : Nat) : List DeckId → Rig
  | [] => r
  | d :: rest =>
    (if (r.deck d).audible then r.fadeDeck d frames else r).fadeAudible frames rest

/-- The skip of an entry whose skip is pending (R83). -/
def Rig.skipTo (r : Rig) (e : Entry) : Rig :=
  let es := r.order.entries
  let before := es.takeWhile fun x => x.tag != e.tag
  let skipped := before.filter fun x => x.state != .airing
  let kept := (before.filter fun x => x.state == .airing) ++
    (es.dropWhile fun x => x.tag != e.tag)
  let r₁ := ((r.unloadEntries skipped).setEntries kept).reports
    (skipped.map fun x => .entrySkipped x.tag)
  (r₁.fadeAudible 24000 programDecks).updateEntry e.tag fun x => { x with skipPending := false }

/-- The pending skip, made for the entry that stands last, unless a deferral stands (R83, R84). -/
def Rig.makeSkip (r : Rig) : Rig :=
  if r.deferred then r
  else match (r.order.entries.filter fun e => e.skipPending).getLast? with
    | some e => r.skipTo e
    | none => r

/-! ### Settling -/

/-- The starts that are due, one after another (R79 to R84), each followed by its assignment (R80). Each start takes an
entry, so a full list's fuel is enough. -/
def Rig.startDue : Nat → Rig → Rig
  | 0, r => r
  | n + 1, r =>
    match r.startable with
    | some e => ((r.startEntry e e.mode.cause).arrange).startDue n
    | none => r

/-- The end of every event the controller takes: a pending skip, the start that is due, and assignment
(R78, R79, R84). -/
def Rig.settle (r : Rig) : Rig := (r.makeSkip.startDue 65).arrange

/-- The end of an event whose rule runs assignment first: a start by request or at a prefetch completion (R80) and an
edit by ORDER_APPEND, ORDER_INSERT or ORDER_REMOVE (R86 to R88). The test for a further start follows the assignment. -/
def Rig.assignThenSettle (r : Rig) : Rig := r.arrange.settle

/-! ### The events the controller takes -/

/-- A deck's segue event (R81). -/
def Rig.segueEvent (r : Rig) (tag : Nat) : Rig :=
  (r.updateEntry tag fun e => { e with seguePassed := true }).settle

/-- The prefetch completion of a program deck (R79, R82): an entry that is first non-airing and due starts in the same
event, a SEGUE entry with the report LATE_START before it, and assignment follows the start (R80). R82 puts LATE_START
before STARTED alone: that it also stands before the ENDED and ENTRY_EVENT CUT of a deck that the start cuts is the
model's choice (notes/assumptions/12.md). -/
def Rig.orderPrefetched (r : Rig) (d : DeckId) : Rig :=
  match r.startable with
  | some e =>
    if e.deck = some d then
      ((if e.mode = .segue then r.report (.deckLateStart d e.tag) else r).startEntry e
        e.mode.cause).assignThenSettle
    else r.settle
  | none => r.settle

/-- A TIMED entry whose start time is at or below the new value has both its flags set (R83). -/
def Entry.reached (e : Entry) (now : Nat) : Entry :=
  match e.startTime with
  | some t =>
    if e.mode == .timed && !e.timeReached && t ≤ now then
      { e with timeReached := true, skipPending := true }
    else e
  | none => e

/-- A new value of station seconds (R83). -/
def Rig.orderSeconds (r : Rig) (now : Nat) : Rig :=
  (r.setEntries (r.order.entries.map (·.reached now))).settle

/-- Alert-pause (R68): every audible program deck is paused with its flag set. -/
def Rig.alertPause (r : Rig) : Rig :=
  programDecks.foldl (fun r d => if (r.deck d).audible then r.setDeck d ((r.deck d).paused true) else r) r

/-- A deck put in its place in a list that rises by audible order. -/
def insertByOrder (r : Rig) (d : DeckId) : List DeckId → List DeckId
  | [] => [d]
  | x :: rest =>
    if serialGreater (r.deck x).audibleOrder (r.deck d).audibleOrder then d :: x :: rest
    else x :: insertByOrder r d rest

/-- Alert-resume (R68): the flagged decks resume in increasing audible order, each subject to R67, and the
end of the deferral is settled (R84). -/
def Rig.alertResume (r : Rig) : Rig :=
  let flagged := programDecks.filter fun d => (r.deck d).state == .paused && (r.deck d).pausedForAlert
  let sorted := flagged.foldl (fun ds d => insertByOrder r d ds) []
  (sorted.foldl (fun r d => if (r.deck d).state == .paused then r.resumeDeck d else r) r).settle

end Sys2Proof.Machine
end

