-- ==== Sys2Proof/Machine/DelayOps.lean ====
section
/-!
DEFINITION. The Air Delay's shared operations (chapter 7): the reports of a change, the state that a
length calls for, and the two alert events.
-/

namespace Sys2Proof.Machine

/-- The delay record is replaced, with the reports STATE and then SAFE or UNSAFE where they change (R123,
R124). Each carries D as it stands after the event, the model's choice (notes/assumptions/17.md). -/
def Rig.changeDelay (r : Rig) (d : Delay) (cause : DelayCause) : Rig :=
  let stated := if r.delay.state = d.state then { r with delay := d }
    else ({ r with delay := d }).report
      (.delayState r.delay.state d.state d.length.toNat cause)
  if r.delay.safe = d.safe then stated
  else stated.report (if d.safe then .delaySafe d.length.toNat d.dumpLength
    else .delayNotSafe d.length.toNat d.dumpLength)

/-- CATCHUP above the target, BUILD below it, STEADY at it (R125, R126, R132). -/
def Delay.stateByLength (d : Delay) : DelayState :=
  if (d.target : Int) * 4096 < d.length then .catchup
  else if d.length < (d.target : Int) * 4096 then .build
  else .steady

/-- The alert-airing-start event (R130, R131). -/
def Delay.held (d : Delay) : Delay :=
  if d.state = .bypass ∨ d.state = .held then d
  else { d with
    state := .held
    prior := some d.state
    exitFlag := d.exitFlag || d.state == .exit
    overrunFlag := false
    crossfade := 0 }

/-- The alert-airing-end event (R132). -/
def Delay.released (d : Delay) : Delay :=
  if d.state ≠ .held then d
  else { d with
    state := if d.exitFlag then .exit else d.stateByLength
    prior := none
    exitFlag := false
    overrunFlag := false }

def Rig.delayHold (r : Rig) : Rig := r.changeDelay r.delay.held .alert

def Rig.delayRelease (r : Rig) : Rig := r.changeDelay r.delay.released .alert

end Sys2Proof.Machine
end

