-- ==== Sys2Proof/Machine/SwitchOps.lean ====
section
/-!
DEFINITION. The Air Switch's shared operations (chapter 9): the change of owner, the crossfade it begins
or turns, and the loading and unloading of deck F.
-/

namespace Sys2Proof.Machine

/-- Deck F, EMPTY, is sent LOAD with the fallback cart, or NO_FALLBACK is reported (R165). -/
def Rig.loadFallback (r : Rig) : Rig :=
  match r.airSwitch.fallbackCart with
  | none => r.report (.airNoFallback .noCart)
  | some c =>
    match r.loadRefusal deckF (.cart c) with
    | none => r.loadDeck deckF (.plain (.cart c) 0)
    | some .range => r.report (.airNoFallback .wrongClass)
    | some _ => r.report (.airNoFallback .notReady)

/-- The switch record after a change of owner: a new crossfade (R163), or the one in flight turned (R164),
which ends at once when its weight was 0. -/
def AirSwitch.changed (a : AirSwitch) (new : AirOwner) : AirSwitch :=
  match a.outgoing with
  | none => { a with owner := new, outgoing := some a.owner, weight := 0, span := a.fadeLength }
  | some _ =>
    if a.weight = 0 then { a with owner := new, outgoing := none, weight := a.span }
    else { a with owner := new, outgoing := some a.owner, weight := a.span - a.weight }

/-- What a change of owner asks of deck F (R165, R166): on entry to FALLBACK it is loaded, unless it
already holds the fallback cart; when FALLBACK is in use no longer it is emptied. -/
def Rig.serveFallback (r : Rig) (wasUsed : Bool) : Rig :=
  if r.airSwitch.owner = .fallback then
    if (r.deck deckF).state = .empty then r.loadFallback
    else if r.airSwitch.fallbackCart.map DeckSource.cart = some (r.deck deckF).source then r
    else (r.emptyDeck deckF).loadFallback
  else if wasUsed && !r.airSwitch.usesFallback then r.emptyDeck deckF
  else r

/-- A change of owner (R162): its report, its crossfade, and deck F. That OWNER stands before deck F's ENDED, and ENDED
before NO_FALLBACK, is the model's choice: R162, R165, R166 and R197 give no order (notes/assumptions/15.md). -/
def Rig.changeOwner (r : Rig) (new : AirOwner) (cause : OwnerCause) : Rig :=
  let switched := ({ r with airSwitch := r.airSwitch.changed new }).report
    (.airOwner r.airSwitch.owner new cause)
  switched.serveFallback r.airSwitch.usesFallback

/-- The owner is evaluated (R162). -/
def Rig.evaluateOwner (r : Rig) (cause : OwnerCause) : Rig :=
  if r.evaluatedOwner = r.airSwitch.owner then r else r.changeOwner r.evaluatedOwner cause

/-- Alert-airing-start and alert-airing-end at the Air Switch (R160, R162). -/
def Rig.switchRunStart (r : Rig) : Rig :=
  ({ r with airSwitch := { r.airSwitch with runFlag := true } }).evaluateOwner .alertStart

def Rig.switchRunEnd (r : Rig) : Rig :=
  ({ r with airSwitch := { r.airSwitch with runFlag := false } }).evaluateOwner .alertEnd

/-- Deck F's prefetch completion: START while FALLBACK is the owner or the outgoing input (R165). -/
def Rig.fallbackPrefetched (r : Rig) : Rig :=
  if r.airSwitch.usesFallback then r.startDeck deckF else r

end Sys2Proof.Machine
end

