-- ==== Sys2Proof/Machine/AlertOps.lean ====
section
/-!
DEFINITION. The recorder pool (chapter 3) and the Alert controller's shared operations (chapter 8): the
grant rule, the end and abandonment of recordings, the queue, the airing of parts and runs, and deadlines.
-/

namespace Sys2Proof.Machine

/-! ### Recordings of carts -/

/-- A cart whose recording ended normally (R46, R52). -/
def Cart.recorded (c : Cart) (frames : Nat) : Cart :=
  { c with
    state := .ready, length := frames, cueIn := 0, intro := none, segue := none, cueOut := frames }

/-- A cart made DEFINED with nothing recorded (R44, R53, R54). -/
def Cart.cleared (c : Cart) (state : CartState) : Cart :=
  { c with state := state, length := 0, cueIn := 0, intro := none, segue := none, cueOut := 0 }

/-- The recording of cart `c` on recorder `k` ends normally (R52). -/
def Rig.cartRecordingEnds (r : Rig) (k : RecorderId) (c : CartId) (cause : DoneCause) : Rig :=
  let frames := (r.recorder k).position
  (((r.setCart c ((r.cart c).recorded frames)).setRecorder k .free)).report
    (.recordDone c frames cause)

/-- The recording of cart `c` on recorder `k` is abandoned (R53). -/
def Rig.abandonCart (r : Rig) (k : RecorderId) (c : CartId) (cause : AbandonCause) : Rig :=
  let frames := (r.recorder k).position
  (((r.setCart c ((r.cart c).cleared .defined)).setRecorder k .free)).report
    (.recordAbandoned c cause frames)

/-- Every cart recording in progress is abandoned, in recorder order (R53). -/
def Rig.abandonCarts (r : Rig) (cause : AbandonCause) : Rig :=
  allRecorders.foldl (fun r k => match (r.recorder k).binding with
    | .cart c => r.abandonCart k c cause
    | _ => r) r

/-! ### The grant rule -/

/-- The lowest-numbered FREE recorder (R49). -/
def Rig.freeRecorder (r : Rig) : Option RecorderId :=
  allRecorders.find? fun k => (r.recorder k).binding == .free

/-- A recorder is bound, with the next grant order (R48). -/
def Rig.bindRecorder (r : Rig) (k : RecorderId) (b : Binding) (source : RecordSource) (limit : Nat) :
    Rig :=
  let order := nextSerial r.library.lastGrant
  let bound := r.setRecorder k
    { binding := b, source := source, position := 0, limit := limit, grantOrder := order }
  { bound with library := { bound.library with lastGrant := order } }

/-- The recorder of the youngest cart recording (R49). -/
def Rig.youngestCart (r : Rig) : Option (RecorderId × CartId) :=
  allRecorders.foldl (fun best k => match (r.recorder k).binding, best with
    | .cart c, none => some (k, c)
    | .cart c, some (b, _) =>
      if serialGreater (r.recorder k).grantOrder (r.recorder b).grantOrder then some (k, c) else best
    | _, _ => best) none

/-- A claim for an alert recording (R49): the lowest FREE recorder, else the youngest cart recording's,
which is abandoned with cause ALERT; `none` when the claim fails. -/
def Rig.claimForAlert (r : Rig) (i : RecordId) (lane : Fin 16) : Option Rig :=
  let bind := fun (r : Rig) k => r.bindRecorder k (.alert i) (.lane lane) r.library.slotFrames
  match r.freeRecorder with
  | some k => some (bind r k)
  | none => match r.youngestCart with
    | some (k, c) => some (bind (r.abandonCart k c .alert) k)
    | none => none

/-- The recorder bound to an alert record becomes FREE (R48). -/
def Rig.freeAlertRecorder (r : Rig) (i : RecordId) : Rig :=
  match r.recorderOf (.alert i) with
  | some k => r.setRecorder k .free
  | none => r

/-- The frames written by the recorder bound to an alert record (R144). -/
def Rig.alertPosition (r : Rig) (i : RecordId) : Nat :=
  match r.recorderOf (.alert i) with
  | some k => (r.recorder k).position
  | none => (r.record i).recordedLength

/-! ### Airing -/

def Rig.setAlertState (r : Rig) (i : RecordId) (st : AlertState) : Rig :=
  r.setRecord i { r.record i with state := st }

/-- The start of a run (R152): the Air Switch, the Air Delay and, over BYPASS, the program decks. -/
def Rig.runStart (r : Rig) : Rig :=
  let held := r.switchRunStart.delayHold
  if held.delay.state = .bypass then
    let paused := held.alertPause
    { paused with alerts := { paused.alerts with decksPaused := true } }
  else held

/-- The end of a run (R154). -/
def Rig.runEnd (r : Rig) : Rig :=
  let released := r.switchRunEnd.delayRelease
  if released.alerts.decksPaused then
    ({ released with alerts := { released.alerts with decksPaused := false } }).alertResume
  else released

/-- What a part of a record plays, if the record has that part (R153). -/
def AlertRecord.partSource (a : AlertRecord) (i : RecordId) : Part → Option DeckSource
  | .leadIn => a.leadIn.map .cart
  | .slot => some (.slot i)
  | .leadOut => a.leadOut.map .cart

/-- Deck A is sent LOAD for a part of the airing record (R153): the rig and whether the part was taken.
A cart that deck A refuses is skipped with a report. -/
def Rig.loadPart (r : Rig) (i : RecordId) (p : Part) : Rig × Bool :=
  match (r.record i).partSource i p with
  | none => (r, false)
  | some source =>
    match r.loadRefusal deckA source with
    | none =>
      let loaded := r.loadDeck deckA (.plain source (r.record i).recordedLength)
      ({ loaded with alerts := { loaded.alerts with part := p } }, true)
    | some status =>
      match source with
      | .cart c => (r.report (.alertPartSkipped i p c
          (if status = .range then .wrongClass else .notReady)), false)
      | _ => (r, false)

/-- The first part of an airing: the lead-in, or the slot, which is always taken (R153). -/
def Rig.loadFirstPart (r : Rig) (i : RecordId) : Rig :=
  let tried := r.loadPart i .leadIn
  if tried.2 then tried.1 else (tried.1.loadPart i .slot).1

/-- A record becomes AIRING (R152). -/
def Rig.airRecord (r : Rig) (i : RecordId) (startOfRun : Bool) : Rig :=
  let airing := r.setAlertState i .airing
  let named := { airing with alerts := { airing.alerts with airing := some i } }
  let playing := (named.report (.alertAiring i)).loadFirstPart i
  if startOfRun then playing.runStart else playing

/-- With nothing AIRING, the head of the queue begins to air (R152). -/
def Rig.airIfIdle (r : Rig) : Rig :=
  match r.alerts.airing, r.alerts.head with
  | none, some i => r.airRecord i true
  | _, _ => r

/-- A record leaves AIRING (R154, R155): the next head airs within the run, or the run ends. -/
def Rig.leaveAiring (r : Rig) (i : RecordId) (st : AlertState) (m : Report) : Rig :=
  let left := r.setAlertState i st
  let told := ({ left with alerts := { left.alerts with airing := none } }).report m
  match told.alerts.head with
  | some j => told.airRecord j false
  | none => told.runEnd

/-- An airing stopped at once (R150, R155). -/
def Rig.stopAiring (r : Rig) (i : RecordId) (st : AlertState) (m : Report) : Rig :=
  (r.emptyDeck deckA).leaveAiring i st m

/-- Deck A reaches DONE: it is unloaded and the next part is loaded, or the airing ends (R153, R154). -/
def Rig.partEnded (r : Rig) : Rig :=
  match r.alerts.airing with
  | none => r
  | some i =>
    let unloaded := r.unloadDeck deckA
    match r.alerts.part with
    | .leadIn => (unloaded.loadPart i .slot).1
    | .slot =>
      let tried := unloaded.loadPart i .leadOut
      if tried.2 then tried.1 else tried.1.leaveAiring i .aired (.alertAired i)
    | .leadOut => unloaded.leaveAiring i .aired (.alertAired i)

/-! ### The end of a recording, the window and validity -/

/-- A record enters QUEUED with the next queue-entry number (R143, R147). -/
def Rig.enqueue (r : Rig) (i : RecordId) : Rig :=
  let number := nextCount r.alerts.queueCount
  let queued := r.setRecord i { r.record i with state := .queued, queueEntry := number }
  { queued with alerts := { queued.alerts with queueCount := number } }

/-- Where a record goes when its recording has ended (R147): EXPIRED when its valid-until is at or below the present
seconds, or was reached by an earlier value while it was RECORDING and so stays reached (R148;
notes/assumptions/33.md). -/
def Rig.placeRecorded (r : Rig) (i : RecordId) (now : Nat) : Rig :=
  let a := r.record i
  if a.validUntilReached ∨ a.validUntil ≤ now then (r.setAlertState i .expired).report (.alertExpired i)
  else if a.action = .auto ∨ a.confirmedEarly then r.enqueue i
  else r.setRecord i { a with state := .awaiting, deadline := some (now + a.confirmWindow) }

/-- An alert recording is closed, normally or truncated and kept: its recorder is FREE, RECORDED is queued and the
record goes where R147 sends it (R144, R146). -/
def Rig.closeAlertRecording (r : Rig) (i : RecordId) (truncated : Bool) (now : Nat) : Rig :=
  let frames := r.alertPosition i
  let ended := (r.freeAlertRecorder i).setRecord i
    { r.record i with
      recordedLength := frames, truncated := truncated || (r.record i).truncated }
  let told := ended.report (.alertRecorded i frames (truncated || (r.record i).truncated))
  told.placeRecorded i now

/-- The end of one alert recording, as an event of its own: with nothing AIRING the head of the queue then airs
(R147, R152). -/
def Rig.alertRecordingEnds (r : Rig) (i : RecordId) (truncated : Bool) (now : Nat) : Rig :=
  (r.closeAlertRecording i truncated now).airIfIdle

/-- At trunk loss a recording in progress ends truncated, or is ABORTED below 48,000 frames (R146). -/
def Rig.alertRecordingLost (r : Rig) (i : RecordId) (now : Nat) : Rig :=
  if (r.record i).state ≠ .recording then r
  else if 48000 ≤ r.alertPosition i then r.closeAlertRecording i true now
  else
    let frames := r.alertPosition i
    ((r.freeAlertRecorder i).setRecord i
      { r.record i with state := .aborted, recordedLength := frames }).report (.alertAbortedLost i)

/-- Trunk loss is one event: every recording in progress ends, and then the head of the queue that the event
leaves begins to air if nothing is AIRING (R146, R152). -/
def Rig.alertRecordingsLost (r : Rig) (now : Nat) : Rig :=
  (allRecords.foldl (fun r i => r.alertRecordingLost i now) r).airIfIdle

/-- The two tests of one record at a comparison (R149); a RECORDING record does not expire, but a valid-until that
is reached stays reached (R148; notes/assumptions/33.md). The outcome that WINDOW_EXPIRED carries is the record's new
state, with that state's code, the model's choice (notes/assumptions/8.md). -/
def Rig.testDeadlines (r : Rig) (now : Nat) (i : RecordId) : Rig :=
  let a := r.record i
  if a.state = .recording ∧ a.validUntil ≤ now then r.setRecord i { a with validUntilReached := true }
  else if (a.state = .awaiting ∨ a.state = .queued) ∧ a.validUntil ≤ now then
    (r.setAlertState i .expired).report (.alertExpired i)
  else match a.deadline with
    | some t =>
      if a.state = .awaiting ∧ t ≤ now then
        match a.expiryAction with
        | .air => (r.enqueue i).report (.alertWindowExpired i .queued)
        | .drop => (r.setAlertState i .declined).report (.alertWindowExpired i .declined)
      else r
    | none => r

/-- A new value of station seconds is compared with the deadlines (R148, R149). -/
def Rig.alertSeconds (r : Rig) (now : Nat) : Rig :=
  (allRecords.foldl (fun r i => r.testDeadlines now i) r).airIfIdle

/-- The deadlines of live records moved (R148). -/
def Rig.moveDeadlines (r : Rig) (f : Nat → Nat) : Rig :=
  { r with alerts := { r.alerts with
      records := vmap (fun a => if a.live then
        { a with validUntil := f a.validUntil, deadline := a.deadline.map f } else a)
        r.alerts.records } }

/-- The wrap of station seconds (R148). -/
def wrapDeadline (t : Nat) : Nat := if 1073741824 ≤ t then t - 1073741824 else 0

/-- The first TIME_SET: deadlines move by the step, new seconds minus old seconds (R148). -/
def stepDeadline (old new t : Nat) : Nat := t + new - old

end Sys2Proof.Machine
end

