-- ==== Sys2Proof/Machine/MonitorOps.lean ====
section
/-!
DEFINITION. The Monitor block's shared operations (chapter 9): the state machines of R170 and R171, the
handing on of actions (R173), and the reset of a line's cells (R169).
-/

namespace Sys2Proof.Machine

def Rig.cell (r : Rig) (c : Fin 18) : MonitorCell := r.monitors.cells[c]

def Rig.setCell (r : Rig) (c : Fin 18) (x : MonitorCell) : Rig :=
  { r with monitors := { r.monitors with cells := vset r.monitors.cells c x } }

def Rig.notify (r : Rig) (n : LineNotice) : Rig :=
  { r with monitors := { r.monitors with lineNotices := r.monitors.lineNotices ++ [n] } }

/-- A change of whether a cell acts is handed to the owner of the action (R173): `was` is whether it acted before.
R162 names no cause for a change of owner that a MONITOR_SET makes by the DLY-silence mode; that OWNER then carries
DLY_FAULT when the instance begins to act and DLY_CLEAR when it stops is the model's choice
(notes/assumptions/34.md). -/
def Rig.handOn (r : Rig) (c : Fin 18) (was : Bool) : Rig :=
  if r.monitors.acts c = was then r
  else if c = dlySilence then r.evaluateOwner (if was then .dlyClear else .dlyFault)
  else match cellLine c with
    | none => r
    | some k =>
      if cellSetting c = 6 then (if was then r else r.notify (.quietFault k))
      else r.notify (if was then .overloadClear k else .overloadFault k)

/-- The greatest side peak of a block (R171). -/
def MonitorCell.peak (x : MonitorCell) : Nat := if x.peakL < x.peakR then x.peakR else x.peakL

/-- A FAULT counts its restore blocks, except in LATCHED mode (R170, R171). -/
def MonitorCell.restoring (x : MonitorCell) (m : MonitorSetting) : MonitorCell :=
  if m.mode = .latched then x
  else if m.restore * 100 ≤ x.restoreCount + 1 then
    { x with state := .clear, persistence := 0, restoreCount := 0 }
  else { x with restoreCount := x.restoreCount + 1 }

/-- A counted block of a silence or quiet cell (R170). -/
def MonitorCell.silenceBlock (x : MonitorCell) (m : MonitorSetting) (quiet : Bool) : MonitorCell :=
  match x.state, quiet with
  | .fault, true => { x with restoreCount := 0 }
  | .fault, false => x.restoring m
  | .warning, false => { x with state := .clear, persistence := 0 }
  | .clear, false => { x with persistence := 0 }
  | old, true =>
    if m.fault * 100 ≤ x.persistence + 1 then
      { x with state := .fault, persistence := m.fault * 100, restoreCount := 0 }
    else if m.warn * 100 ≤ x.persistence + 1 then
      { x with state := .warning, persistence := x.persistence + 1 }
    else { x with state := old, persistence := x.persistence + 1 }

/-- A counted block of an overload cell (R171). -/
def MonitorCell.overloadBlock (x : MonitorCell) (m : MonitorSetting) (hot : Bool) : MonitorCell :=
  match x.state, hot with
  | .fault, true => { x with restoreCount := 0 }
  | .fault, false => x.restoring m
  | _, false => { x with persistence := 0 }
  | _, true =>
    if m.hold ≤ x.persistence + 1 then
      { x with state := .fault, persistence := x.persistence + 1, restoreCount := 0 }
    else { x with persistence := x.persistence + 1 }

/-- A cell after its counted block (R169): quiet when every side's peak is below the threshold, hot when
any side's peak is at or above it. -/
def MonitorCell.counted (x : MonitorCell) (overload : Bool) (m : MonitorSetting) : MonitorCell :=
  if overload then x.overloadBlock m (m.threshold ≤ x.peak)
  else x.silenceBlock m (x.peak < m.threshold)

/-- The end of a cell's block (R169 to R171, R173): counted or discarded, reported where its state changes,
handed on where it begins or stops to act, and its peaks made 0. -/
def Rig.endBlock (r : Rig) (c : Fin 18) : Rig :=
  let x := r.cell c
  let m := r.monitors.settings[cellSetting c]
  let was := r.monitors.acts c
  let y := if x.discard || m.mode == .off then x
    else x.counted (isOverloadSetting (cellSetting c)) m
  let next := r.setCell c { y with peakL := 0, peakR := 0, discard := false }
  let told := if y.state = x.state then next
    else next.report (.monitorState (cellSetting c) (cellLine c) x.state y.state x.peak)
  told.handOn c was

def allCells : List (Fin 18) := [0, 1, 2, 3, 4, 5, 6, 7, 8, 9, 10, 11, 12, 13, 14, 15, 16, 17]

/-- Every cell's block ends (R169). -/
def Rig.endBlocks (r : Rig) : Rig := allCells.foldl (fun r c => r.endBlock c) r

/-- A line's two cells are set to CLEAR when the line enters or leaves ON_AIR (R169); the block being
measured is not a whole block of the line, unless no frame of it has been measured. -/
def Rig.resetLineCells (r : Rig) (k : LineId) : Rig :=
  let fresh := { MonitorCell.reset with discard := r.monitors.phase != 0 }
  (r.setCell (quietCell k) fresh).setCell (overloadCell k) fresh

end Sys2Proof.Machine
end

