-- ==== Sys2Proof/Machine/Callers.lean ====
section
/-!
DEFINITION. Caller lines (chapter 6): the line machine, the caller queue, take-to-air, muting, and the
commands LINE_QUIET_FAULT, LINE_OVERLOAD_CHANGE, CALL_* and LINE_*.
-/

namespace Sys2Proof.Machine

/-! ### Shared operations -/

/-- The muted flag R112 gives a line: it is ON_AIR and, by the scope, its own or any ON_AIR line's overload
fault stands. -/
def State.muteOf (s : State) (k : LineId) : Bool :=
  (s.line k).state == .onAir &&
    (match (s.rig.monitors.settings[(7 : Fin 8)]).scope with
     | .line => s.rig.monitors.overloadStands k
     | .all => allLines.any fun j =>
        (s.line j).state == .onAir && s.rig.monitors.overloadStands j)

/-- One line's flag is set again, with the report of a change (R112). -/
def State.remuteLine (s : State) (k : LineId) : State :=
  let l := s.line k
  if l.muted = s.muteOf k then s
  else (s.setLine k { l with muted := s.muteOf k }).report
    (if s.muteOf k then .callMuted k l.callRef else .callUnmuted k l.callRef)

/-- Every line's flag is set again (R112). R112 gives no order for the MUTED and UNMUTED reports of one event: that
they are queued in increasing line order, and where they stand among the other messages of the event, is the model's
choice (notes/assumptions/15.md). -/
def State.remute (s : State) : State := allLines.foldl (fun s k => s.remuteLine k) s

/-- The flags are set again at the end of a call that was ON_AIR, and at no other end of a call (R112). -/
def State.remuteAfter (s : State) (left : LineState) : State := if left = .onAir then s.remute else s

/-- The call on a line is over (R100, R101, R107, R111, R114). -/
def Line.idled (l : Line) : Line :=
  { l with state := .idle, callRef := 0, muted := false, answerTimer := 0 }

def State.setQueue (s : State) (q : List LineId) : State :=
  { s with callers := { s.callers with queue := q } }

/-- The Monitor block is told that a line has entered or left ON_AIR (R96). -/
def State.tellMonitors (s : State) (k : LineId) : State := s.onRig (·.resetLineCells k)

/-- A line becomes IDLE from whatever state it is in: it leaves the caller queue from its place, and the
Monitor block is told when it leaves ON_AIR (R101, R103, R107). -/
def State.endCall (s : State) (k : LineId) : State :=
  let idle := (s.setLine k (s.line k).idled).setQueue (s.callers.queue.filter (· != k))
  if (s.line k).state = .onAir then idle.tellMonitors k else idle

/-- An ANSWERING line's timer expires (R100). -/
def State.answerFails (s : State) (k : LineId) : State :=
  let ref := (s.line k).callRef
  ((s.endCall k).onRig (·.command (.phoneRelease k ref))).report (.callAnswerFailed k ref)

/-- A frame event takes 1 from an ANSWERING line's timer; at 0 it expires (R100). -/
def State.countAnswerTimer (s : State) (k : LineId) : State :=
  let l := s.line k
  if l.state ≠ .answering then s
  else if l.answerTimer ≤ 1 then s.answerFails k
  else s.setLine k { l with answerTimer := l.answerTimer - 1 }

def State.countAnswerTimers (s : State) : State :=
  allLines.foldl (fun s k => s.countAnswerTimer k) s

/-- A line that is asked for by number and must be in one state (R104, R105). -/
def State.lineIn (s : State) (line : Nat) (st : LineState) : Except Status LineId := do
  let k ← require .range (index? 6 line)
  refuse .state ((s.line k).state != st)
  return k

/-- The notices without the first that is `n`. -/
def takeNotice (n : LineNotice) (ns : List LineNotice) : List LineNotice := ns.erase n

def State.setNotices (s : State) (ns : List LineNotice) : State :=
  s.onRig fun r => { r with monitors := { r.monitors with lineNotices := ns } }

def LineNotice.isQuiet : LineNotice → Bool
  | .quietFault _ => true
  | _ => false

/-! ### Events -/

/-- LINE_QUIET_FAULT (R110, R111): the controller takes a quiet fault that the Monitor block handed it; a
fault for a line no longer ON_AIR is discarded. That the line's state at this event alone decides, so that a fault still
waiting when its line has left ON_AIR and entered it again drops the line, is the model's choice
(notes/assumptions/38.md). The muting reports follow DROPPED (notes/assumptions/15.md). -/
def execLineQuietFault (k : LineId) (s : State) : Answer :=
  whenDue (s.rig.monitors.lineNotices.contains (.quietFault k)) s fun s =>
    let s₁ := s.setNotices (takeNotice (.quietFault k) s.rig.monitors.lineNotices)
    let ref := (s.line k).callRef
    .next (if (s.line k).state ≠ .onAir then s₁
      else (((s₁.endCall k).onRig (·.command (.phoneRelease k ref))).report
        (.callDropped k ref)).remute)

/-- LINE_OVERLOAD_CHANGE (R110, R112): the controller takes the oldest overload fault, overload clear or
scope change handed to it, and sets the muted flags again. R110 discards an overload fault of a line no longer ON_AIR
and R112 sets the flags again wherever one is taken: that the event which discards such a fault also sets the flags of
the lines ON_AIR again is the model's choice (notes/assumptions/37.md). -/
def execLineOverloadChange (s : State) : Answer :=
  match s.rig.monitors.lineNotices.find? (fun n => !n.isQuiet) with
  | none => .next s
  | some n => .next (s.setNotices (takeNotice n s.rig.monitors.lineNotices)).remute

/-! ### Requests from CONSOLE -/

/-- CALL_ANSWER (R98, R102). -/
def execCallAnswer (tag : Tag) (line : Nat) (s : State) : Answer :=
  .next (s.take 2 fun s =>
    s.judged tag .callAnswer (do
        let k ← s.lineIn line .ringing
        refuse .absent ((s.line k).inLane == none)
        return k)
      fun k =>
        ((s.setLine k { s.line k with state := .answering, answerTimer := 192000 }).onRig
          (·.requestCommand (.phoneAnswer k (s.line k).callRef))).reply tag .callAnswer .done [])

/-- CALL_READY (R104). -/
def execCallReady (tag : Tag) (line : Nat) (s : State) : Answer :=
  .next (s.take 1 fun s =>
    s.judged tag .callReady (s.lineIn line .screen) fun k =>
      ((s.setLine k { s.line k with state := .hold }).setQueue (s.callers.queue ++ [k])).reply tag
        .callReady .done [])

/-- The checks of CALL_TAKE, in order (R106); a line field of 6 means NEXT (R201). -/
def State.takeCheck (s : State) (line : Nat) : Except Status LineId := do
  refuse .range (6 < line)
  let k ← match index? 6 line with
    | some k => if (s.line k).state = .hold then .ok k else .error .state
    | none => require .absent s.callers.queue.head?
  refuse .full (s.callers.limit ≤ s.callers.onAirCount)
  refuse .alertOnAir (s.rig.airSwitch.owner == .alert)
  refuse .notSafe (!s.rig.delay.safe || s.rig.delay.state == .exit)
  return k

/-- CALL_TAKE (R106). The muting reports stand before the reply (notes/assumptions/15.md). -/
def execCallTake (tag : Tag) (line : Nat) (s : State) : Answer :=
  .next (s.take 1 fun s =>
    s.judged tag .callTake (s.takeCheck line) fun k =>
      ((((s.setLine k { s.line k with state := .onAir, muted := false }).setQueue
        (s.callers.queue.filter (· != k))).tellMonitors k).remute).reply tag .callTake .done [])

/-- CALL_PARK (R105). The muting reports stand before the reply (notes/assumptions/15.md). -/
def execCallPark (tag : Tag) (line : Nat) (s : State) : Answer :=
  .next (s.take 1 fun s =>
    s.judged tag .callPark (s.lineIn line .onAir) fun k =>
      ((((s.setLine k { s.line k with state := .hold, muted := false }).setQueue
        (k :: s.callers.queue)).tellMonitors k).remute).reply tag .callPark .done [])

/-- CALL_DROP (R107). The muting reports follow the reply (notes/assumptions/15.md). -/
def execCallDrop (tag : Tag) (line : Nat) (s : State) : Answer :=
  .next (s.take 2 fun s =>
    s.judged tag .callDrop (do
        let k ← require .range (index? 6 line)
        refuse .state ((s.line k).state == .idle)
        return k)
      fun k =>
        (((s.endCall k).onRig (·.requestCommand (.phoneRelease k (s.line k).callRef))).reply tag
          .callDrop .done []).remuteAfter (s.line k).state)

/-- One item of CALL_SETUP read: its line, in-lane and return gain (R108). -/
def lineItem? (f : LineFields) : Option (LineId × Option (Fin 16) × Nat) :=
  match index? 6 f.line, inLane? f.inLane, inRange? 0 65535 f.returnGain with
  | some k, some lane, some gain => some (k, lane, gain)
  | _, _, _ => none

/-- Every item of a list read, or none. -/
def readAll? {α β : Type} (f : α → Option β) : List α → Option (List β)
  | [] => some []
  | x :: rest =>
    match f x, readAll? f rest with
    | some y, some ys => some (y :: ys)
    | _, _ => none

/-- No value stands twice in a list. -/
def allDistinct {α : Type} [DecidableEq α] : List α → Bool
  | [] => true
  | x :: rest => !rest.contains x && allDistinct rest

/-- The checks of CALL_SETUP, in order (R108). A list of 0 items counts as an operand that is not present, the
model's choice (notes/assumptions/31.md). -/
def State.callSetupCheck (s : State) (limit holdGain : Option Nat) (items : List LineFields) :
    Except Status (Option Nat × Option Nat × List (LineId × Option (Fin 16) × Nat)) := do
  refuse .range (limit == none && holdGain == none && items.isEmpty)
  let l ← require .range (optional? (inRange? 1 3) limit)
  let g ← require .range (optional? (inRange? 0 65535) holdGain)
  refuse .range (6 < items.length)
  let is ← require .range (readAll? lineItem? items)
  refuse .range (!allDistinct (is.map (·.1)))
  refuse .state (is.any fun i => (s.line i.1).state != .idle && (s.line i.1).inLane != i.2.1)
  refuse .busy (match l with
    | some n => n < s.callers.onAirCount
    | none => false)
  return (l, g, is)

/-- CALL_SETUP (R108). -/
def execCallSetup (tag : Tag) (limit holdGain : Option Nat) (items : List LineFields) (s : State) :
    Answer :=
  .next (s.take 1 fun s =>
    s.judged tag .callSetup (s.callSetupCheck limit holdGain items) fun v =>
      let set := { s with callers := { s.callers with
        limit := v.1.getD s.callers.limit, holdGain := v.2.1.getD s.callers.holdGain } }
      (v.2.2.foldl (fun s i => s.setLine i.1 { s.line i.1 with inLane := i.2.1, returnGain := i.2.2 })
        set).reply tag .callSetup .done [])

/-- The data of LINE_READ (R109): the fields of R95, the place, the queue's length, and the settings. -/
def State.lineData (s : State) (k : LineId) : List Nat :=
  let l := s.line k
  [l.state.code, l.callRef, orNone (l.inLane.map Fin.val), l.returnGain, Bool.code l.muted,
   l.answerTimer, orNone (s.callers.place k), s.callers.queue.length, s.callers.onAirCount,
   s.callers.limit, s.callers.holdGain]

/-- LINE_READ (R109). -/
def execLineRead (tag : Tag) (line : Nat) (s : State) : Answer :=
  .next (s.take 1 fun s =>
    s.judged tag .lineRead (require .range (index? 6 line)) fun k =>
      s.reply tag .lineRead .done (s.lineData k))

/-! ### Messages from PHONE -/

/-- LINE_RING (R97). -/
def execLineRing (tag : Tag) (line callRef : Nat) (s : State) : Answer :=
  .next (s.take 1 fun s =>
    s.judged tag .lineRing (do
        refuse .range (callRef == 0 || 1073741823 < callRef)
        s.lineIn line .idle)
      fun k =>
        ((s.setLine k { s.line k with state := .ringing, callRef := callRef }).reply tag .lineRing
          .done []).report (.callRinging k callRef))

/-- LINE_CONNECTED (R99). -/
def execLineConnected (tag : Tag) (line callRef : Nat) (s : State) : Answer :=
  .next (s.take 1 fun s =>
    s.judged tag .lineConnected (do
        let k ← s.lineIn line .answering
        refuse .state ((s.line k).callRef != callRef)
        return k)
      fun k =>
        ((s.setLine k { s.line k with state := .screen, answerTimer := 0 }).report
          (.callConnected k callRef)).reply tag .lineConnected .done [])

/-- LINE_HANGUP (R101). HANGUP stands before the reply and the muting reports after it (notes/assumptions/15.md). -/
def execLineHangup (tag : Tag) (line callRef : Nat) (s : State) : Answer :=
  .next (s.take 1 fun s =>
    s.judged tag .lineHangup (do
        let k ← require .range (index? 6 line)
        refuse .state ((s.line k).state == .idle || (s.line k).callRef != callRef)
        return k)
      fun k =>
        (((s.endCall k).report (.callHangup k callRef (s.line k).state)).reply tag .lineHangup
          .done []).remuteAfter (s.line k).state)

/-! ### Restart -/

/-- RESTART on one line: a call in progress is released (R114). -/
def State.restartLine (s : State) (k : LineId) : State :=
  let l := s.line k
  if l.state = .idle then s
  else (s.setLine k l.idled).onRig (·.command (.phoneRelease k l.callRef))

/-- RESTART on the controller (R114). -/
def State.restartCallers (s : State) : State :=
  (allLines.foldl (fun s k => s.restartLine k) s).setQueue []

end Sys2Proof.Machine
end

