-- ==== Sys2Proof/Machine/Clock.lean ====
section
/-!
DEFINITION. Frames, lanes and station time (chapter 1): the receiver's lock machine, the Station Clock, the
Trunk Transmitter, and the commands OUTMAP_SET and TIME_SET.
-/

namespace Sys2Proof.Machine

/-! ### The lock machine -/

/-- What the receiver hands on at its frame event (R1). -/
def State.handLanes (s : State) (lanes : Vector Sample 16) : State :=
  { s with completed := { s.completed with lanes := lanes } }

def silentLanes : Vector Sample 16 := Vector.replicate 16 0

/-- NO_SIGNAL with both counts 0 and no message open (R2, R3, R6). -/
def State.noSignal (s : State) : State :=
  { s with trunk := .reset, inbound := none }

/-- Frame loss (R6): the lanes handed on are silence, which is what their users read from the next frame event,
the Station Clock goes to its crystal, recordings in progress are abandoned or end truncated, and TRUNK_EVENT LOST
is queued (the order: notes/assumptions/7.md). -/
def State.loseFrame (s : State) : State :=
  let lost := { s.noSignal.handLanes silentLanes with
    clock := { s.clock with source := .crystal, holdover := 0 } }
  lost.onRig fun r =>
    (((r.abandonCarts .lost).alertRecordingsLost s.clock.seconds)).report .trunkLost

/-- On entering LOCKED (R4). The settle count returns to 0, as the worked outage has it
(notes/assumptions/11.md). -/
def State.enterLocked (s : State) : State :=
  let locked := { s with
    trunk := { lock := .locked, settleCount := 0, failureCount := 0, handsWord := false }
    clock := { s.clock with source := .trunk } }
  locked.report (.trunkLocked s.clock.holdover)

/-- An aligned frame in SETTLING (R3). -/
def State.settleFrame (s : State) : State :=
  if 4800 ≤ s.trunk.settleCount + 1 then s.enterLocked
  else { s with trunk := { s.trunk with
    settleCount := s.trunk.settleCount + 1, failureCount := 0 } }

/-- A failed position in SETTLING (R3). -/
def State.settleFailure (s : State) : State :=
  if 3 ≤ s.trunk.failureCount + 1 then s.noSignal
  else { s with trunk := { s.trunk with
    settleCount := 0, failureCount := s.trunk.failureCount + 1 } }

/-- A failed position in LOCKED (R5): silence, the open message discarded, and frame loss at the third. -/
def State.lockedFailure (s : State) : State :=
  if 3 ≤ s.trunk.failureCount + 1 then s.loseFrame
  else { s.handLanes silentLanes with
    inbound := none
    trunk := { s.trunk with failureCount := s.trunk.failureCount + 1, handsWord := false } }

/-- ACTIVITY_SEEN (R2). -/
def execActivitySeen (s : State) : Answer :=
  .next (if s.trunk.lock = .noSignal then { s with trunk := { s.trunk with lock := .acquiring } } else s)

/-- ACTIVITY_CEASES for a whole frame period (R2, R3, R5). -/
def execActivityCeases (s : State) : Answer :=
  .next (match s.trunk.lock with
    | .noSignal => s
    | .acquiring | .settling => s.noSignal
    | .locked => s.loseFrame)

/-- ALIGNMENT_FOUND at two successive expected positions (R2). -/
def execAlignmentFound (s : State) : Answer :=
  .next (if s.trunk.lock = .acquiring then
    { s with trunk := { s.trunk with lock := .settling, settleCount := 0, failureCount := 0 } } else s)

/-- ALIGNED_FRAME (R1, R3, R5): counted in SETTLING; handed on in LOCKED. -/
def execAlignedFrame (lanes : Vector Sample 16) (s : State) : Answer :=
  .next (match s.trunk.lock with
    | .noSignal | .acquiring => s
    | .settling => s.settleFrame
    | .locked => { s.handLanes lanes with
        trunk := { s.trunk with failureCount := 0, handsWord := true } })

/-- FAILED_POSITION (R1, R3, R5). -/
def execFailedPosition (s : State) : Answer :=
  .next (match s.trunk.lock with
    | .noSignal | .acquiring => s
    | .settling => s.settleFailure
    | .locked => s.lockedFailure)

/-- SETTLING_FAILURE: the third failure in a row in SETTLING (R3). -/
def execSettlingFailure (s : State) : Answer :=
  whenDue (s.trunk.lock == .settling && 3 ≤ s.trunk.failureCount + 1) s fun s => .next s.settleFailure

/-- LOCK_EVENT: the aligned frame at which the settle count reaches 4,800 (R4). -/
def execLockEvent (s : State) : Answer :=
  whenDue (s.trunk.lock == .settling && 4800 ≤ s.trunk.settleCount + 1) s fun s => .next s.settleFrame

/-- FRAME_LOSS: the third failure in a row in LOCKED (R6). -/
def execFrameLoss (s : State) : Answer :=
  whenDue (s.trunk.lock == .locked && 3 ≤ s.trunk.failureCount + 1) s fun s => .next s.lockedFailure

/-! ### The Station Clock -/

/-- The frame count reaches 48,000 at this frame event (R12). -/
def Clock.secondDue (c : Clock) : Bool := 48000 ≤ c.frameCount + 1

/-- Station seconds after an advance (R12). -/
def Clock.nextSeconds (c : Clock) : Nat := if 1073741823 ≤ c.seconds then 0 else c.seconds + 1

/-- The Station Clock's own count of a frame event (R12). -/
def Clock.counted (c : Clock) : Clock :=
  { c with
    frameCount := if c.secondDue then 0 else c.frameCount + 1
    seconds := if c.secondDue then c.nextSeconds else c.seconds
    holdover := if c.source = .crystal then stopCount c.holdover else c.holdover }

/-- A new value of station seconds is handed to the Running Order controller and the Alert controller
(R14). -/
def Rig.newSeconds (r : Rig) (now : Nat) : Rig := (r.orderSeconds now).alertSeconds now

/-- A second advances: the wrap moves the deadlines of live alert records first (R148). -/
def Rig.secondAdvance (r : Rig) (old new : Nat) : Rig :=
  (if new < old then r.moveDeadlines wrapDeadline else r).newSeconds new

/-- A frame begins (R8): its users take what the frame before completed, and outside LOCKED the receiver
hands silence at this frame event (R1, R7). -/
def State.openFrame (s : State) : State :=
  let opened := { s with taken := s.completed }
  if s.trunk.lock = .locked then opened else opened.handLanes silentLanes

/-- A frame event of the Station Clock (R7, R12), with the answer timers that it drives (R100). -/
def State.clockFrame (s : State) : State :=
  let counted := { s.openFrame with clock := s.clock.counted }
  let told := if s.clock.secondDue then
      counted.onRig (·.secondAdvance s.clock.seconds s.clock.nextSeconds)
    else counted
  told.countAnswerTimers

/-- STATION_CLOCK_FRAME (R12). -/
def execStationClockFrame (s : State) : Answer := .next s.clockFrame

/-- SECOND_ADVANCE: the frame event at which the frame count reaches 48,000 (R12). -/
def execSecondAdvance (s : State) : Answer :=
  whenDue s.clock.secondDue s fun s => .next s.clockFrame

/-- A TIMED entry with this tag is reached by the second that is about to advance (R83). -/
def State.timeIsReached (s : State) (entryTag : Nat) : Bool :=
  s.clock.secondDue && s.rig.order.entries.any fun e =>
    e.tag == entryTag && e.reached s.clock.nextSeconds != e

/-- TIME_REACHED: the second's advance that reaches an entry's start time (R83). -/
def execTimeReached (entryTag : Nat) (s : State) : Answer :=
  whenDue (s.timeIsReached entryTag) s fun s => .next s.clockFrame

/-- The alert records as the comparison of the coming second finds them (R148). -/
def State.recordAtSecond (s : State) (i : RecordId) : AlertRecord :=
  if s.clock.nextSeconds < s.clock.seconds then
    (s.rig.moveDeadlines wrapDeadline).record i else s.rig.record i

/-- A record's valid-until is reached (R149, step 1). -/
def AlertRecord.validityReached (a : AlertRecord) (now : Nat) : Bool :=
  (a.state == .awaiting || a.state == .queued) && a.validUntil ≤ now

/-- A record's window deadline is reached and its valid-until is not (R149, step 2). -/
def AlertRecord.windowReached (a : AlertRecord) (now : Nat) : Bool :=
  a.state == .awaiting && !a.validityReached now && (match a.deadline with
    | some t => t ≤ now
    | none => false)

/-- VALIDITY_EXPIRY: the second's advance that reaches a record's valid-until (R149). -/
def execValidityExpiry (i : RecordId) (s : State) : Answer :=
  whenDue (s.clock.secondDue && (s.recordAtSecond i).validityReached s.clock.nextSeconds) s
    fun s => .next s.clockFrame

/-- WINDOW_EXPIRY: the second's advance that reaches a record's window deadline (R149). -/
def execWindowExpiry (i : RecordId) (s : State) : Answer :=
  whenDue (s.clock.secondDue && (s.recordAtSecond i).windowReached s.clock.nextSeconds) s
    fun s => .next s.clockFrame

/-- ANSWER_TIMER_EXPIRY: the frame event that takes a line's answer timer to 0 (R100). -/
def execAnswerTimerExpiry (k : LineId) (s : State) : Answer :=
  whenDue ((s.line k).state == .answering && (s.line k).answerTimer ≤ 1) s fun s => .next s.clockFrame

/-- TIME_SET (R13, R14, R148). -/
def execTimeSet (tag : Tag) (seconds : Nat) (s : State) : Answer :=
  .next (s.take 1 fun s =>
    s.judged tag .timeSet (refuse .range (1073741823 < seconds)) fun _ =>
      let set := { s with clock := { s.clock with
        seconds := seconds, frameCount := 0, timeValid := true } }
      (set.reply tag .timeSet .done []).onRig fun r =>
        (if s.clock.timeValid then r
          else r.moveDeadlines (stepDeadline s.clock.seconds seconds)).newSeconds seconds)

/-! ### The Trunk Transmitter -/

/-- The sample of a signal, as its source block completed it at the previous frame event (R9, R10). -/
def Outputs.signal (o : Outputs) : Signal → Sample
  | .airL => o.air.l
  | .airR => o.air.r
  | .pgmL => o.pgm.l
  | .pgmR => o.pgm.r
  | .dlyL => o.dly.l
  | .dlyR => o.dly.r
  | .cueL => o.cue.l
  | .cueR => o.cue.r
  | .scr => o.scr
  | .lineReturn k => o.returns[k]
  | .holdFeed => o.holdFeed
  | .silence => 0

/-- The word that leaves at this frame event: the head's next word, or IDLE (R9, R197). R9, R194, R197 and R200
give an IDLE word its word code 0 alone; that its payload is 0 too is the model's choice (notes/assumptions/8.md). -/
def Egress.word (e : Egress) : Word32 :=
  match e.queue with
  | [] => 0
  | m :: _ => m.words.getD e.sent 0

/-- The queue after a word has left: the head goes with its LAST word (R197). -/
def Egress.advanced (e : Egress) : Egress :=
  match e.queue with
  | [] => { e with sent := 0 }
  | m :: rest =>
    if m.words.length ≤ e.sent + 1 then { e with queue := rest, sent := 0 }
    else { e with sent := e.sent + 1 }

/-- TRANSMIT_FRAME (R9). -/
def execTransmitFrame (s : State) : Answer :=
  .next { s with
    outFrame := { lanes := vmap s.taken.signal s.outMap, word := s.rig.egress.word }
    rig := { s.rig with egress := s.rig.egress.advanced } }

/-- One assignment of OUTMAP_SET read: its lane and its signal (R11). -/
def mapItem? (item : Nat × Nat) : Option (Fin 16 × Signal) :=
  match index? 16 item.1, signal? item.2 with
  | some lane, some signal => some (lane, signal)
  | _, _ => none

/-- The checks of OUTMAP_SET (R11). -/
def outmapCheck (items : List (Nat × Nat)) : Except Status (List (Fin 16 × Signal)) := do
  refuse .range (items.isEmpty || 16 < items.length)
  let is ← require .range (readAll? mapItem? items)
  refuse .range (!allDistinct (is.map (·.1)))
  return is

/-- OUTMAP_SET (R11). -/
def execOutmapSet (tag : Tag) (items : List (Nat × Nat)) (s : State) : Answer :=
  .next (s.take 1 fun s =>
    s.judged tag .outmapSet (outmapCheck items) fun is =>
      let set := is.foldl (fun m (i : Fin 16 × Signal) => vset m i.1 i.2) s.outMap
      ({ s with outMap := set }).reply tag .outmapSet .done [])

end Sys2Proof.Machine
end

