-- ==== Sys2Proof/Machine/Carts.lean ====
section
/-!
DEFINITION. The sample store, carts and recorders (chapter 3): the commands RECORDER_FRAME,
CART_RECORDING_FULL, ALERT_DECLARED_LENGTH, ALERT_SLOT_FULL, REGION_SET and CART_*.
-/

namespace Sys2Proof.Machine

/-! ### A recorder's frame -/

/-- The frame a recorder takes from the lanes (R51). -/
def Outputs.recorded (o : Outputs) : RecordSource → Frame
  | .lane x => .mono o.lanes[x]
  | .pair k => .stereo (o.lanes[2 * k.val]'(by omega)) (o.lanes[2 * k.val + 1]'(by omega))

/-- The form a recorder writes (R50). -/
def RecordSource.form : RecordSource → Form
  | .lane _ => .mono
  | .pair _ => .stereo

/-- The page at which a recorder's target starts; none while it is FREE (R37). -/
def Rig.targetStart (r : Rig) : Binding → Option Nat
  | .free => none
  | .cart c => some (r.cart c).start
  | .alert i => some (r.library.slotStart i)

/-- A recorder's position advances, and its target's length with it (R51, R144). -/
def Rig.recorderAdvances (r : Rig) (k : RecorderId) : Rig :=
  let x := r.recorder k
  let moved := r.setRecorder k { x with position := x.position + 1 }
  match x.binding with
  | .free => r
  | .cart c => moved.setCart c { r.cart c with length := x.position + 1 }
  | .alert i => moved.setRecord i { r.record i with recordedLength := x.position + 1 }

/-- What ends at a recorder's frame event, its position already advanced (R51, R52, R144). -/
def Rig.recorderEnds (r : Rig) (k : RecorderId) (now : Nat) : Rig :=
  let x := r.recorder k
  match x.binding with
  | .free => r
  | .cart c => if x.limit ≤ x.position then r.cartRecordingEnds k c .full else r
  | .alert i =>
    if (r.record i).declaredLength ≤ x.position then r.alertRecordingEnds i false now
    else if x.limit ≤ x.position then r.alertRecordingEnds i true now
    else r

/-- One frame of a recorder (R51). -/
def State.recorderFrame (s : State) (k : RecorderId) : Answer :=
  let x := s.rig.recorder k
  match s.rig.targetStart x.binding with
  | none => .next s
  | some start =>
    if inStore (extentWords x.source.form start x.position) then
      .next { s with
        store := s.store.writeFrame start x.position (s.taken.recorded x.source)
        rig := (s.rig.recorderAdvances k).recorderEnds k s.clock.seconds }
    else .fault .noSuchWord

/-- RECORDER_FRAME (R51). -/
def execRecorderFrame (k : RecorderId) (s : State) : Answer := s.recorderFrame k

/-- A recorder is bound to a cart. -/
def Binding.isCart : Binding → Bool
  | .cart _ => true
  | _ => false

/-- The declared length of the alert record a recorder is bound to (R144). -/
def Rig.declaredFor (r : Rig) : Binding → Option Nat
  | .alert i => some (r.record i).declaredLength
  | _ => none

/-- CART_RECORDING_FULL: the frame event at which a cart recording reaches its limit (R52). -/
def execCartRecordingFull (k : RecorderId) (s : State) : Answer :=
  whenDue ((s.rig.recorder k).binding.isCart &&
      (s.rig.recorder k).limit ≤ (s.rig.recorder k).position + 1) s fun s => s.recorderFrame k

/-- ALERT_DECLARED_LENGTH: the frame event at which an alert recording reaches its declared length
(R144). -/
def execAlertDeclaredLength (k : RecorderId) (s : State) : Answer :=
  whenDue (match s.rig.declaredFor (s.rig.recorder k).binding with
    | some n => n ≤ (s.rig.recorder k).position + 1
    | none => false) s fun s => s.recorderFrame k

/-- ALERT_SLOT_FULL: the frame event at which an alert recording reaches its slot's limit while still
below its declared length (R144). -/
def execAlertSlotFull (k : RecorderId) (s : State) : Answer :=
  whenDue (match s.rig.declaredFor (s.rig.recorder k).binding with
    | some n => (s.rig.recorder k).position + 1 < n &&
        (s.rig.recorder k).limit ≤ (s.rig.recorder k).position + 1
    | none => false) s fun s => s.recorderFrame k

/-! ### Regions -/

/-- Any alert record is RECORDING, AWAITING, QUEUED or AIRING (R40). -/
def Rig.anyAlertLive (r : Rig) : Bool := r.alerts.records.toList.any AlertRecord.live

/-- The checks of REGION_SET for the delay region, in order (R40). -/
def Rig.delayRegionCheck (r : Rig) (start pages : Nat) : Except Status Unit := do
  refuse .range (128 < pages || (pages != 0 && 4096 < start + pages))
  refuse .state (r.delay.state != .bypass)
  refuse .busy (pagesMeet start pages r.library.alertRegion.start r.library.alertRegion.pages ||
    r.library.meetsCart start pages none)

/-- The checks of REGION_SET for the alert region, in order (R40). -/
def Rig.alertRegionCheck (r : Rig) (start pages : Nat) : Except Status Unit := do
  refuse .range (pages % 16 != 0 || 2048 < pages || (pages != 0 && 4096 < start + pages))
  refuse .busy r.anyAlertLive
  refuse .busy (pagesMeet start pages r.library.delayRegion.start r.library.delayRegion.pages ||
    r.library.meetsCart start pages none)

/-- A region as REGION_SET leaves it: a page count of 0 sets the start page to 0 (R40). -/
def regionOf (start pages : Nat) : Region :=
  { start := if pages = 0 then 0 else start, pages := pages }

/-- REGION_SET (R40). -/
def execRegionSet (tag : Tag) (region start pages : Nat) (s : State) : Answer :=
  .next (s.takeOnRig fun r =>
    match region with
    | 0 => match r.delayRegionCheck start pages with
      | .error status => r.reply tag .regionSet status []
      | .ok _ => ({ r with library := { r.library with
          delayRegion := regionOf start pages } }).reply tag .regionSet .done []
    | 1 => match r.alertRegionCheck start pages with
      | .error status => r.reply tag .regionSet status []
      | .ok _ => ({ r with library := { r.library with
          alertRegion := regionOf start pages } }).reply tag .regionSet .done []
    | _ => r.reply tag .regionSet .range [])

/-! ### Carts -/

/-- The checks of CART_DEFINE, in order (R44). -/
def Rig.cartDefineCheck (r : Rig) (cart start pages form cls : Nat) :
    Except Status (CartId × Form × CartClass) := do
  let c ← require .range (index? 256 cart)
  refuse .range (pages == 0 || 4096 < pages || 4096 < start + pages)
  let f ← require .range (form? form)
  let k ← require .range (cartClass? cls)
  refuse .busy (r.cartHeld c)
  refuse .state ((r.cart c).state == .ready)
  refuse .busy (pagesMeet start pages r.library.delayRegion.start r.library.delayRegion.pages ||
    pagesMeet start pages r.library.alertRegion.start r.library.alertRegion.pages ||
    r.library.meetsCart start pages (some c))
  return (c, f, k)

/-- A request judged and carried out on the rig. -/
def Rig.judged {α : Type} (r : Rig) (tag : Tag) (kind : RequestKind) (check : Except Status α)
    (carryOut : α → Rig) : Rig :=
  match check with
  | .error status => r.reply tag kind status []
  | .ok a => carryOut a

/-- CART_DEFINE (R44). -/
def execCartDefine (tag : Tag) (cart start pages form cls : Nat) (s : State) : Answer :=
  .next (s.takeOnRig fun r =>
    r.judged tag .cartDefine (r.cartDefineCheck cart start pages form cls) fun (c, f, k) =>
      (r.setCart c { Cart.empty with
        state := .defined, start := start, pages := pages, form := f, cls := k }).reply tag
          .cartDefine .done [])

/-- CART_DELETE (R45). -/
def execCartDelete (tag : Tag) (cart : Nat) (s : State) : Answer :=
  .next (s.takeOnRig fun r =>
    r.judged tag .cartDelete (do
        let c ← require .range (index? 256 cart)
        refuse .busy (r.cartHeld c)
        return c)
      fun c =>
        if (r.cart c).state = .empty then r.reply tag .cartDelete .done []
        else (((r.setCart c .empty).removeWaitingFor c).reply tag .cartDelete .done []).settle)

/-- A mark above the cart's length is clamped to it (R46). -/
def Cart.clampMark (c : Cart) (mark : Nat) : Nat := if c.length < mark then c.length else mark

/-- The marks stand in order; an absent one takes no part (R46). -/
def Cart.marksInOrder (c : Cart) : Bool :=
  let marks := c.cueIn :: (c.intro.toList ++ c.segue.toList ++ [c.cueOut])
  c.cueOut ≤ c.length && (marks.zip marks.tail).all fun p => p.1 ≤ p.2

/-- A cart with its four marks set, each clamped (R46). -/
def Cart.marked (c : Cart) (cueIn cueOut : Nat) (intro segue : Option Nat) : Cart :=
  { c with
    cueIn := c.clampMark cueIn, cueOut := c.clampMark cueOut
    intro := intro.map c.clampMark, segue := segue.map c.clampMark }

/-- The checks of CART_MARKS, in order (R46). -/
def Rig.cartMarksCheck (r : Rig) (cart cueIn cueOut : Nat) (intro segue : Option Nat) :
    Except Status CartId := do
  let c ← require .range (index? 256 cart)
  refuse .state ((r.cart c).state != .ready)
  refuse .busy (r.cartInDeck c)
  refuse .range (!((r.cart c).marked cueIn cueOut intro segue).marksInOrder)
  return c

/-- CART_MARKS (R46). -/
def execCartMarks (tag : Tag) (cart cueIn cueOut : Nat) (intro segue : Option Nat) (s : State) :
    Answer :=
  .next (s.takeOnRig fun r =>
    r.judged tag .cartMarks (r.cartMarksCheck cart cueIn cueOut intro segue) fun c =>
      (r.setCart c ((r.cart c).marked cueIn cueOut intro segue)).reply tag .cartMarks .done [])

/-- The checks of CART_RECORD, in order, and the grant of a recorder (R49, R50). -/
def Rig.cartRecordCheck (r : Rig) (cart kind number : Nat) :
    Except Status (CartId × RecordSource × RecorderId) := do
  let c ← require .range (index? 256 cart)
  let source ← require .range (recordSource? kind number)
  refuse .range ((r.cart c).state != .empty && source.form != (r.cart c).form)
  refuse .state ((r.cart c).state == .empty || (r.cart c).state == .recording)
  refuse .busy (r.cartInDeck c)
  let k ← require .busy r.freeRecorder
  return (c, source, k)

/-- CART_RECORD (R50). -/
def execCartRecord (tag : Tag) (cart kind number : Nat) (s : State) : Answer :=
  .next (s.takeOnRig fun r =>
    r.judged tag .cartRecord (r.cartRecordCheck cart kind number) fun (c, source, k) =>
      ((((r.setCart c ((r.cart c).cleared .recording)).bindRecorder k (.cart c) source
        (r.cart c).capacity).removeWaitingFor c).reply tag .cartRecord .done []).settle)

/-- The checks of CART_RECORD_STOP (R52). -/
def Rig.cartStopCheck (r : Rig) (cart : Nat) : Except Status (CartId × RecorderId) := do
  let c ← require .range (index? 256 cart)
  refuse .state ((r.cart c).state != .recording)
  let k ← require .state (r.recorderOf (.cart c))
  return (c, k)

/-- CART_RECORD_STOP (R52). -/
def execCartRecordStop (tag : Tag) (cart : Nat) (s : State) : Answer :=
  .next (s.takeOnRig fun r =>
    r.judged tag .cartRecordStop (r.cartStopCheck cart) fun (c, k) =>
      (r.reply tag .cartRecordStop .done []).cartRecordingEnds k c .stop)

/-- The fields of R41 and the two further fields of CART_READ (R47). -/
def Rig.cartData (r : Rig) (c : CartId) : List Nat :=
  let x := r.cart c
  [x.state.code, x.start, x.pages, x.form.code, x.cls.code, x.length, x.cueIn, orNone x.intro,
   orNone x.segue, x.cueOut, orNone ((r.recorderOf (.cart c)).map Fin.val), r.decksHolding c]

/-- CART_READ (R47). -/
def execCartRead (tag : Tag) (cart : Nat) (s : State) : Answer :=
  .next (s.takeOnRig fun r =>
    r.judged tag .cartRead (require .range (index? 256 cart)) fun c =>
      r.reply tag .cartRead .done (r.cartData c))

/-! ### Restart -/

/-- A cart at RESTART (R54). -/
def Cart.restarted (c : Cart) : Cart := if c.state = .recording then c.cleared .defined else c

/-- RESTART on the store controller (R54). -/
def Library.restarted (l : Library) : Library :=
  { l with
    carts := vmap Cart.restarted l.carts
    recorders := Vector.replicate 4 .free }

end Sys2Proof.Machine
end

