-- ==== Sys2Proof/Machine/Playback.lean ====
section
/-!
DEFINITION. Decks at their frame events and at the console's requests (chapter 4): the commands DECK_FRAME,
PREFETCH_COMPLETE, AUTO_FADE_START, SEGUE_EVENT, PLAY_END, FADE_END and DECK_*.
-/

namespace Sys2Proof.Machine

/-! ### One frame of a deck (R60) -/

/-- The automatic fade begins at this frame event (R62). -/
def Deck.autoFades (k : Deck) (d : DeckId) : Bool :=
  isProgramDeck d && k.state == .playing && 0 < k.fadeLength && k.position < k.playEnd &&
    k.playEnd - k.position ≤ k.fadeLength

/-- Step 1 of R60. -/
def Deck.fadeStep (k : Deck) (d : DeckId) : Deck :=
  if k.autoFades d then
    { k with
      state := .fading, fadeSpan := k.playEnd - k.position, fadeRemaining := k.playEnd - k.position }
  else k

/-- Deck F at or past its play end returns to cue-in (R69). -/
def Deck.looped (k : Deck) (d : DeckId) : Deck :=
  if d = deckF ∧ k.playEnd ≤ k.position then { k with position := k.cueIn } else k

/-- One side after the play gain (R60, step 3). -/
def Deck.gained (k : Deck) (x : Sample) : Sample := saturate (scaled x.toInt k.gain)

/-- One side after the fade in flight, rounded half up (R63). -/
def Deck.fadedSample (k : Deck) (v : Sample) : Sample :=
  exactSample ((2 * v.toInt * k.fadeRemaining + k.fadeSpan) / (2 * k.fadeSpan))

/-- One side of the deck's output (R60, step 3). -/
def Deck.level (k : Deck) (x : Sample) : Sample :=
  if k.state = .fading then k.fadedSample (k.gained x) else k.gained x

/-- The output of a frame read from the store. -/
def Deck.leveled (k : Deck) : Frame → Frame
  | .mono x => .mono (k.level x)
  | .stereo l r => .stereo (k.level l) (k.level r)

/-- Steps 3 and 4 of R60 on the record: the fade remaining falls and the position advances. -/
def Deck.advanced (k : Deck) : Deck :=
  { k with
    position := k.position + 1
    fadeRemaining := if k.state = .fading then k.fadeRemaining - 1 else k.fadeRemaining }

/-- Step 5 of R60: the deck goes to DONE. -/
def Deck.ends (k : Deck) (d : DeckId) : Bool :=
  (k.state == .fading && k.fadeRemaining == 0) ||
    (k.state == .playing && d != deckF && k.playEnd ≤ k.position)

/-- The page at which a deck's source starts (R37). -/
def Rig.sourceStart (r : Rig) : DeckSource → Option Nat
  | .none => none
  | .cart c => some (r.cart c).start
  | .slot i => some (r.library.slotStart i)

/-! ### What follows a deck's frame -/

/-- The segue event is sent at the end of this frame event (R61). -/
def Deck.seguesNow (k : Deck) : Bool :=
  !k.segueSent && (match k.seguePoint with
    | some p => p ≤ k.position
    | none => false)

/-- The segue event of a frame event (R61, R81). -/
def Rig.sendSegue (r : Rig) (d : DeckId) : Rig :=
  if (r.deck d).seguesNow then
    (r.setDeck d { r.deck d with segueSent := true }).segueEvent (r.deck d).entryTag
  else r

/-- A deck that has entered DONE at its frame event: a program deck releases and the running order settles
(R66, R85); deck A tells the Alert controller (R70). -/
def Rig.afterDone (r : Rig) (d : DeckId) : Rig :=
  if isProgramDeck d then (r.releaseDeck d).settle
  else if d = deckA then r.partEnded
  else r

/-- The end of an audible deck's frame event: DONE with its report, the segue event, and then the release
(R60, R61, R66). -/
def Rig.closeDeckFrame (r : Rig) (d : DeckId) (done : Bool) : Rig :=
  if done then ((r.finishDeck d .played).sendSegue d).afterDone d else r.sendSegue d

/-- A deck's output for this frame event. -/
def State.putDeck (s : State) (d : DeckId) (f : Frame) : State :=
  { s with completed := { s.completed with decks := vset s.completed.decks d f } }

/-- A deck's prefetch completion (R59): CUED, the report LOADED, and its owner is told. -/
def Rig.prefetched (r : Rig) (d : DeckId) : Rig :=
  let k := r.deck d
  let cued := (r.setDeck d { k with state := .cued, position := k.cueIn }).report
    (.deckLoaded d k.source)
  if isProgramDeck d then cued.orderPrefetched d
  else if d = deckA then cued.startDeck deckA
  else cued.fallbackPrefetched

/-- The frame event of an audible deck (R60). -/
def State.playFrame (s : State) (d : DeckId) : Answer :=
  let k := ((s.rig.deck d).fadeStep d).looped d
  if k.playEnd ≤ k.position then
    .next ((s.putDeck d (silenceIn k.form)).onRig fun r =>
      (r.setDeck d k).closeDeckFrame d (d != deckF))
  else match s.rig.sourceStart k.source with
    | none => .next ((s.putDeck d (silenceIn k.form)).onRig fun r =>
        (r.setDeck d (k.advanced.looped d)).closeDeckFrame d (k.advanced.ends d))
    | some start =>
      if inStore (extentWords k.form start k.position) then
        .next ((s.putDeck d (k.leveled (s.store.readFrame k.form start k.position))).onRig fun r =>
          (r.setDeck d (k.advanced.looped d)).closeDeckFrame d (k.advanced.ends d))
      else .fault .noSuchWord

/-- A LOADING deck's frame event: its read-ahead completes at the 960th after its LOAD at the latest
(R59). -/
def Rig.loadFrame (r : Rig) (d : DeckId) : Rig :=
  let k := r.deck d
  let aged := r.setDeck d { k with loadAge := k.loadAge + 1 }
  if 960 ≤ k.loadAge + 1 then aged.prefetched d else aged

/-- One frame event of a deck (R60). -/
def State.deckFrame (s : State) (d : DeckId) : Answer :=
  let k := s.rig.deck d
  match k.state with
  | .playing | .fading => s.playFrame d
  | .loading => .next ((s.putDeck d (silenceIn k.form)).onRig (·.loadFrame d))
  | .empty | .cued | .paused | .done => .next (s.putDeck d (silenceIn k.form))

/-- DECK_FRAME (R60). -/
def execDeckFrame (d : DeckId) (s : State) : Answer := s.deckFrame d

/-- PREFETCH_COMPLETE (R59): taken no earlier than the first frame event after the LOAD; a completion for
a deck that is not LOADING is discarded. -/
def execPrefetchComplete (d : DeckId) (s : State) : Answer :=
  whenDue ((s.rig.deck d).state == .loading && 1 ≤ (s.rig.deck d).loadAge) s
    fun s => .next (s.onRig (·.prefetched d))

/-- AUTO_FADE_START: the frame event at which a deck's automatic fade begins (R62). -/
def execAutoFadeStart (d : DeckId) (s : State) : Answer :=
  whenDue ((s.rig.deck d).autoFades d) s fun s => s.deckFrame d

/-- The deck's position after this frame event (R60). -/
def Deck.nextPosition (k : Deck) : Nat :=
  if k.playEnd ≤ k.position then k.position else k.position + 1

/-- SEGUE_EVENT: the frame event at whose end a deck is at its segue point (R61). -/
def execSegueEvent (d : DeckId) (s : State) : Answer :=
  whenDue ((s.rig.deck d).audible &&
      ({ s.rig.deck d with position := (s.rig.deck d).nextPosition } : Deck).seguesNow) s
    fun s => s.deckFrame d

/-- PLAY_END: the frame event at which a deck reaches its play end (R60, R69). -/
def execPlayEnd (d : DeckId) (s : State) : Answer :=
  whenDue ((s.rig.deck d).audible && (s.rig.deck d).playEnd ≤ (s.rig.deck d).nextPosition) s
    fun s => s.deckFrame d

/-- FADE_END: the frame event at which a fade remaining reaches 0 (R63). -/
def execFadeEnd (d : DeckId) (s : State) : Answer :=
  whenDue ((s.rig.deck d).fadeStep d |> fun k =>
      k.state == .fading && k.position < k.playEnd && k.fadeRemaining ≤ 1) s
    fun s => s.deckFrame d

/-! ### The console's requests (R71) -/

/-- Checks 1 to 4 of R71 for a request that an alert does not hold back. -/
def Rig.deckCheck (r : Rig) (deck : Nat) (q : DeckRequest) : Except Status DeckId := do
  let d ← require .range (index? 6 deck)
  refuse .denied (!isProgramDeck d)
  refuse .alertOnAir ((q == .start || q == .resume) && r.anyPausedForAlert)
  refuse .state (!(r.deck d).state.allows q)
  return d

/-- DECK_START's checks: the deck must hold the first non-airing entry (R71). -/
def Rig.deckStartCheck (r : Rig) (deck : Nat) : Except Status Entry := do
  let d ← r.deckCheck deck .start
  let e ← require .state (firstNonAiring r.order.entries)
  refuse .state (e.deck != some d)
  return e

/-- DECK_START (R71): the start, the reply, and then assignment (R80). -/
def execDeckStart (tag : Tag) (deck : Nat) (s : State) : Answer :=
  .next (s.takeOnRig fun r =>
    r.judged tag .deckStart (r.deckStartCheck deck) fun e =>
      ((r.startEntry e .request).reply tag .deckStart .done []).assignThenSettle)

/-- The length of a console's fade (R63, R71). -/
def Deck.requestedFade (k : Deck) : Nat := if k.fadeLength = 0 then 96000 else k.fadeLength

/-- DECK_FADE (R63, R71). -/
def execDeckFade (tag : Tag) (deck : Nat) (s : State) : Answer :=
  .next (s.takeOnRig fun r =>
    r.judged tag .deckFade (r.deckCheck deck .fade) fun d =>
      ((r.fadeDeck d (r.deck d).requestedFade).reply tag .deckFade .done []).settle)

/-- CUT of a program deck (R65, R66). -/
def Rig.cutDeck (r : Rig) (d : DeckId) : Rig :=
  if (r.deck d).state = .cued then r.cutCued d else r.endDeck d .cut

/-- DECK_CUT (R65, R71). -/
def execDeckCut (tag : Tag) (deck : Nat) (s : State) : Answer :=
  .next (s.takeOnRig fun r =>
    r.judged tag .deckCut (r.deckCheck deck .cut) fun d =>
      ((r.cutDeck d).reply tag .deckCut .done []).settle)

/-- DECK_PAUSE (R64, R71). -/
def execDeckPause (tag : Tag) (deck : Nat) (s : State) : Answer :=
  .next (s.takeOnRig fun r =>
    r.judged tag .deckPause (r.deckCheck deck .pause) fun d =>
      (r.setDeck d ((r.deck d).paused false)).reply tag .deckPause .done [])

/-- DECK_RESUME (R64, R67, R71). -/
def execDeckResume (tag : Tag) (deck : Nat) (s : State) : Answer :=
  .next (s.takeOnRig fun r =>
    r.judged tag .deckResume (r.deckCheck deck .resume) fun d =>
      ((r.resumeDeck d).reply tag .deckResume .done []).settle)

/-- The fields of R55, in its order. -/
def Deck.data (k : Deck) : List Nat :=
  [k.state.code, k.source.code, k.form.code, k.cueIn, k.playEnd, k.position, orNone k.seguePoint,
   Bool.code k.segueSent, k.gain, k.fadeLength, k.fadeSpan, k.fadeRemaining, Bool.code k.loop,
   Bool.code k.pausedForAlert, orNone (k.prior.map PriorState.code)] ++ wide k.audibleOrder ++
    [k.entryTag, orNone (k.endCause.map EndCause.code)]

/-- DECK_READ (R72). -/
def execDeckRead (tag : Tag) (deck : Nat) (s : State) : Answer :=
  .next (s.takeOnRig fun r =>
    r.judged tag .deckRead (require .range (index? 6 deck)) fun d =>
      r.reply tag .deckRead .done (r.deck d).data)

/-! ### Restart -/

/-- RESTART on the decks (R74). -/
def Decks.restarted (x : Decks) : Decks := { x with decks := vmap Deck.emptied x.decks }

end Sys2Proof.Machine
end

