-- ==== Sys2Proof/Machine/AirDelay.lean ====
section
/-!
DEFINITION. The Air Delay at its frame events and requests (chapter 7): the commands DELAY_FRAME,
TARGET_LANDING, BYPASS_REACHED, DELAY_OVERRUN, DUMP_CROSSFADE_END and DELAY_*.
-/

namespace Sys2Proof.Machine

/-! ### The ring (R37, R116) -/

/-- The page-aligned index of frame `j` in the ring. -/
def Library.ringIndex (l : Library) (j : Int) : Nat := (j % (l.delayCapacity : Int)).toNat

/-- The delay region has pages and lies in the store, so that every ring access finds its words. -/
def Library.ringExists (l : Library) : Bool :=
  0 < l.delayRegion.pages && l.delayRegion.start + l.delayRegion.pages ≤ Config.storePages

/-- Both sides of a frame. -/
def stereoOf : Frame → Stereo
  | .mono x => { l := x, r := x }
  | .stereo l r => { l := l, r := r }

/-- The frame numbered `j`: the bypass frame, or a frame of the ring (R116). -/
def State.delayed (s : State) (j : Int) : Stereo :=
  if j = (s.rig.delay.startMark : Int) - 1 then s.rig.delay.bypassFrame
  else stereoOf (s.store.readFrame .stereo s.rig.library.delayRegion.start
    (s.rig.library.ringIndex j))

/-- One side between two frames (R119). -/
def interpolate (x y : Sample) (f : Int) : Sample :=
  exactSample (x.toInt + ((y.toInt - x.toInt) * f + 2048) / 4096)

/-- A read at a position in su (R119). -/
def State.readAt (s : State) (pos : Int) : Stereo :=
  let n := pos / 4096
  let f := pos % 4096
  if f = 0 then s.delayed n
  else
    { l := interpolate (s.delayed n).l (s.delayed (n + 1)).l f
      r := interpolate (s.delayed n).r (s.delayed (n + 1)).r f }

/-- The PGM frame is written at the ring index of W (R118). -/
def State.ringStore (s : State) (pgm : Stereo) : Store :=
  s.store.writeFrame s.rig.library.delayRegion.start
    (s.rig.library.ringIndex s.rig.delay.written) (.stereo pgm.l pgm.r)

/-! ### One frame of the delay -/

/-- The step would bring D to the target or past it (R120). -/
def Delay.lands (d : Delay) : Bool :=
  (d.state == .build && (d.target : Int) * 4096 ≤ d.length + d.buildSlip) ||
    (d.state == .catchup && d.length - d.catchupSlip ≤ (d.target : Int) * 4096)

/-- The EXIT step would bring D to one frame or below it (R121). -/
def Delay.leaves (d : Delay) : Bool :=
  d.state == .exit && d.length ≤ 4096 + (d.catchupSlip : Int)

/-- The step of a frame event, limited at the target and at one frame (R118, R120, R121). -/
def Delay.step (d : Delay) : Int :=
  if d.lands then 4096 + (d.length - (d.target : Int) * 4096)
  else if d.leaves then d.length
  else match d.state with
    | .build => 4096 - (d.buildSlip : Int)
    | .catchup | .exit => 4096 + (d.catchupSlip : Int)
    | .bypass | .steady | .held => 4096

/-- The record after a reading state's frame event (R118, R120, R129). -/
def Delay.moved (d : Delay) : Delay :=
  { d with
    readPos := d.readPos + d.step
    oldReadPos := if 0 < d.crossfade then d.oldReadPos + d.step else d.oldReadPos
    crossfade := d.crossfade - 1
    written := d.written + 1
    state := if d.lands then .steady else d.state }

/-- The record at the frame event at which BYPASS is reached (R121): the positions advance by that frame event's step,
the old one while a crossfade runs (R129), and then R is set beside W and the crossfade is abandoned (R130). -/
def Delay.bypassed (d : Delay) (pgm : Stereo) : Delay :=
  { d.moved with
    state := .bypass
    prior := none
    exitFlag := false
    readPos := ((d.written + 1 : Nat) : Int) * 4096
    bypassFrame := pgm
    crossfade := 0 }

/-- The write of a HELD delay would pass the capacity (R122). -/
def Delay.overruns (d : Delay) (capacity : Nat) : Bool :=
  (capacity : Int) < (d.written : Int) + 1 - d.readPos / 4096

/-- The record after a HELD delay's frame event (R122). -/
def Delay.holding (d : Delay) (capacity : Nat) : Delay :=
  { d with
    readPos := if d.overruns capacity then d.readPos + 4096 else d.readPos
    overrunFlag := d.overrunFlag || d.overruns capacity
    written := d.written + 1 }

/-- The DLY frame of a reading state: the read at R, or the dump crossfade of two reads (R119, R129). -/
def State.delayRead (s : State) : Stereo :=
  let d := s.rig.delay
  if d.crossfade = 0 then s.readAt d.readPos
  else mixStereo (s.readAt d.oldReadPos) (s.readAt d.readPos) d.crossfade (64 - d.crossfade) 64

def State.putDly (s : State) (x : Stereo) : State := { s with completed := { s.completed with dly := x } }

/-- A HELD delay's frame event, with the report of the hold's first overrun before the others (R122,
R124). -/
def Rig.heldFrame (r : Rig) : Rig :=
  let d := r.delay
  let next := d.holding r.library.delayCapacity
  (if d.overruns r.library.delayCapacity && !d.overrunFlag then
      r.report (.delayOverrun next.written next.length.toNat)
    else r).changeDelay next .alert

/-- One frame event of the Air Delay (R117 to R122). -/
def State.delayFrame (s : State) : Answer :=
  let d := s.rig.delay
  let pgm := s.taken.pgm
  if d.state = .bypass then
    .next { s.putDly pgm with rig := { s.rig with delay := { d with bypassFrame := pgm } } }
  else if !s.rig.library.ringExists then .fault .noSuchWord
  else if d.state = .held then
    .next { s.putDly .silence with store := s.ringStore pgm, rig := s.rig.heldFrame }
  else if d.leaves then
    .next { s.putDly pgm with
      store := s.ringStore pgm
      rig := s.rig.changeDelay (d.bypassed pgm) .bypassReached }
  else
    .next { s.putDly s.delayRead with
      store := s.ringStore pgm
      rig := s.rig.changeDelay d.moved .target }

/-- DELAY_FRAME (R118). -/
def execDelayFrame (s : State) : Answer := s.delayFrame

/-- TARGET_LANDING: the frame event at which D reaches the target (R120). -/
def execTargetLanding (s : State) : Answer := whenDue s.rig.delay.lands s fun s => s.delayFrame

/-- BYPASS_REACHED: the frame event at which EXIT has shrunk to one frame (R121). -/
def execBypassReached (s : State) : Answer := whenDue s.rig.delay.leaves s fun s => s.delayFrame

/-- DELAY_OVERRUN: a frame event at which the ring of a HELD delay is full (R122). -/
def execDelayOverrun (s : State) : Answer :=
  whenDue (s.rig.delay.state == .held && s.rig.delay.overruns s.rig.library.delayCapacity) s
    fun s => s.delayFrame

/-- DUMP_CROSSFADE_END: the frame event at which the crossfade remaining reaches 0 (R129). -/
def execDumpCrossfadeEnd (s : State) : Answer :=
  whenDue (s.rig.delay.crossfade == 1 && s.rig.delay.state != .bypass && s.rig.delay.state != .held) s
    fun s => s.delayFrame

/-! ### The requests -/

/-- The greatest target (R125): C − 1, or 4,194,303 with no region. -/
def Library.greatestTarget (l : Library) : Nat :=
  if l.delayRegion.pages = 0 then 4194303 else l.delayCapacity - 1

/-- The settings after DELAY_SETUP, each clamped (R125). -/
def Delay.setUp (d : Delay) (greatest : Nat) (target dump build catchup : Option Nat) : Delay :=
  let t := match target with
    | some t => clamp 1 greatest t
    | none => d.target
  let q := dump.getD d.dumpLength
  { d with
    target := t
    dumpLength := min (max q 4800) t
    buildSlip := (build.map (clamp 16 512)).getD d.buildSlip
    catchupSlip := (catchup.map (clamp 16 512)).getD d.catchupSlip }

/-- BUILD, STEADY and CATCHUP are evaluated again against the target (R125). -/
def Delay.reevaluated (d : Delay) : Delay :=
  match d.state with
  | .build | .steady | .catchup => { d with state := d.stateByLength }
  | .bypass | .exit | .held => d

/-- The four settings as data (R125). -/
def Delay.settings (d : Delay) : List Nat := [d.target, d.dumpLength, d.buildSlip, d.catchupSlip]

/-- DELAY_SETUP (R125). -/
def execDelaySetup (tag : Tag) (target dump build catchup : Option Nat) (s : State) : Answer :=
  .next (s.takeOnRig fun r =>
    r.judged tag .delaySetup (refuse .range
        (target == none && dump == none && build == none && catchup == none)) fun _ =>
      let d := (r.delay.setUp r.library.greatestTarget target dump build catchup).reevaluated
      (r.reply tag .delaySetup .done d.settings).changeDelay d .request)

/-- The record after DELAY_START from BYPASS (R126). -/
def Delay.begun (d : Delay) : Delay :=
  { d with
    state := .build
    startMark := d.written
    readPos := (d.written : Int) * 4096 - 4096
    prior := none
    exitFlag := false
    overrunFlag := false
    crossfade := 0 }

/-- The record after DELAY_START (R126). -/
def Delay.startRequested (d : Delay) : Delay :=
  match d.state with
  | .bypass => d.begun
  | .exit => { d with state := d.stateByLength }
  | .held => { d with exitFlag := false }
  | .build | .steady | .catchup => d

/-- DELAY_START (R126). -/
def execDelayStart (tag : Tag) (s : State) : Answer :=
  .next (s.takeOnRig fun r =>
    r.judged tag .delayStart (refuse .state (r.delay.state == .bypass &&
        (r.library.delayRegion.pages == 0 || r.library.delayCapacity ≤ r.delay.target))) fun _ =>
      (r.changeDelay r.delay.startRequested .request).reply tag .delayStart .done [])

/-- The record after DELAY_EXIT (R127). -/
def Delay.exitRequested (d : Delay) : Delay :=
  match d.state with
  | .build | .steady | .catchup => { d with state := .exit }
  | .held => { d with exitFlag := true }
  | .exit | .bypass => d

/-- DELAY_EXIT (R127): refused while a caller is on air. -/
def execDelayExit (tag : Tag) (s : State) : Answer :=
  .next (s.take 1 fun s =>
    s.judged tag .delayExit (refuse .busy (0 < s.callers.onAirCount)) fun _ =>
      s.onRig fun r => (r.changeDelay r.delay.exitRequested .request).reply tag .delayExit .done [])

/-- The amount a dump removes, in su (R128). -/
def Delay.dumpAmount (d : Delay) : Int := min ((d.dumpLength : Int) * 4096) (d.length - 4096)

/-- The record after DELAY_DUMP (R128, R130). -/
def Delay.dumped (d : Delay) : Delay :=
  let fades := d.state != .held && 0 < d.dumpAmount
  let moved := { d with
    readPos := d.readPos + d.dumpAmount
    oldReadPos := if fades then d.readPos else d.oldReadPos
    crossfade := if fades then 64 else d.crossfade }
  if (d.state == .steady || d.state == .catchup) && moved.length < (d.target : Int) * 4096 then
    { moved with state := .build }
  else moved

/-- DELAY_DUMP (R128). -/
def execDelayDump (tag : Tag) (s : State) : Answer :=
  .next (s.takeOnRig fun r =>
    r.judged tag .delayDump (refuse .state (r.delay.state == .bypass)) fun _ =>
      let amount := r.delay.dumpAmount.toNat
      let left := r.delay.dumped.length.toNat
      ((r.report (.delayDumped amount left)).changeDelay r.delay.dumped .request).reply tag
        .delayDump .done (wide amount ++ wide left))

/-- The fields of R115 and the further fields of DELAY_READ, in order (R133). -/
def Rig.delayData (r : Rig) : List Nat :=
  let d := r.delay
  [d.state.code, orNone (d.prior.bind DelayState.priorCode?)] ++ wide d.written ++ signedLong d.readPos ++
    wide d.startMark ++ signed d.bypassFrame.l.toInt ++ signed d.bypassFrame.r.toInt ++
    [d.target, d.dumpLength, d.buildSlip, d.catchupSlip, Bool.code d.exitFlag,
     Bool.code d.overrunFlag, d.crossfade] ++ signedLong d.oldReadPos ++
    [r.library.delayCapacity, r.library.delayRegion.start, r.library.delayRegion.pages] ++
    wide d.length.toNat ++ [Bool.code d.safe]

/-- DELAY_READ (R133). -/
def execDelayRead (tag : Tag) (s : State) : Answer :=
  .next (s.takeOnRig fun r => r.reply tag .delayRead .done r.delayData)

/-! ### Restart -/

/-- RESTART on the delay (R135). That the old read position stays, which R135 names neither as set nor as kept, is the
model's choice (notes/assumptions/36.md). -/
def Delay.restarted (d : Delay) : Delay :=
  { d with
    state := .bypass
    readPos := (d.written : Int) * 4096
    prior := none
    exitFlag := false
    overrunFlag := false
    crossfade := 0
    bypassFrame := .silence }

end Sys2Proof.Machine
end

