-- ==== Sys2Proof/Machine/Schedule.lean ====
section
/-!
DEFINITION. The running order's requests (chapter 5, section 5.5): the commands ORDER_*.
-/

namespace Sys2Proof.Machine

/-! ### Joining the list -/

/-- An entry's operands read and found in range (R86, check 1). -/
def readEntry (f : EntryFields) : Except Status Entry := do
  refuse .range (f.tag == 0 || 65535 < f.tag)
  let cart ← require .range (index? 256 f.cart)
  let mode ← require .range (startMode? f.mode)
  let start ← require .range (optional? (inRange? 0 1073741823) f.startTime)
  let gain ← require .range (optional? (inRange? 0 65535) f.gain)
  let fade ← require .range (optional? (inRange? 0 10000) f.fadeMs)
  refuse .range ((mode == .timed) != start.isSome)
  return { tag := f.tag, cart := cart, mode := mode, startTime := start, gain := gain, fadeMs := fade
           segueOverride := f.segueOverride, state := .waiting, deck := none, startNumber := 0
           seguePassed := false, timeReached := false, skipPending := false }

/-- An entry of the list carries a tag. -/
def Rig.hasEntry (r : Rig) (tag : Nat) : Bool := r.order.entries.any fun e => e.tag == tag

/-- A time passed before joining sets the time-reached flag alone (R83). -/
def Entry.joining (e : Entry) (now : Nat) : Entry :=
  match e.startTime with
  | some t => { e with timeReached := e.mode == .timed && t ≤ now }
  | none => e

/-- The checks that follow FULL and ORDER_INSERT's own (R86, checks 3 to 5). -/
def State.entryChecks (s : State) (e : Entry) : Except Status Unit := do
  refuse .noTime (e.mode == .timed && !s.clock.timeValid)
  refuse .absent ((s.rig.cart e.cart).state != .ready)
  refuse .range ((s.rig.cart e.cart).cls == .service)

/-- The checks of ORDER_APPEND, in order (R86). -/
def State.appendCheck (s : State) (f : EntryFields) : Except Status Entry := do
  let e ← readEntry f
  refuse .range (s.rig.hasEntry e.tag)
  refuse .full (64 ≤ s.rig.order.entries.length)
  s.entryChecks e
  return e.joining s.clock.seconds

/-- ORDER_APPEND (R86). -/
def execOrderAppend (tag : Tag) (f : EntryFields) (s : State) : Answer :=
  .next (s.take 1 fun s =>
    s.judged tag .orderAppend (s.appendCheck f) fun e =>
      s.onRig fun r => ((r.setEntries (r.order.entries ++ [e])).reply tag .orderAppend .done
        []).assignThenSettle)

/-- The entry that carries a tag. -/
def Rig.entry? (r : Rig) (tag : Nat) : Option Entry := r.order.entries.find? fun e => e.tag == tag

/-- The checks of ORDER_INSERT, in order (R87). -/
def State.insertCheck (s : State) (f : EntryFields) (before : Nat) : Except Status Entry := do
  let e ← readEntry f
  refuse .range (before == 0 || 65535 < before)
  refuse .range (s.rig.hasEntry e.tag)
  refuse .full (64 ≤ s.rig.order.entries.length)
  let b ← require .absent (s.rig.entry? before)
  refuse .state (b.state == .airing)
  s.entryChecks e
  return e.joining s.clock.seconds

/-- The list with an entry placed immediately before the one that carries a tag (R87). -/
def insertBefore (es : List Entry) (e : Entry) (before : Nat) : List Entry :=
  (es.takeWhile fun x => x.tag != before) ++ e :: es.dropWhile fun x => x.tag != before

/-- ORDER_INSERT (R87). -/
def execOrderInsert (tag : Tag) (f : EntryFields) (before : Nat) (s : State) : Answer :=
  .next (s.take 1 fun s =>
    s.judged tag .orderInsert (s.insertCheck f before) fun e =>
      s.onRig fun r => ((r.setEntries (insertBefore r.order.entries e before)).reply tag .orderInsert
        .done []).assignThenSettle)

/-! ### Leaving the list -/

/-- ORDER_REMOVE (R88). -/
def execOrderRemove (tag : Tag) (entryTag : Nat) (s : State) : Answer :=
  .next (s.takeOnRig fun r =>
    r.judged tag .orderRemove (do
        let e ← require .absent (r.entry? entryTag)
        refuse .busy (e.state == .airing)
        return e)
      fun e =>
        (((r.unloadEntries [e]).setEntries (withoutTag r.order.entries e.tag)).reply tag .orderRemove
          .done []).assignThenSettle)

/-- ORDER_CLEAR (R89). -/
def execOrderClear (tag : Tag) (s : State) : Answer :=
  .next (s.takeOnRig fun r =>
    let gone := r.order.entries.filter fun e => e.state != .airing
    (((r.unloadEntries gone).setEntries (r.order.entries.filter fun e => e.state == .airing)).reply
      tag .orderClear .done [gone.length]).settle)

/-! ### Starting and deferring -/

/-- The checks of ORDER_NEXT, in order (R90). -/
def Rig.nextCheck (r : Rig) : Except Status Entry := do
  refuse .alertOnAir r.anyPausedForAlert
  let e ← require .absent (firstNonAiring r.order.entries)
  let d ← require .state e.deck
  refuse .state (e.state != .assigned || (r.deck d).state != .cued)
  return e

/-- ORDER_NEXT (R90): the start, the reply, and then assignment (R80). -/
def execOrderNext (tag : Tag) (s : State) : Answer :=
  .next (s.takeOnRig fun r =>
    r.judged tag .orderNext r.nextCheck fun e =>
      ((r.startEntry e .request).reply tag .orderNext .done []).assignThenSettle)

/-- The HOLD flag. -/
def Rig.setHold (r : Rig) (hold : Bool) : Rig := { r with order := { r.order with hold := hold } }

/-- ORDER_HOLD (R91). -/
def execOrderHold (tag : Tag) (s : State) : Answer :=
  .next (s.takeOnRig fun r => ((r.setHold true).reply tag .orderHold .done []).settle)

/-- ORDER_RUN (R84, R91). -/
def execOrderRun (tag : Tag) (s : State) : Answer :=
  .next (s.takeOnRig fun r => ((r.setHold false).reply tag .orderRun .done []).settle)

/-- The fields of R75, in its order; an absent start time, gain, fade length, override or deck is none. -/
def Entry.data (e : Entry) : List Nat :=
  [e.tag, e.cart, e.mode.code, orNone e.startTime, orNone e.gain, orNone e.fadeMs] ++
    wideOrNone e.segueOverride ++ [e.state.code, orNone (e.deck.map Fin.val)] ++ wide e.startNumber ++
    [Bool.code e.seguePassed, Bool.code e.timeReached, Bool.code e.skipPending]

/-- The further fields of ORDER_READ (R92). -/
def Rig.orderData (r : Rig) : List Nat :=
  [r.order.entries.length, Bool.code r.order.hold,
   ((leader r.order.entries).map Entry.tag).getD 0, Bool.code r.deferred]

/-- ORDER_READ (R92). -/
def execOrderRead (tag : Tag) (position : Nat) (s : State) : Answer :=
  .next (s.takeOnRig fun r =>
    r.judged tag .orderRead (require .absent r.order.entries[position]?) fun e =>
      r.reply tag .orderRead .done (e.data ++ r.orderData))

/-! ### Restart -/

/-- RESTART on the running order (R94). -/
def Order.restarted (o : Order) : Order := { o with entries := [], hold := false }

end Sys2Proof.Machine
end

