-- ==== Sys2Proof/Machine/Emergency.lean ====
section
/-!
DEFINITION. Emergency alerts (chapter 8): the intake of a notice and the commands ALERT_* and FILTER_*.
-/

namespace Sys2Proof.Machine

/-! ### Intake (R137 to R142) -/

/-- A notice whose fields are in range, its valid duration clamped (R137). -/
structure Notice where
  originator : Nat
  identity : Nat
  eventClass : Nat
  severity : Nat
  issueTime : Nat
  validDuration : Nat
  audioLane : Fin 16
  declaredLength : Nat
  areas : List Nat
  deriving DecidableEq, Repr

/-- The checks of ALERT_NOTICE (R137). -/
def readNotice (f : NoticeFields) : Except Status Notice := do
  refuse .range (f.originator == 0 || 15 < f.originator)
  refuse .range (63 < f.eventClass)
  refuse .range (f.severity == 0 || 3 < f.severity)
  refuse .range (f.areas.isEmpty || 8 < f.areas.length || f.areas.any fun a => 65535 < a)
  let lane ← require .range (index? 16 f.audioLane)
  refuse .range (f.declaredLength == 0)
  return { originator := f.originator, identity := f.identity, eventClass := f.eventClass
           severity := f.severity, issueTime := f.issueTime
           validDuration := clamp 60 86400 f.validDuration, audioLane := lane
           declaredLength := f.declaredLength, areas := f.areas }

/-- The pair stands in the recent-identity list or on a record other than FREE (R138). -/
def Alerts.duplicate (a : Alerts) (n : Notice) : Bool :=
  a.recent.contains (n.originator, n.identity) || (a.withPair n.originator n.identity).isSome

/-- The recent-identity list with a pair at its youngest end; a full list loses its oldest (R138). -/
def rememberPair (recent : List (Nat × Nat)) (pair : Nat × Nat) : List (Nat × Nat) :=
  (if 32 ≤ recent.length then recent.drop 1 else recent) ++ [pair]

/-- The alert's valid-until time (R139). -/
def Clock.validUntil (c : Clock) (n : Notice) : Nat :=
  if c.timeValid then n.issueTime + n.validDuration else c.seconds + n.validDuration

/-- An in-use entry matches a notice (R140). -/
def Filter.catches (f : Filter) (n : Notice) : Bool :=
  f.inUse && (f.eventClass == none || f.eventClass == some n.eventClass) &&
    f.minSeverity ≤ n.severity && (f.areas.isEmpty || f.areas.any fun a => n.areas.contains a)

/-- The first entry that matches, in index order (R140). -/
def Alerts.filterFor (a : Alerts) (n : Notice) : Option (Fin 24) :=
  (List.finRange 24).find? fun i => a.filters[i].catches n

/-- A notice that matches no entry is treated as LOG, with these values (R140). -/
def Filter.unmatched : Filter :=
  { inUse := true, eventClass := none, minSeverity := 1, areas := [], action := .log
    confirmWindow := 120, expiryAction := .drop, leadIn := none, leadOut := none }

/-- The record taken for a new notice: the lowest FREE one, or else the finished one with the smallest
arrival number; none when all are live (R143). -/
def Alerts.recordFor (a : Alerts) : Option RecordId :=
  match allRecords.find? fun i => a.records[i].state == .free with
  | some i => some i
  | none => (allRecords.filter fun i => !a.records[i].live).foldl
      (fun best i => match best with
        | none => some i
        | some b => if serialGreater a.records[b].arrival a.records[i].arrival then some i
          else some b) none

/-- A record filled from its notice and filter (R143); a record's action is never IGNORE. -/
def Notice.recordOf (n : Notice) (state : AlertState) (validUntil arrival : Nat)
    (index : Option (Fin 24)) (f : Filter) : AlertRecord :=
  { AlertRecord.free with
    state := state, originator := n.originator, identity := n.identity, eventClass := n.eventClass
    severity := n.severity, areas := n.areas, issueTime := n.issueTime, audioLane := n.audioLane
    declaredLength := n.declaredLength, validUntil := validUntil, filter := index
    action := f.action, confirmWindow := f.confirmWindow, expiryAction := f.expiryAction
    leadIn := f.leadIn, leadOut := f.leadOut, arrival := arrival }

/-- What intake says of a notice in its report (R142). -/
def Notice.reported (n : Notice) (index : Option (Fin 24)) : NoticeReport :=
  { originator := n.originator, identity := n.identity, eventClass := n.eventClass
    severity := n.severity, filter := index }

/-- A record is taken for a notice, with the next arrival number (R143). -/
def Rig.takeRecord (r : Rig) (i : RecordId) (n : Notice) (state : AlertState) (validUntil : Nat)
    (index : Option (Fin 24)) (f : Filter) : Rig :=
  let arrival := nextCount r.alerts.arrivalCount
  let taken := r.setRecord i (n.recordOf state validUntil arrival index f)
  { taken with alerts := { taken.alerts with arrivalCount := arrival } }

/-- The result of an intake, as the reply carries it (R137). -/
inductive Intake
  | accepted (i : RecordId)
  | logged (i : Option RecordId)
  | duplicate
  | rejected (cause : RejectCause)
  deriving DecidableEq, Repr

def Intake.data : Intake → List Nat
  | .accepted i => [0, i]
  | .logged i => [1, orNone (i.map Fin.val)]
  | .duplicate => [2]
  | .rejected cause => [3, cause.code]

/-- The AUTO and CONFIRM actions (R142): a record, an alert region and a recorder, in this order. -/
def Rig.acceptNotice (r : Rig) (n : Notice) (validUntil : Nat) (index : Option (Fin 24)) (f : Filter) :
    Rig × Intake :=
  let reject := fun cause => (r.report (.alertRejected (n.reported index) cause), Intake.rejected cause)
  match r.alerts.recordFor with
  | none => reject .tableFull
  | some i =>
    if r.library.alertRegion.pages = 0 then reject .noRegion
    else match r.claimForAlert i n.audioLane with
      | none => reject .noRecorder
      | some granted =>
        ((granted.takeRecord i n .recording validUntil index f).report
          (.alertAccepted (n.reported index) i), .accepted i)

/-- The LOG action (R142). -/
def Rig.logNotice (r : Rig) (n : Notice) (validUntil : Nat) (index : Option (Fin 24)) (f : Filter) :
    Rig × Intake :=
  match r.alerts.recordFor with
  | none => (r.report (.alertLogged (n.reported index) none), .logged none)
  | some i =>
    ((r.takeRecord i n .logged validUntil index f).report
      (.alertLogged (n.reported index) (some i)), .logged (some i))

/-- The filter step of intake (R140, R142). -/
def Rig.filterNotice (r : Rig) (n : Notice) (validUntil : Nat) : Rig × Intake :=
  let index := r.alerts.filterFor n
  let f := match index with
    | some i => r.alerts.filters[i]
    | none => Filter.unmatched
  match f.action with
  | .ignore => (r.report (.alertRejected (n.reported index) .filtered), .rejected .filtered)
  | .log => r.logNotice n validUntil index f
  | .auto | .confirm => r.acceptNotice n validUntil index f

/-- The steps of intake (R138, R139, R142): the first that settles the notice ends it. That a notice rejected as
EXPIRED is reported too, with filter index none, is the model's choice (notes/assumptions/32.md). -/
def Rig.intake (r : Rig) (clock : Clock) (n : Notice) : Rig × Intake :=
  if r.alerts.duplicate n then (r.report (.alertDuplicate n.originator n.identity), .duplicate)
  else
    let known := { r with alerts := { r.alerts with
      recent := rememberPair r.alerts.recent (n.originator, n.identity) } }
    if clock.timeValid && clock.validUntil n ≤ clock.seconds then
      (known.report (.alertRejected (n.reported none) .expired), .rejected .expired)
    else known.filterNotice n (clock.validUntil n)

/-- ALERT_NOTICE (R137). -/
def execAlertNotice (tag : Tag) (f : NoticeFields) (s : State) : Answer :=
  .next (s.takeOnRig fun r =>
    r.judged tag .alertNotice (readNotice f) fun n =>
      let settled := r.intake s.clock n
      settled.1.reply tag .alertNotice .done settled.2.data)

/-! ### Messages that follow a notice -/

/-- The record other than FREE that carries a pair, for an originator in range (R145, R150). -/
def Rig.pairCheck (r : Rig) (originator identity : Nat) : Except Status RecordId := do
  refuse .range (originator == 0 || 15 < originator)
  require .absent (r.alerts.withPair originator identity)

/-- ALERT_AUDIO_END (R145). -/
def execAlertAudioEnd (tag : Tag) (originator identity : Nat) (s : State) : Answer :=
  .next (s.takeOnRig fun r =>
    r.judged tag .alertAudioEnd (do
        let i ← r.pairCheck originator identity
        refuse .state ((r.record i).state != .recording)
        return i)
      fun i => (r.reply tag .alertAudioEnd .done []).alertRecordingEnds i false s.clock.seconds)

/-- An alert record leaves its live state for CANCELLED (R150). -/
def Rig.cancelAlert (r : Rig) (i : RecordId) : Rig :=
  let told := Report.alertCancelled i (r.record i).state
  match (r.record i).state with
  | .airing => r.stopAiring i .cancelled told
  | .recording => ((r.freeAlertRecorder i).setAlertState i .cancelled).report told
  | _ => (r.setAlertState i .cancelled).report told

/-- ALERT_CANCEL (R150). -/
def execAlertCancel (tag : Tag) (originator identity : Nat) (s : State) : Answer :=
  .next (s.takeOnRig fun r =>
    r.judged tag .alertCancel (do
        let i ← r.pairCheck originator identity
        refuse .state (!(r.record i).live)
        return i)
      fun i => (r.reply tag .alertCancel .done []).cancelAlert i)

/-! ### Console requests -/

/-- A record that is asked for by number and is not FREE (R155, R156). -/
def Rig.recordCheck (r : Rig) (record : Nat) : Except Status RecordId := do
  let i ← require .range (index? 16 record)
  refuse .absent ((r.record i).state == .free)
  return i

/-- The check that ALERT_CONFIRM and ALERT_DECLINE share (R156). -/
def Rig.undecidedCheck (r : Rig) (record : Nat) : Except Status RecordId := do
  let i ← r.recordCheck record
  refuse .state ((r.record i).state != .recording && (r.record i).state != .awaiting)
  return i

/-- ALERT_CONFIRM's effect (R156). That CONFIRMED stands before the reports of an airing that begins at once is the
model's choice (notes/assumptions/15.md). -/
def Rig.confirmAlert (r : Rig) (i : RecordId) : Rig :=
  if (r.record i).state = .recording then
    (r.setRecord i { r.record i with confirmedEarly := true }).report (.alertConfirmed i)
  else ((r.enqueue i).report (.alertConfirmed i)).airIfIdle

/-- ALERT_CONFIRM (R156). -/
def execAlertConfirm (tag : Tag) (record : Nat) (s : State) : Answer :=
  .next (s.takeOnRig fun r =>
    r.judged tag .alertConfirm (r.undecidedCheck record) fun i =>
      (r.reply tag .alertConfirm .done []).confirmAlert i)

/-- ALERT_DECLINE's effect (R156). -/
def Rig.declineAlert (r : Rig) (i : RecordId) : Rig :=
  ((if (r.record i).state = .recording then r.freeAlertRecorder i else r).setAlertState i
    .declined).report (.alertDeclined i)

/-- ALERT_DECLINE (R156). -/
def execAlertDecline (tag : Tag) (record : Nat) (s : State) : Answer :=
  .next (s.takeOnRig fun r =>
    r.judged tag .alertDecline (r.undecidedCheck record) fun i =>
      (r.reply tag .alertDecline .done []).declineAlert i)

/-- ALERT_ABORT (R155). -/
def execAlertAbort (tag : Tag) (record : Nat) (s : State) : Answer :=
  .next (s.takeOnRig fun r =>
    r.judged tag .alertAbort (do
        let i ← r.recordCheck record
        refuse .state ((r.record i).state != .airing)
        return i)
      fun i => (r.stopAiring i .aborted (.alertAbortedRequest i)).reply tag .alertAbort .done [])

/-- ALERT_FORGET (R157). -/
def execAlertForget (tag : Tag) (record : Nat) (s : State) : Answer :=
  .next (s.takeOnRig fun r =>
    r.judged tag .alertForget (do
        let i ← require .range (index? 16 record)
        refuse .state (r.record i).live
        return i)
      fun i => (r.setRecord i .free).reply tag .alertForget .done [])

/-- The fields of R143, in its order; a list is carried as its count and its items (R201). -/
def AlertRecord.data (a : AlertRecord) : List Nat :=
  [a.state.code, a.originator, a.identity, a.eventClass, a.severity, a.areas.length] ++ a.areas ++
    [a.issueTime, a.audioLane] ++ wide a.declaredLength ++ wide a.validUntil ++
    [orNone (a.filter.map Fin.val), a.action.code, a.confirmWindow, a.expiryAction.code,
     orNone (a.leadIn.map Fin.val), orNone (a.leadOut.map Fin.val)] ++ wide a.arrival ++
    [Bool.code a.confirmedEarly, Bool.code a.truncated, a.recordedLength] ++ wide a.queueEntry ++
    wideOrNone a.deadline

/-- The controller's summary (R157): the queue's length and head, the airing record and its part, the
decks-paused flag, and the pairs in the recent-identity list. -/
def Alerts.summary (a : Alerts) : List Nat :=
  [a.queueLength, orNone (a.head.map Fin.val), orNone (a.airing.map Fin.val),
   orNone (a.airing.map fun _ => a.part.code), Bool.code a.decksPaused, a.recent.length]

/-- The further field of a RECORDING record: its recorder (R157). -/
def Rig.recorderData (r : Rig) (i : RecordId) : List Nat :=
  if (r.record i).state = .recording then [orNone ((r.recorderOf (.alert i)).map Fin.val)] else []

/-- ALERT_READ (R157). -/
def execAlertRead (tag : Tag) (record : Nat) (s : State) : Answer :=
  .next (s.takeOnRig fun r =>
    r.judged tag .alertRead (require .range (index? 16 record)) fun i =>
      r.reply tag .alertRead .done ((r.record i).data ++ r.alerts.summary ++ r.recorderData i))

/-! ### Filters -/

/-- The checks of FILTER_SET, and the entry it writes (R141). -/
def readFilter (f : FilterFields) : Except Status (Fin 24 × Filter) := do
  let i ← require .range (index? 24 f.index)
  let cls ← require .range (eventClass? f.eventClass)
  refuse .range (f.minSeverity == 0 || 3 < f.minSeverity)
  refuse .range (8 < f.areas.length || f.areas.any fun a => 65535 < a)
  let action ← require .range (alertAction? f.action)
  let expiry ← require .range (expiryAction? f.expiryAction)
  let leadIn ← require .range (optional? (index? 256) f.leadIn)
  let leadOut ← require .range (optional? (index? 256) f.leadOut)
  return (i, { inUse := true, eventClass := cls, minSeverity := f.minSeverity, areas := f.areas
               action := action, confirmWindow := clamp 10 900 (f.confirmWindow.getD 120)
               expiryAction := expiry, leadIn := leadIn, leadOut := leadOut })

def Rig.setFilter (r : Rig) (i : Fin 24) (f : Filter) : Rig :=
  { r with alerts := { r.alerts with filters := vset r.alerts.filters i f } }

/-- FILTER_SET (R141). -/
def execFilterSet (tag : Tag) (f : FilterFields) (s : State) : Answer :=
  .next (s.takeOnRig fun r =>
    r.judged tag .filterSet (readFilter f) fun (i, x) =>
      (r.setFilter i x).reply tag .filterSet .done [])

/-- FILTER_CLEAR (R141). -/
def execFilterClear (tag : Tag) (index : Nat) (s : State) : Answer :=
  .next (s.takeOnRig fun r =>
    r.judged tag .filterClear (require .range (index? 24 index)) fun i =>
      (r.setFilter i { r.alerts.filters[i] with inUse := false }).reply tag .filterClear .done [])

/-! ### Restart -/

/-- RESTART on the Alert controller (R159). -/
def Alerts.restarted (a : Alerts) : Alerts :=
  { a with
    records := vmap (fun x => if x.live then { x with state := .aborted } else x) a.records
    airing := none
    decksPaused := false }

end Sys2Proof.Machine
end

