-- ==== Sys2Proof/Machine/AirSwitch.lean ====
section
/-!
DEFINITION. The Air Switch and the Monitor block at their frame events and requests (chapter 9): the commands
SWITCH_FRAME, CROSSFADE_END, AIR_SETUP, MONITOR_FRAME, MONITOR_BLOCK_END and MONITOR_*.
-/

namespace Sys2Proof.Machine

/-! ### The switch's frame (R161, R163) -/

/-- The value an input completed at the frame before, on both sides (R161). -/
def Outputs.input (o : Outputs) : AirOwner → Stereo
  | .program => o.dly
  | .alert => o.decks[deckA].onBoth
  | .fallback => o.decks[deckF].onBoth

/-- AIR of this frame event (R161, R163): `c` is the weight after its step. -/
def AirSwitch.air (a : AirSwitch) (o : Outputs) : Stereo :=
  match a.outgoing with
  | none => o.input a.owner
  | some old =>
    if a.span ≤ a.weight + 1 then o.input a.owner
    else mixStereo (o.input old) (o.input a.owner) (a.span - (a.weight + 1)) (a.weight + 1) a.span

/-- The crossfade's step (R163): at the span the outgoing input becomes none. -/
def AirSwitch.faded (a : AirSwitch) : AirSwitch :=
  match a.outgoing with
  | none => a
  | some _ =>
    if a.span ≤ a.weight + 1 then { a with outgoing := none, weight := a.span }
    else { a with weight := a.weight + 1 }

/-- The switch's frame on the rig: deck F is emptied when FALLBACK goes out of use (R166). -/
def Rig.switchFaded (r : Rig) : Rig :=
  let next := { r with airSwitch := r.airSwitch.faded }
  if r.airSwitch.usesFallback && !next.airSwitch.usesFallback then next.emptyDeck deckF else next

/-- One frame event of the Air Switch (R161). -/
def State.switchFrame (s : State) : State :=
  { s with
    completed := { s.completed with air := s.rig.airSwitch.air s.taken }
    rig := s.rig.switchFaded }

/-- SWITCH_FRAME (R161). -/
def execSwitchFrame (s : State) : Answer := .next s.switchFrame

/-- CROSSFADE_END: the frame event at which the weight reaches the span (R163). -/
def execCrossfadeEnd (s : State) : Answer :=
  whenDue (s.rig.airSwitch.outgoing != none && s.rig.airSwitch.span ≤ s.rig.airSwitch.weight + 1) s
    fun s => .next s.switchFrame

/-! ### AIR_SETUP (R167) -/

/-- The checks of AIR_SETUP (R167). -/
def airCheck (cart enable fadeMs : Option Nat) :
    Except Status (Option (Option CartId) × Option Bool × Option Nat) := do
  refuse .range (cart == none && enable == none && fadeMs == none)
  let c ← require .range (optional? cartOrNone? cart)
  let e ← require .range (optional? flag? enable)
  let f ← require .range (optional? (inRange? 1 100) fadeMs)
  return (c, e, f)

/-- The switch record with the given settings, those not given kept (R167). -/
def AirSwitch.setUp (a : AirSwitch) (cart : Option (Option CartId)) (enable : Option Bool)
    (fadeMs : Option Nat) : AirSwitch :=
  { a with
    fallbackCart := cart.getD a.fallbackCart
    fallbackEnable := enable.getD a.fallbackEnable
    fadeLength := (fadeMs.map (· * 48)).getD a.fadeLength }

/-- AIR_SETUP (R167): a change of the enable is followed by an evaluation of the owner. -/
def execAirSetup (tag : Tag) (cart enable fadeMs : Option Nat) (s : State) : Answer :=
  .next (s.takeOnRig fun r =>
    r.judged tag .airSetup (airCheck cart enable fadeMs) fun (c, e, f) =>
      let set := ({ r with airSwitch := r.airSwitch.setUp c e f }).reply tag .airSetup .done []
      if set.airSwitch.fallbackEnable = r.airSwitch.fallbackEnable then set
      else set.evaluateOwner .setup)

/-! ### A frame of the monitors (R169) -/

/-- The sides of the value a cell's point or line completed at the frame before (R169). -/
def State.measured (s : State) (c : Fin 18) : Sample × Sample :=
  match cellLine c with
  | none =>
    let x := if c.val < 2 then s.taken.pgm else if c.val < 4 then s.taken.dly else s.taken.air
    (x.l, x.r)
  | some k => (match (s.line k).inLane with
    | some lane => s.taken.lanes[lane]
    | none => 0, 0)

/-- The two DLY instances are suspended while the owner is ALERT (R169). -/
def Rig.suspended (r : Rig) (c : Fin 18) : Bool :=
  (c == 2 || c == 3) && r.airSwitch.owner == .alert

/-- A frame event that discards the block of a cell (R169). -/
def State.spoils (s : State) (c : Fin 18) : Bool :=
  s.rig.suspended c || (match cellLine c with
    | none => false
    | some k => (s.line k).state != .onAir)

/-- A cell with a frame measured (R169). -/
def MonitorCell.raised (x : MonitorCell) (l r : Nat) (spoilt : Bool) : MonitorCell :=
  { x with
    peakL := if x.peakL < l then l else x.peakL
    peakR := if x.peakR < r then r else x.peakR
    discard := x.discard || spoilt }

/-- Every cell measures its frame (R169). -/
def State.measureAll (s : State) : Vector MonitorCell 18 :=
  vtable 18 fun c => (s.rig.cell c).raised (magnitude (s.measured c).1) (magnitude (s.measured c).2)
    (s.spoils c)

/-- The block ends at this frame event (R169). -/
def Monitors.blockEnds (m : Monitors) : Bool := 480 ≤ m.phase + 1

/-- One frame event of the Monitor block (R169). -/
def State.monitorFrame (s : State) : State :=
  let m := s.rig.monitors
  let measured := { m with
    cells := s.measureAll
    phase := if m.blockEnds then 0 else m.phase + 1 }
  s.onRig fun r =>
    let next := { r with monitors := measured }
    if m.blockEnds then next.endBlocks else next

/-- MONITOR_FRAME (R169). -/
def execMonitorFrame (s : State) : Answer := .next s.monitorFrame

/-- MONITOR_BLOCK_END: the frame event at which the block phase reaches 480 (R169). -/
def execMonitorBlockEnd (s : State) : Answer :=
  whenDue s.rig.monitors.blockEnds s fun s => .next s.monitorFrame

/-! ### The requests -/

/-- The optional operands of MONITOR_SET, read and in range. -/
structure MonitorChange where
  mode : Option MonitorMode
  threshold : Option Nat
  warn : Option Nat
  fault : Option Nat
  hold : Option Nat
  restore : Option Nat
  scope : Option Scope
  deriving DecidableEq, Repr

def MonitorFields.none? (f : MonitorFields) : Bool :=
  f.mode == none && f.threshold == none && f.warn == none && f.fault == none && f.hold == none &&
    f.restore == none && f.scope == none

/-- An operand that does not belong to the setting's kind is given (R174, check 2). -/
def MonitorFields.foreign (f : MonitorFields) (i : Fin 8) : Bool :=
  if isOverloadSetting i then f.warn.isSome || f.fault.isSome || (f.scope.isSome && i != 7)
  else f.hold.isSome || f.scope.isSome

/-- The checks of MONITOR_SET, in order (R174). Check 3 excepts the fault time, so no value of it is refused: one
below the warn time is raised to it, and every other is taken as given (notes/assumptions/21.md). -/
def monitorCheck (setting : Nat) (f : MonitorFields) : Except Status (Fin 8 × MonitorChange) := do
  let i ← require .range (index? 8 setting)
  refuse .range (MonitorFields.none? f)
  refuse .range (MonitorFields.foreign f i)
  let mode ← require .range (optional? monitorMode? f.mode)
  let threshold ← require .range (optional? (inRange? 0 8388607) f.threshold)
  let warn ← require .range (optional? (inRange? 1 255) f.warn)
  let hold ← require .range (optional? (inRange? 1 100) f.hold)
  let restore ← require .range (optional? (inRange? 1 255) f.restore)
  let scope ← require .range (optional? scope? f.scope)
  return (i, { mode := mode, threshold := threshold, warn := warn, fault := f.fault, hold := hold
               restore := restore, scope := scope })

/-- The setting as taken: the others kept, the fault time raised to the warn time (R174). -/
def MonitorSetting.changed (m : MonitorSetting) (f : MonitorChange) : MonitorSetting :=
  { mode := f.mode.getD m.mode
    threshold := f.threshold.getD m.threshold
    warn := f.warn.getD m.warn
    fault := max (f.fault.getD m.fault) (f.warn.getD m.warn)
    hold := f.hold.getD m.hold
    restore := f.restore.getD m.restore
    scope := f.scope.getD m.scope }

/-- The cells of a setting. -/
def cellsOf (i : Fin 8) : List (Fin 18) := allCells.filter fun c => cellSetting c == i

/-- A cell returned to CLEAR with both counters at 0 (R175). -/
def MonitorCell.cleared (x : MonitorCell) : MonitorCell :=
  { x with state := .clear, persistence := 0, restoreCount := 0 }

/-- A cell whose mode has become OFF (R172). -/
def MonitorCell.switchedOff (x : MonitorCell) : MonitorCell := { x.cleared with peakL := 0, peakR := 0 }

/-- Cells changed together. -/
def Rig.changeCells (r : Rig) (cs : List (Fin 18)) (f : MonitorCell → MonitorCell) : Rig :=
  cs.foldl (fun r c => r.setCell c (f (r.cell c))) r

/-- The changes of whether cells act are handed on in order (R173); `before` is the monitors as they stood. -/
def Rig.handOnAll (r : Rig) (cs : List (Fin 18)) (before : Monitors) : Rig :=
  cs.foldl (fun r c => r.handOn c (before.acts c)) r

/-- The setting replaced, its cells changed by a new mode, and the changes handed on (R172 to R174). -/
def Rig.changeSetting (r : Rig) (i : Fin 8) (m : MonitorSetting) : Rig :=
  let old := r.monitors.settings[i]
  let set := { r with monitors := { r.monitors with settings := vset r.monitors.settings i m } }
  let moded := if m.mode = .off ∧ old.mode ≠ .off then
    set.changeCells (cellsOf i) MonitorCell.switchedOff else set
  let told := moded.handOnAll (cellsOf i) r.monitors
  if m.scope = old.scope then told else told.notify .scopeChange

/-- The fields of R168, in its order. -/
def MonitorSetting.data (m : MonitorSetting) : List Nat :=
  [m.mode.code, m.threshold, m.warn, m.fault, m.hold, m.restore, m.scope.code]

/-- MONITOR_SET (R174). -/
def execMonitorSet (tag : Tag) (setting : Nat) (f : MonitorFields) (s : State) : Answer :=
  .next (s.takeOnRig fun r =>
    r.judged tag .monitorSet (monitorCheck setting f) fun (i, change) =>
      let m := r.monitors.settings[i].changed change
      (r.changeSetting i m).reply tag .monitorSet .done m.data)

/-- The cell of a setting at a point, or of a line setting at a line (R175, R176). -/
def cellAt (i : Fin 8) (line : Nat) : Option (Fin 18) :=
  if h : i.val < 6 then (if line = noneCode then some ⟨i.val, by omega⟩ else none)
  else (index? 6 line).map fun k => if i = 6 then quietCell k else overloadCell k

/-- The cells MONITOR_CLEAR names: 6 is ALL for a line setting (R175, R201). -/
def cellsNamed (setting line : Nat) : Option (List (Fin 18)) :=
  match index? 8 setting with
  | none => none
  | some i => if 6 ≤ i.val ∧ line = 6 then some (cellsOf i) else (cellAt i line).map ([·])

/-- MONITOR_CLEAR (R175). -/
def execMonitorClear (tag : Tag) (setting line : Nat) (s : State) : Answer :=
  .next (s.takeOnRig fun r =>
    r.judged tag .monitorClear (require .range (cellsNamed setting line)) fun cs =>
      ((r.changeCells cs MonitorCell.cleared).reply tag .monitorClear .done []).handOnAll cs
        r.monitors)

/-- The present peaks of a cell: two sides at a point, one on a line (R169). -/
def Rig.peakData (r : Rig) (c : Fin 18) : List Nat :=
  if cellLine c = none then [(r.cell c).peakL, (r.cell c).peakR] else [(r.cell c).peakL]

/-- The data of MONITOR_READ (R176). -/
def Rig.monitorData (r : Rig) (c : Fin 18) : List Nat :=
  let x := r.cell c
  r.monitors.settings[cellSetting c].data ++ [x.state.code, x.persistence, x.restoreCount] ++
    r.peakData c ++
    [r.monitors.phase, Bool.code (r.monitors.acts c), Bool.code (r.suspended c)] ++
    (if c = dlySilence then
      [r.airSwitch.owner.code, orNone (r.airSwitch.outgoing.map AirOwner.code), r.airSwitch.weight]
     else [])

/-- MONITOR_READ (R176). -/
def execMonitorRead (tag : Tag) (setting line : Nat) (s : State) : Answer :=
  .next (s.takeOnRig fun r =>
    r.judged tag .monitorRead (do
        let i ← require .range (index? 8 setting)
        require .range (cellAt i line))
      fun c => r.reply tag .monitorRead .done (r.monitorData c))

/-! ### Restart -/

/-- RESTART on the Air Switch (R178). That the span of an abandoned crossfade is kept is the model's choice, since R178
names it neither as set nor as kept (notes/assumptions/35.md). -/
def AirSwitch.restarted (a : AirSwitch) : AirSwitch :=
  { a with owner := .program, runFlag := false, outgoing := none, weight := 0 }

/-- RESTART on the Monitor block (R178). -/
def Monitors.restarted (m : Monitors) : Monitors :=
  { m with cells := Vector.replicate 18 .reset, phase := 0, lineNotices := [] }

end Sys2Proof.Machine
end

