-- ==== Sys2Proof/Machine/LinkPorts.lean ====
section
/-!
DEFINITION. The transmitter link (chapter 10): blocks, site reports, port health and the active port, and the
commands LINK_FRAME, LINK_BLOCK_COMPLETE, SITE_REPORT, HEARTBEAT_EXPIRY, REVERTIVE_RETURN and LINK_*.
-/

namespace Sys2Proof.Machine

/-! ### The link's record and the reports of one event -/

/-- The link's record, with the reports that the event in progress has raised so far. -/
structure Linked where
  link : Link
  raised : List Report
  deriving DecidableEq, Repr

def Link.setPort (l : Link) (p : Port) (x : PortRecord) : Link :=
  match p with
  | .a => { l with portA := x }
  | .b => { l with portB := x }

def Linked.raise (x : Linked) (r : Report) : Linked := { x with raised := x.raised ++ [r] }

/-- A change of a port's health, with its report (R184). -/
def Linked.setHealth (x : Linked) (p : Port) (h : Health) : Linked :=
  let old := x.link.port p
  if old.health = h then x
  else { link := x.link.setPort p { old with health := h }
         raised := x.raised ++ [.linkHealth p old.health h] }

/-- The place of a report among those of one event (R186). -/
def Report.linkRank : Report → Nat
  | .linkHealth _ _ _ => 0
  | .linkChangeover _ _ _ _ => 1
  | .linkBothDown => 2
  | _ => 3

/-- The reports of one event in the order HEALTH, CHANGEOVER, BOTH_DOWN, and then those of R188 (R186). -/
def linkOrder (rs : List Report) : List Report :=
  rs.filter (·.linkRank == 0) ++ rs.filter (·.linkRank == 1) ++ rs.filter (·.linkRank == 2) ++
    rs.filter (·.linkRank == 3)

/-- The AIR-silence threshold, read by the mismatch test (R188). -/
def Monitors.airThreshold (m : Monitors) : Nat := m.settings[4].threshold

/-- An event of the Link controller: its record, and the reports it raised. -/
def State.onLink (s : State) (f : Linked → Linked) : State :=
  let x := f { link := s.link, raised := [] }
  ({ s with link := x.link }).onRig (·.reports (linkOrder x.raised))

/-! ### Lag and site status (R185, R188) -/

/-- The lag of the active port is tested (R185). -/
def Linked.lagTest (x : Linked) : Linked :=
  let p := x.link.active
  match (x.link.port p).health with
  | .up => if x.link.lagLimit < x.link.lag then x.setHealth p .lagging else x
  | .lagging => if 2 * x.link.lag ≤ x.link.lagLimit then x.setHealth p .up else x
  | .down | .proving => x

/-- The carrier follows the active port's (R188). -/
def Linked.followCarrier (x : Linked) (reported : Option Carrier) : Linked :=
  match reported with
  | none => x
  | some v =>
    if x.link.site.carrier = some v then x
    else { link := { x.link with site := { x.link.site with carrier := some v } }
           raised := x.raised ++ [.linkSite (.carrier x.link.site.carrier v)] }

/-- The power follows the active port's (R188). -/
def Linked.followPower (x : Linked) (reported : Option SitePower) : Linked :=
  match reported with
  | none => x
  | some v =>
    if x.link.site.power = some v then x
    else { link := { x.link with site := { x.link.site with power := some v } }
           raised := x.raised ++ [.linkSite (.power x.link.site.power v)] }

/-- The site silence follows the active port's (R188). -/
def Linked.followSilence (x : Linked) (reported : Option Bool) : Linked :=
  match reported with
  | none => x
  | some v =>
    if x.link.site.silence = some v then x
    else { link := { x.link with site := { x.link.site with silence := some v } }
           raised := x.raised ++ [.linkSite (.silence x.link.site.silence v)] }

/-- A mismatch stands (R188). -/
def Link.mismatched (l : Link) (threshold : Nat) : Bool :=
  l.site.silence == some true && threshold ≤ l.lastPeak

/-- The mismatch test (R188). -/
def Linked.mismatchTest (x : Linked) (threshold : Nat) : Linked :=
  let stands := x.link.mismatched threshold
  let set := { x with link := { x.link with mismatch := stands } }
  if stands && !x.link.mismatch then
    set.raise (.linkMismatch x.link.lastPeak (x.link.port x.link.active).acknowledged)
  else set

/-- The site status is taken from the active port, and the mismatch is tested (R188). -/
def Linked.followSite (x : Linked) (threshold : Nat) : Linked :=
  let reported := (x.link.port x.link.active).site
  (((x.followCarrier reported.carrier).followPower reported.power).followSilence
    reported.silence).mismatchTest threshold

/-! ### The active port (R186, R187) -/

/-- The revert timer becomes 0 when one of its conditions does not stand (R187). -/
def Linked.checkRevert (x : Linked) : Linked :=
  if x.link.reverting then x else { x with link := { x.link with revertTimer := 0 } }

/-- A port that ceases to be active while LAGGING becomes UP (R185). -/
def Linked.settleOld (x : Linked) (p : Port) : Linked :=
  if (x.link.port p).health = .lagging then x.setHealth p .up else x

/-- A change of the active port (R186). -/
def Linked.makeActive (x : Linked) (p : Port) (cause : PortCause) (threshold : Nat) : Linked :=
  let old := x.link.active
  let settled := x.settleOld old
  let moved := { settled with link := { settled.link with active := p } }
  ((moved.lagTest.checkRevert.raise (.linkChangeover old p cause x.link.counter)).followSite threshold)

/-- The changeover rule for a port that enters DOWN (R186). -/
def Linked.portDown (x : Linked) (p : Port) (threshold : Nat) : Linked :=
  if p = x.link.active then
    match (x.link.port (otherPort p)).health with
    | .up | .lagging => x.makeActive (otherPort p) .portDown threshold
    | .down => x.raise .linkBothDown
    | .proving => x
  else if (x.link.port x.link.active).health = .down then x.raise .linkBothDown
  else x

/-- The changeover rule for a port that enters UP (R186). -/
def Linked.portUp (x : Linked) (p : Port) (threshold : Nat) : Linked :=
  if p ≠ x.link.active ∧ (x.link.port x.link.active).health = .down then
    x.makeActive p .portUp threshold
  else x

/-! ### The health machine (R184) -/

/-- The heartbeat timeout in frames (R184). -/
def Link.timeout (l : Link) : Nat := l.timeoutMs * 48

/-- A port takes an accepted report (R184). -/
def Linked.heard (x : Linked) (p : Port) (threshold : Nat) : Linked :=
  let old := x.link.port p
  let timed := { x with link := x.link.setPort p { old with heartbeat := x.link.timeout } }
  match old.health with
  | .down =>
    ({ x with link := x.link.setPort p { old with
        heartbeat := x.link.timeout, proving := 1 } }).setHealth p .proving
  | .proving =>
    let proved := { x with link := x.link.setPort p { old with
      heartbeat := x.link.timeout, proving := old.proving + 1 } }
    if 3 ≤ old.proving + 1 then (proved.setHealth p .up).portUp p threshold else proved
  | .up | .lagging => timed

/-- The heartbeat timer of a port reaches 0 (R184). -/
def Linked.silent (x : Linked) (p : Port) (threshold : Nat) : Linked :=
  let old := x.link.port p
  ((({ x with link := x.link.setPort p { old with
      heartbeat := 0
      proving := if old.health = Health.proving then 0 else old.proving } }).setHealth p .down).portDown p
        threshold).checkRevert

/-- A heartbeat timer reaches 0 at this frame event (R184). -/
def PortRecord.expires (x : PortRecord) : Bool := x.health != .down && x.heartbeat ≤ 1

/-- One frame of a port's heartbeat timer (R184). -/
def Linked.beat (x : Linked) (p : Port) (threshold : Nat) : Linked :=
  let old := x.link.port p
  if old.health = .down then x
  else if old.heartbeat ≤ 1 then x.silent p threshold
  else { x with link := x.link.setPort p { old with heartbeat := old.heartbeat - 1 } }

/-- The revert timer reaches its hold at this frame event (R187). -/
def Link.returns (l : Link) : Bool := l.reverting && l.revertHold * 48000 ≤ l.revertTimer + 1

/-- One frame of the revert timer (R187). -/
def Linked.revertFrame (x : Linked) (threshold : Nat) : Linked :=
  if x.link.returns then
    let back := x.makeActive x.link.preferred .revert threshold
    { back with link := { back.link with revertTimer := 0 } }
  else if x.link.reverting then
    { x with link := { x.link with revertTimer := x.link.revertTimer + 1 } }
  else { x with link := { x.link with revertTimer := 0 } }

/-! ### Blocks (R180 to R182, R202) -/

/-- The values of a header that other blocks own (R181). -/
structure HeaderValues where
  owner : Nat
  originator : Nat
  identity : Nat
  delayState : Nat
  safe : Bool
  deadAir : Bool
  latency : Nat
  deriving DecidableEq, Repr

/-- The values a live header carries (R181). -/
def State.liveHeader (s : State) : HeaderValues :=
  { owner := s.rig.airSwitch.owner.code
    originator := (s.rig.alerts.airing.map fun i => (s.rig.record i).originator).getD 0
    identity := (s.rig.alerts.airing.map fun i => (s.rig.record i).identity).getD 0
    delayState := s.rig.delay.state.code
    safe := s.rig.delay.safe
    deadAir := s.rig.monitors.deadAir
    latency := 4 + s.link.blockLength + (s.rig.delay.length / 4096).toNat }

/-- The values a quiet header carries (R182): air owner QUIET is 7 (R202). -/
def HeaderValues.quiet : HeaderValues :=
  { owner := 7, originator := 0, identity := 0, delayState := 0, safe := false, deadAir := false
    latency := 0 }

/-- The six header words (R202). -/
def headerWords (counter length : Nat) (h : HeaderValues) : List Word32 :=
  let w0 := BitVec.ofNat 32 counter
  let w1 := BitVec.ofNat 32 (h.owner * 536870912 + h.delayState * 67108864 +
    Bool.code h.safe * 33554432 + Bool.code h.deadAir * 16777216 + length * 65536)
  let w2 := BitVec.ofNat 32 h.originator
  let w3 := BitVec.ofNat 32 h.identity
  let w4 := BitVec.ofNat 32 h.latency
  [w0, w1, w2, w3, w4, w0 + w1 + w2 + w3 + w4]

/-- The words of a block's frames: L, then R, each sample in bits 23–0 with its sign above (R202). -/
def frameWords : List Stereo → List Word32
  | [] => []
  | x :: rest => x.l.signExtend 32 :: x.r.signExtend 32 :: frameWords rest

/-- B frames of zero samples (R182). -/
def quietFrames (length : Nat) : List Stereo := List.replicate length .silence

/-- The live block and the quiet block of one number (R182). -/
def State.liveBlock (s : State) : List Word32 :=
  headerWords s.link.counter s.link.blockLength s.liveHeader ++ frameWords s.link.gathered

def Link.quietBlock (l : Link) : List Word32 :=
  headerWords l.counter l.blockLength .quiet ++ frameWords (quietFrames l.blockLength)

/-- The greater magnitude of a frame's two sides (R180). -/
def Stereo.peak (x : Stereo) : Nat := max (magnitude x.l) (magnitude x.r)

/-- One AIR frame is gathered (R180). -/
def Link.gather (l : Link) (x : Stereo) : Link :=
  { l with peak := max l.peak x.peak, phase := l.phase + 1, gathered := l.gathered ++ [x] }

/-- The block is complete: both ports send it, and the counts go on (R180, R182). -/
def Link.completed (l : Link) (live : List Word32) : Link :=
  { l with
    sentA := if l.active = .a then live else l.quietBlock
    sentB := if l.active = .b then live else l.quietBlock
    lastPeak := l.peak
    peak := 0
    counter := nextSerial l.counter
    phase := 0
    blockLength := l.nextLength
    gathered := [] }

/-- The gathering part of a frame event, with the block's completion and its lag test (R180, R185). -/
def State.gatherFrame (s : State) : State :=
  let gathered := { s with link := s.link.gather s.taken.air }
  if gathered.link.blockLength ≤ gathered.link.phase then
    ({ gathered with link := gathered.link.completed gathered.liveBlock }).onLink Linked.lagTest
  else gathered

/-- The heartbeat parts of a frame event (R184). -/
def State.beatFrame (s : State) (p : Port) : State :=
  s.onLink (·.beat p s.rig.monitors.airThreshold)

/-- A frame event up to its revert timer. -/
def State.beforeRevert (s : State) : State := (s.gatherFrame.beatFrame .a).beatFrame .b

/-- One frame event of the Link controller (R180, R184, R187). -/
def State.linkFrame (s : State) : State :=
  s.beforeRevert.onLink (·.revertFrame s.rig.monitors.airThreshold)

/-- LINK_FRAME (R180). -/
def execLinkFrame (s : State) : Answer := .next s.linkFrame

/-- LINK_BLOCK_COMPLETE: the frame event at which the block phase reaches B (R180). -/
def execLinkBlockComplete (s : State) : Answer :=
  whenDue (s.link.blockLength ≤ s.link.phase + 1) s fun s => .next s.linkFrame

/-- HEARTBEAT_EXPIRY: the frame event at which a port's heartbeat timer reaches 0 (R184). -/
def execHeartbeatExpiry (p : Port) (s : State) : Answer :=
  whenDue (s.link.port p).expires s fun s => .next s.linkFrame

/-- REVERTIVE_RETURN: the frame event at which the revert timer reaches its hold (R187). -/
def execRevertiveReturn (s : State) : Answer :=
  whenDue s.beforeRevert.link.returns s fun s => .next s.linkFrame

/-! ### Site reports (R183, R202) -/

/-- The carrier code of a site report (R202). -/
def carrier? : Nat → Option Carrier
  | 1 => some .off
  | 2 => some .on
  | _ => none

/-- The power code of a site report (R202). -/
def power? : Nat → Option SitePower
  | 1 => some .mains
  | 2 => some .standby
  | _ => none

/-- A site report read: the counter and the site's state, if its check and its codes hold (R183, R202). -/
def readSiteReport (w0 w1 w2 : Word32) : Option (Nat × SiteStatus) :=
  if w2 ≠ w0 + w1 then none
  else match carrier? (w1.toNat / 1073741824), power? (w1.toNat / 268435456 % 4) with
    | some carrier, some power =>
      some (w0.toNat, { carrier := some carrier, power := some power
                        silence := some (w1.toNat / 134217728 % 2 == 1) })
    | _, _ => none

/-- A discarded report (R183). -/
def Link.discard (l : Link) (p : Port) : Link :=
  l.setPort p { l.port p with discarded := stopCount (l.port p).discarded }

/-- An accepted report: the port's record, the health machine, and on the active port the lag test and the
site status (R183). -/
def Linked.accept (x : Linked) (p : Port) (counter : Nat) (site : SiteStatus) (threshold : Nat) :
    Linked :=
  let old := x.link.port p
  let recorded := { x with link := x.link.setPort p { old with
    taken := stopCount old.taken, acknowledged := counter, site := site } }
  let heard := (recorded.heard p threshold).checkRevert
  if heard.link.active = p then heard.lagTest.followSite threshold else heard

/-- SITE_REPORT (R183). -/
def execSiteReport (p : Port) (w0 w1 w2 : Word32) (s : State) : Answer :=
  .next (match readSiteReport w0 w1 w2 with
    | none => { s with link := s.link.discard p }
    | some (counter, site) =>
      s.onLink (·.accept p counter site s.rig.monitors.airThreshold))

/-! ### The requests -/

/-- The operands of LINK_SETUP, read and in range (R189). -/
structure LinkChange where
  blockLength : Option Nat
  timeoutMs : Option Nat
  lagLimit : Option Nat
  revertive : Option Bool
  revertHold : Option Nat
  preferred : Option Port
  deriving DecidableEq, Repr

/-- The checks of LINK_SETUP (R189). -/
def linkCheck (f : LinkFields) : Except Status LinkChange := do
  refuse .range (f.blockLength == none && f.timeoutMs == none && f.lagLimit == none &&
    f.revertive == none && f.revertHold == none && f.preferred == none)
  let length ← require .range (optional? blockLength? f.blockLength)
  let timeout ← require .range (optional? (inRange? 250 10000) f.timeoutMs)
  let lag ← require .range (optional? (inRange? 10 10000) f.lagLimit)
  let revertive ← require .range (optional? flag? f.revertive)
  let hold ← require .range (optional? (inRange? 10 600) f.revertHold)
  let preferred ← require .range (optional? port? f.preferred)
  return { blockLength := length, timeoutMs := timeout, lagLimit := lag, revertive := revertive
           revertHold := hold, preferred := preferred }

/-- A running heartbeat timer is limited to a new timeout (R189). -/
def PortRecord.limited (x : PortRecord) (timeout : Nat) : PortRecord :=
  if x.health = .down then x else { x with heartbeat := min x.heartbeat timeout }

/-- The settings of LINK_SETUP taken (R189). -/
def Link.setUp (l : Link) (f : LinkChange) : Link :=
  let set := { l with
    nextLength := f.blockLength.getD l.nextLength
    timeoutMs := f.timeoutMs.getD l.timeoutMs
    lagLimit := f.lagLimit.getD l.lagLimit
    revertive := f.revertive.getD l.revertive
    revertHold := f.revertHold.getD l.revertHold
    preferred := f.preferred.getD l.preferred }
  let timed := if f.timeoutMs.isSome then
      { set with portA := set.portA.limited set.timeout, portB := set.portB.limited set.timeout }
    else set
  if set.revertive = l.revertive ∧ set.preferred = l.preferred then timed
  else { timed with revertTimer := 0 }

/-- LINK_SETUP (R189). -/
def execLinkSetup (tag : Tag) (f : LinkFields) (s : State) : Answer :=
  .next (s.take 1 fun s =>
    s.judged tag .linkSetup (linkCheck f) fun change =>
      let set := ({ s with link := s.link.setUp change }).reply tag .linkSetup .done []
      if change.lagLimit.isSome then set.onLink Linked.lagTest else set)

/-- The checks of LINK_SELECT (R190). -/
def State.selectCheck (s : State) (port force : Nat) : Except Status Port := do
  let p ← require .range (port? port)
  let f ← require .range (flag? force)
  refuse .state (p != s.link.active && (s.link.port p).health == .down && !f)
  return p

/-- LINK_SELECT (R190). -/
def execLinkSelect (tag : Tag) (port force : Nat) (s : State) : Answer :=
  .next (s.take 1 fun s =>
    s.judged tag .linkSelect (s.selectCheck port force) fun p =>
      (if p = s.link.active then s
        else s.onLink (·.makeActive p .select s.rig.monitors.airThreshold)).reply tag .linkSelect
          .done [])

/-- The fields of a port record (R179). -/
def PortRecord.data (x : PortRecord) : List Nat :=
  [x.health.code, x.proving, x.heartbeat] ++ wide x.acknowledged ++ x.site.codes ++ wide x.taken ++
    wide x.discarded

/-- The data of LINK_READ (R191). That an airing alert of none is given as originator 0 and identity 0, as the next
header would carry it (R202), and not as the all-ones code that R201 gives for none, is the model's choice
(notes/assumptions/8.md). -/
def State.linkData (s : State) : List Nat :=
  let l := s.link
  let h := s.liveHeader
  [l.active.code, l.preferred.code, Bool.code l.revertive, l.revertHold, l.revertTimer, l.timeoutMs,
   l.lagLimit, l.blockLength, l.nextLength, l.phase] ++ wide l.counter ++ [l.peak, l.lastPeak] ++
    l.site.codes ++ [Bool.code l.mismatch] ++ l.portA.data ++ l.portB.data ++ wide l.lag ++
    [h.owner, h.originator, h.identity, h.delayState, Bool.code h.safe, Bool.code h.deadAir, h.latency]

/-- LINK_READ (R191). -/
def execLinkRead (tag : Tag) (s : State) : Answer :=
  .next (s.take 1 fun s => s.reply tag .linkRead .done s.linkData)

end Sys2Proof.Machine
end

