-- ==== Sys2Proof/Machine/Mixer.lean ====
section
/-!
DEFINITION. The Mix Engine (chapter 2): the stages of a frame, and the commands MIX_FRAME, ROUTE_RAMP_END,
GATE_RAMP_END, VOICE_HOLD_EXPIRY, ROUTE_* and DUCK_SET.
-/

namespace Sys2Proof.Machine

/-! ### Ramps (R20, R23) -/

/-- A gain ramp starts (R23): a target that equals the current gain starts none. -/
def Route.ramped (r : Route) : Route :=
  if r.target = r.current then { r with step := 0, remaining := 0 }
  else { r with
    step := ((r.target : Int) - r.current).tdiv (2 ^ r.exponent : Nat)
    remaining := 2 ^ r.exponent }

/-- One frame of the gain ramp: the last frame sets the target exactly (R23). -/
def Route.rampFrame (r : Route) : Route :=
  if r.remaining = 0 then r
  else if r.remaining = 1 then { r with current := r.target, remaining := 0 }
  else { r with current := (r.current + r.step).toNat, remaining := r.remaining - 1 }

/-- The gate target of a LINE k route for a line's state and muted flag (R20). -/
def gateTarget (destination : Bus) (state : LineState) (muted : Bool) : Bool :=
  match destination with
  | .pgm => state == .onAir && !muted
  | .scr => state == .screen
  | .cue => state == .screen || state == .hold || state == .onAir

/-- The line whose gate a route passes (R20). -/
def Route.gateLine (r : Route) : Option LineId :=
  match r.source with
  | .line k => some k
  | _ => none

def State.gateTargetOf (s : State) (r : Route) (k : LineId) : Bool :=
  gateTarget r.destination (s.line k).state (s.line k).muted

/-- The goal of a gate target (R20). -/
def gateGoal (opened : Bool) : Nat := if opened then 16384 else 0

/-- A gate ramp starts when the target changes (R20); a target that agrees with a gate at rest starts
none. -/
def Route.gateRamped (r : Route) (opened : Bool) : Route :=
  if r.gateRemaining = 0 ∧ r.gateFactor = gateGoal opened then { r with gateOpen := opened }
  else { r with
    gateOpen := opened
    gateRemaining := 512
    gateStep := ((gateGoal opened : Int) - r.gateFactor).tdiv 512 }

/-- One frame of the gate ramp: the last frame sets the goal exactly (R20). -/
def Route.gateFrame (r : Route) : Route :=
  if r.gateRemaining = 0 then r
  else if r.gateRemaining = 1 then { r with gateFactor := gateGoal r.gateOpen, gateRemaining := 0 }
  else { r with gateFactor := (r.gateFactor + r.gateStep).toNat, gateRemaining := r.gateRemaining - 1 }

/-- The gate of a LINE route at a frame event: a changed target starts a ramp, whose steps are added at
the following frame events (R20); otherwise the ramp in flight takes its step. -/
def State.gateStage (s : State) (r : Route) : Route :=
  match r.gateLine with
  | none => r
  | some k =>
    if s.gateTargetOf r k = r.gateOpen then r.gateFrame else r.gateRamped (s.gateTargetOf r k)

/-- The ramp stage of one route (R16, stage 2), before a clearing route is freed. -/
def State.rampStage (s : State) (r : Route) : Route :=
  if r.inUse then (s.gateStage r).rampFrame else r

/-- A clearing route whose ramp has ended is freed (R31). -/
def Route.ended (r : Route) : Bool := r.inUse && r.clearing && r.remaining == 0

/-- The route table after stage 2 (R16). -/
def State.ramped (s : State) : Vector Route 48 :=
  vmap (fun r => let x := s.rampStage r
    if x.ended then .free else x) s.mix.routes

/-- The routes that stage 2 frees (R31). The rules give no order for the FREED reports of one frame event; that they
are queued in index order is the model's choice (notes/assumptions/7.md). -/
def State.freedRoutes (s : State) : List RouteId :=
  (List.finRange 48).filter fun i => (s.rampStage s.mix.routes[i]).ended

/-! ### Source values (R18, R19) -/

/-- The frame of a route's source (R18). -/
def State.sourceFrame (s : State) (source : RouteSource) : Frame :=
  match source with
  | .lane x => .mono s.taken.lanes[x]
  | .pair k => .stereo (s.taken.lanes[2 * k.val]'(by omega)) (s.taken.lanes[2 * k.val + 1]'(by omega))
  | .deck n => s.taken.decks[n.val]'(by omega)
  | .line k => match (s.line k).inLane with
    | none => .mono 0
    | some x => .mono s.taken.lanes[x]

/-- A source value brought to the form of its destination (R19). -/
inductive Sided
  | one (x : Int)
  | two (l r : Int)
  deriving DecidableEq, Repr

/-- The conversion of R19. -/
def Frame.toward (f : Frame) (destination : Bus) : Sided :=
  match f, destination with
  | .mono x, .scr => .one x.toInt
  | .stereo l r, .scr => .one ((l.toInt + r.toInt) / 2)
  | .mono x, _ => .two x.toInt x.toInt
  | .stereo l r, _ => .two l.toInt r.toInt

/-! ### Voice and duck (R24, R25) -/

/-- A value whose magnitude is at or above a threshold on either side (R24). -/
def Sided.reaches (v : Sided) (threshold : Nat) : Bool :=
  match v with
  | .one x => threshold ≤ x.natAbs
  | .two l r => threshold ≤ l.natAbs || threshold ≤ r.natAbs

/-- A route detects voice (R24). -/
def State.routeVoice (s : State) (r : Route) : Bool :=
  r.inUse && r.destination == .pgm && r.voice &&
    (match r.gateLine with
     | some k => s.gateTargetOf r k
     | none => true) &&
    ((s.sourceFrame r.source).toward r.destination).reaches s.mix.duck.threshold

/-- Voice is detected on a route table (R24). -/
def State.voiceDetected (s : State) (routes : Vector Route 48) : Bool :=
  routes.toList.any fun r => s.routeVoice r

/-- The count of frames since voice (R24). -/
def voiceCount (detected : Bool) (count : Nat) : Nat :=
  if detected then 0 else if 48001 ≤ count + 1 then 48001 else count + 1

/-- Voice is open while the count is at or below the hold (R24). -/
def voiceOpen (duck : DuckSettings) (count : Nat) : Bool := count ≤ duck.hold

/-- The duck factor one frame nearer its goal (R25). -/
def duckStep (duck : DuckSettings) (opened : Bool) (d : Nat) : Nat :=
  if opened then moveToward d duck.depth duck.attack else moveToward d 16384 duck.release

/-! ### Terms and sums (R21, R22) -/

/-- A route's effective gain (R21). -/
def Route.gain (r : Route) (duckFactor : Nat) : Nat :=
  let gated := match r.gateLine with
    | some _ => scaledGain r.current r.gateFactor
    | none => r.current
  if r.destination = .pgm ∧ r.duckable then scaledGain gated duckFactor else gated

/-- The terms of one route on the two sides of its destination; a mono destination has the first alone. -/
def State.terms (s : State) (duckFactor : Nat) (r : Route) : Int × Int :=
  match (s.sourceFrame r.source).toward r.destination with
  | .one x => (scaled x (r.gain duckFactor), 0)
  | .two l r' => (scaled l (r.gain duckFactor), scaled r' (r.gain duckFactor))

/-- The unsaturated sum of a bus over a list of routes (R22). -/
def State.busSum (s : State) (duckFactor : Nat) (bus : Bus) (routes : List Route) : Int × Int :=
  (routes.filter fun r => r.inUse && r.destination == bus).foldl
    (fun acc r => (acc.1 + (s.terms duckFactor r).1, acc.2 + (s.terms duckFactor r).2)) (0, 0)

/-- The routes without every route from LINE k (R27). -/
def withoutLine (k : LineId) (routes : List Route) : List Route :=
  routes.filter fun r => r.gateLine != some k

/-! ### The HOLD feed and the returns (R26 to R28) -/

/-- The HOLD feed of the saturated PGM (R26). -/
def holdFeedOf (pgm : Stereo) (holdGain : Nat) : Sample :=
  saturate (scaled ((pgm.l.toInt + pgm.r.toInt) / 2) holdGain)

/-- The return of a line (R27, R28). -/
def State.lineReturn (s : State) (duckFactor : Nat) (routes : List Route) (feed : Sample)
    (k : LineId) : Sample :=
  let l := s.line k
  match l.state with
  | .onAir =>
    let sum := s.busSum duckFactor .pgm (withoutLine k routes)
    saturate (scaled (saturate ((sum.1 + sum.2) / 2)).toInt l.returnGain)
  | .screen =>
    let sum := s.busSum duckFactor .scr (withoutLine k routes)
    saturate (scaled (saturate sum.1).toInt l.returnGain)
  | .hold => feed
  | .idle | .ringing | .answering => 0

/-! ### The frame -/

/-- One frame of the Mix Engine (R16). -/
def State.mixFrame (s : State) : State :=
  let routes := s.ramped
  let list := routes.toList
  let count := voiceCount (s.voiceDetected routes) s.mix.sinceVoice
  let d := duckStep s.mix.duck (voiceOpen s.mix.duck count) s.mix.duckFactor
  let pgm := s.busSum d .pgm list
  let cue := s.busSum d .cue list
  let scr := s.busSum d .scr list
  let out : Stereo := { l := saturate pgm.1, r := saturate pgm.2 }
  let feed := holdFeedOf out s.callers.holdGain
  let mixed := { s with
    mix := { s.mix with routes := routes, duckFactor := d, sinceVoice := count }
    completed := { s.completed with
      pgm := out
      cue := { l := saturate cue.1, r := saturate cue.2 }
      scr := saturate scr.1
      holdFeed := feed
      returns := vtable 6 (s.lineReturn d list feed) } }
  mixed.onRig (·.reports (s.freedRoutes.map .routeFreed))

/-- MIX_FRAME (R16). -/
def execMixFrame (s : State) : Answer := .next s.mixFrame

/-- ROUTE_RAMP_END: the frame event at which a route's ramp remaining reaches 0 (R23, R31). -/
def execRouteRampEnd (i : RouteId) (s : State) : Answer :=
  whenDue (s.mix.routes[i].inUse && s.mix.routes[i].remaining == 1) s fun s => .next s.mixFrame

/-- A gate ramp takes its last step at this frame event (R20). -/
def State.gateEnds (s : State) (r : Route) : Bool :=
  r.inUse && r.gateRemaining == 1 && (match r.gateLine with
    | some k => s.gateTargetOf r k == r.gateOpen
    | none => false)

/-- GATE_RAMP_END: the frame event at which a gate remaining reaches 0 (R20). -/
def execGateRampEnd (i : RouteId) (s : State) : Answer :=
  whenDue (s.gateEnds s.mix.routes[i]) s fun s => .next s.mixFrame

/-- VOICE_HOLD_EXPIRY: the frame event at which the count of frames since voice passes the hold (R24). -/
def execVoiceHoldExpiry (s : State) : Answer :=
  whenDue (voiceOpen s.mix.duck s.mix.sinceVoice &&
      !voiceOpen s.mix.duck s.mixFrame.mix.sinceVoice) s
    fun s => .next s.mixFrame

/-! ### The requests -/

/-- An exponent above 12 is clamped to 12 (R29). -/
def rampExponent (k : Nat) : Nat := if 12 < k then 12 else k

/-- A request of the Mix Engine that changes one route. -/
def State.setRoute (s : State) (i : RouteId) (r : Route) : State :=
  { s with mix := { s.mix with routes := vset s.mix.routes i r } }

/-- The checks of ROUTE_SET (R29). -/
def State.routeSetCheck (s : State) (index kind number destination gain voice duckable : Nat) :
    Except Status (RouteId × RouteSource × Bus × Nat × Bool × Bool) := do
  let i ← require .range (index? 48 index)
  let source ← require .range (routeSource? kind number)
  let bus ← require .range (bus? destination)
  let target ← require .range (inRange? 0 65535 gain)
  let v ← require .range (flag? voice)
  let d ← require .range (flag? duckable)
  refuse .range ((v || d) && bus != .pgm)
  refuse .busy s.mix.routes[i].inUse
  return (i, source, bus, target, v, d)

/-- ROUTE_SET (R29). -/
def execRouteSet (tag : Tag) (index kind number destination gain exponent voice duckable : Nat)
    (s : State) : Answer :=
  .next (s.take 1 fun s =>
    s.judged tag .routeSet (s.routeSetCheck index kind number destination gain voice duckable)
      fun (i, source, bus, target, v, d) =>
        (s.setRoute i (Route.ramped { Route.free with
          inUse := true, source := source, destination := bus, target := target
          exponent := rampExponent exponent, voice := v, duckable := d })).reply tag .routeSet
            .done [])

/-- ROUTE_GAIN (R30). -/
def execRouteGain (tag : Tag) (index gain exponent : Nat) (s : State) : Answer :=
  .next (s.take 1 fun s =>
    s.judged tag .routeGain (do
        let i ← require .range (index? 48 index)
        let target ← require .range (inRange? 0 65535 gain)
        refuse .absent (!s.mix.routes[i].inUse)
        refuse .state s.mix.routes[i].clearing
        return (i, target))
      fun (i, target) =>
        (s.setRoute i (Route.ramped { s.mix.routes[i] with
          target := target, exponent := rampExponent exponent })).reply tag .routeGain .done [])

/-- A route that is asked for by index and must be in use (R31). -/
def State.routeInUse (s : State) (index : Nat) : Except Status RouteId := do
  let i ← require .range (index? 48 index)
  refuse .absent (!s.mix.routes[i].inUse)
  return i

/-- The entry after ROUTE_CLEAR: ramping to 0, or freed at once when its current gain is 0 (R31). -/
def Route.cleared (r : Route) (exponent : Nat) : Route :=
  if r.current = 0 then .free
  else Route.ramped { r with clearing := true, target := 0, exponent := rampExponent exponent }

/-- ROUTE_CLEAR (R31). -/
def execRouteClear (tag : Tag) (index exponent : Nat) (s : State) : Answer :=
  .next (s.take 1 fun s =>
    s.judged tag .routeClear (s.routeInUse index) fun i =>
      let done := (s.setRoute i (s.mix.routes[i].cleared exponent)).reply tag .routeClear .done []
      if s.mix.routes[i].current = 0 then done.report (.routeFreed i) else done)

/-- The fields of R17, in its order. -/
def Route.data (r : Route) : List Nat :=
  [Bool.code r.inUse, Bool.code r.clearing] ++ r.source.codes ++
    [r.destination.code, r.target, r.current, r.exponent, r.remaining] ++ signed r.step ++
    [Bool.code r.voice, Bool.code r.duckable, r.gateFactor, r.gateRemaining] ++ signed r.gateStep

/-- ROUTE_READ (R32). -/
def execRouteRead (tag : Tag) (index : Nat) (s : State) : Answer :=
  .next (s.take 1 fun s =>
    s.judged tag .routeRead (require .range (index? 48 index)) fun i =>
      s.reply tag .routeRead .done s.mix.routes[i].data)

/-- The checks of DUCK_SET (R33). -/
def duckCheck (depth attack release threshold hold : Nat) : Except Status DuckSettings := do
  let depth ← require .range (inRange? 0 16384 depth)
  let attack ← require .range (inRange? 1 1024 attack)
  let release ← require .range (inRange? 1 1024 release)
  let threshold ← require .range (inRange? 0 8388607 threshold)
  let hold ← require .range (inRange? 0 48000 hold)
  return { depth := depth, attack := attack, release := release, threshold := threshold, hold := hold }

/-- DUCK_SET (R33). -/
def execDuckSet (tag : Tag) (depth attack release threshold hold : Nat) (s : State) : Answer :=
  .next (s.take 1 fun s =>
    s.judged tag .duckSet (duckCheck depth attack release threshold hold) fun duck =>
      ({ s with mix := { s.mix with duck := duck } }).reply tag .duckSet .done [])

/-! ### Restart -/

/-- A route at RESTART (R36). -/
def Route.restarted (r : Route) : Route :=
  if !r.inUse then r
  else if r.clearing then .free
  else { r with
    current := r.target, step := 0, remaining := 0, gateFactor := 0, gateStep := 0
    gateRemaining := 0, gateOpen := false }

/-- RESTART on the Mix Engine (R36). -/
def Mix.restarted (m : Mix) : Mix :=
  { m with routes := vmap Route.restarted m.routes, duckFactor := 16384, sinceVoice := 48001 }

end Sys2Proof.Machine
end

