-- ==== Sys2Proof/Machine/System.lean ====
section
/-!
DEFINITION. The part as a whole (chapter 11, section 11.3): the commands POWER_ON, RESTART and STATUS_READ.
-/

namespace Sys2Proof.Machine

/-- POWER_ON (R199): every record takes its power-on value; messages queued or open are lost. The words of
the store become free again (R37), and the commands that wait go on waiting. -/
def execPowerOn (s : State) : Answer :=
  .next { State.reset with
    store := { cells := [], powerOns := s.store.powerOns + 1 }
    pending := s.pending }

/-- The rig at RESTART (R54, R74, R94, R135, R159, R178). -/
def Rig.restarted (r : Rig) : Rig :=
  { r with
    library := r.library.restarted
    decks := r.decks.restarted
    order := r.order.restarted
    delay := r.delay.restarted
    alerts := r.alerts.restarted
    airSwitch := r.airSwitch.restarted
    monitors := r.monitors.restarted }

/-- Every deck's output is silence in the form of an EMPTY deck (R36, R60, R74). -/
def Outputs.decksSilent (o : Outputs) : Outputs := { o with decks := Vector.replicate 6 (.mono 0) }

/-- RESTART (R199): the reply is queued first, and then every block takes its restart values; the calls are
released after it (R114). The deck routes are silent from the next frame event on (R36, R74), so what the decks have
completed is lost; that what every other block has completed is kept is the model's choice
(notes/assumptions/30.md). -/
def execRestart (tag : Tag) (s : State) : Answer :=
  .next (s.take 1 fun s =>
    let replied := s.reply tag .restart .done []
    ({ replied with
      mix := replied.mix.restarted
      rig := replied.rig.restarted
      completed := replied.completed.decksSilent
      taken := replied.taken.decksSilent }).restartCallers)

/-- The data of STATUS_READ (R198). -/
def State.statusData (s : State) : List Nat :=
  [1814, 1, s.trunk.lock.code, s.clock.source.code, s.clock.seconds, Bool.code s.clock.timeValid,
   s.rig.airSwitch.owner.code, s.rig.delay.state.code, Bool.code s.rig.delay.safe,
   s.link.active.code, Bool.code s.rig.egress.reportsDropped, Bool.code s.rig.egress.requestsDropped]

/-- Both dropped flags are cleared, after they are copied into the reply (R198). -/
def State.clearDropped (s : State) : State :=
  s.onRig fun r => { r with egress := { r.egress with
    reportsDropped := false, requestsDropped := false } }

/-- STATUS_READ (R198). -/
def execStatusRead (tag : Tag) (s : State) : Answer :=
  .next (s.take 1 fun s => (s.reply tag .statusRead .done s.statusData).clearDropped)

end Sys2Proof.Machine
end

