-- ==== Sys2Proof/Machine/Service.lean ====
section
/-!
DEFINITION. The Service Channel Interface (chapter 11): the field orders of the requests, the assembling of a
message, its checks, and the commands SERVICE_WORD and BAD_MESSAGE.
-/

namespace Sys2Proof.Machine

/-! ### Field orders (R201) -/

/-- A wide field's two words: the high part is at most 3 (R196, check 5). -/
def wideOf (high low : Nat) : Option Nat := if high ≤ 3 then some (high * 1073741824 + low) else none

/-- The `i`-th optional field: present by its bit of P, or else carried and ignored. -/
def present (p i v : Nat) : Option Nat := if p.testBit i then some v else none

/-- An optional wide field. -/
def presentWide (p i high low : Nat) : Option (Option Nat) :=
  if p.testBit i then (wideOf high low).map some else some none

def fields0 (i : Instr) : List Nat → Option Instr
  | [] => some i
  | _ => none

def fields1 (f : Nat → Instr) : List Nat → Option Instr
  | [a] => some (f a)
  | _ => none

def fields2 (f : Nat → Nat → Instr) : List Nat → Option Instr
  | [a, b] => some (f a b)
  | _ => none

def fields3 (f : Nat → Nat → Nat → Instr) : List Nat → Option Instr
  | [a, b, c] => some (f a b c)
  | _ => none

def fields5 (f : Nat → Nat → Nat → Nat → Nat → Instr) : List Nat → Option Instr
  | [a, b, c, d, e] => some (f a b c d e)
  | _ => none

def fields8 (f : Nat → Nat → Nat → Nat → Nat → Nat → Nat → Nat → Instr) : List Nat → Option Instr
  | [a, b, c, d, e, g, h, i] => some (f a b c d e g h i)
  | _ => none

/-- A list of items of two fields, as many as its count. -/
def items2 : Nat → List Nat → Option (List (Nat × Nat))
  | 0, [] => some []
  | n + 1, a :: b :: rest => (items2 n rest).map ((a, b) :: ·)
  | _, _ => none

/-- A list of items of three fields, as many as its count (CALL_SETUP). -/
def lineItems : Nat → List Nat → Option (List LineFields)
  | 0, [] => some []
  | n + 1, a :: b :: c :: rest =>
    (lineItems n rest).map ({ line := a, inLane := b, returnGain := c } :: ·)
  | _, _ => none

/-- A list of items of one field, as many as its count. -/
def items1 (n : Nat) (fs : List Nat) : Option (List Nat) := if fs.length = n then some fs else none

def outmapFields (tag : Tag) : List Nat → Option Instr
  | n :: rest => (items2 n rest).map (.outmapSet tag)
  | _ => none

def cartMarksFields (tag : Tag) : List Nat → Option Instr
  | [p, cart, ih, il, oh, ol, nh, nl, sh, sl] =>
    match wideOf ih il, wideOf oh ol, presentWide p 0 nh nl, presentWide p 1 sh sl with
    | some cueIn, some cueOut, some intro, some segue =>
      some (.cartMarks tag cart cueIn cueOut intro segue)
    | _, _, _, _ => none
  | _ => none

/-- The fields that ORDER_APPEND and ORDER_INSERT share. -/
def entryFields : List Nat → Option (EntryFields × List Nat)
  | p :: tag :: cart :: mode :: start :: gain :: fade :: oh :: ol :: rest =>
    (presentWide p 3 oh ol).map fun o =>
      ({ tag := tag, cart := cart, mode := mode, startTime := present p 0 start
         gain := present p 1 gain, fadeMs := present p 2 fade, segueOverride := o }, rest)
  | _ => none

def appendFields (tag : Tag) (fs : List Nat) : Option Instr :=
  match entryFields fs with
  | some (e, []) => some (.orderAppend tag e)
  | _ => none

def insertFields (tag : Tag) (fs : List Nat) : Option Instr :=
  match entryFields fs with
  | some (e, [before]) => some (.orderInsert tag e before)
  | _ => none

def callSetupFields (tag : Tag) : List Nat → Option Instr
  | p :: limit :: hold :: n :: rest =>
    (lineItems n rest).map (.callSetup tag (present p 0 limit) (present p 1 hold))
  | _ => none

def delaySetupFields (tag : Tag) : List Nat → Option Instr
  | [p, t, q, b, c] =>
    some (.delaySetup tag (present p 0 t) (present p 1 q) (present p 2 b) (present p 3 c))
  | _ => none

def noticeFields (tag : Tag) : List Nat → Option Instr
  | o :: i :: cls :: severity :: issue :: duration :: lane :: lh :: ll :: n :: rest =>
    match wideOf lh ll, items1 n rest with
    | some length, some areas =>
      some (.alertNotice tag { originator := o, identity := i, eventClass := cls
                               severity := severity, issueTime := issue, validDuration := duration
                               audioLane := lane, declaredLength := length, areas := areas })
    | _, _ => none
  | _ => none

def filterFields (tag : Tag) : List Nat → Option Instr
  | p :: index :: cls :: severity :: action :: window :: expiry :: leadIn :: leadOut :: n :: rest =>
    (items1 n rest).map fun areas =>
      .filterSet tag { index := index, eventClass := cls, minSeverity := severity, action := action
                       confirmWindow := present p 0 window, expiryAction := expiry
                       leadIn := present p 1 leadIn, leadOut := present p 2 leadOut, areas := areas }
  | _ => none

def airFields (tag : Tag) : List Nat → Option Instr
  | [p, cart, enable, fade] =>
    some (.airSetup tag (present p 0 cart) (present p 1 enable) (present p 2 fade))
  | _ => none

def monitorFields (tag : Tag) : List Nat → Option Instr
  | [p, setting, mode, threshold, warn, fault, hold, restore, scope] =>
    some (.monitorSet tag setting
      { mode := present p 0 mode, threshold := present p 1 threshold, warn := present p 2 warn
        fault := present p 3 fault, hold := present p 4 hold, restore := present p 5 restore
        scope := present p 6 scope })
  | _ => none

def linkFields (tag : Tag) : List Nat → Option Instr
  | [p, length, timeout, lag, revertive, hold, preferred] =>
    some (.linkSetup tag
      { blockLength := present p 0 length, timeoutMs := present p 1 timeout, lagLimit := present p 2 lag
        revertive := present p 3 revertive, revertHold := present p 4 hold
        preferred := present p 5 preferred })
  | _ => none

/-- The request that a kind, a tag and the NEXT payloads spell; `none` when they do not suit the kind's
field order (R196, check 5; R201). -/
def decodeRequest (kind : RequestKind) (tag : Tag) (fs : List Nat) : Option Instr :=
  match kind with
  | .statusRead => fields0 (.statusRead tag) fs
  | .timeSet => fields1 (.timeSet tag) fs
  | .restart => fields0 (.restart tag) fs
  | .routeSet => fields8 (.routeSet tag) fs
  | .routeGain => fields3 (.routeGain tag) fs
  | .routeClear => fields2 (.routeClear tag) fs
  | .routeRead => fields1 (.routeRead tag) fs
  | .duckSet => fields5 (.duckSet tag) fs
  | .outmapSet => outmapFields tag fs
  | .regionSet => fields3 (.regionSet tag) fs
  | .cartDefine => fields5 (.cartDefine tag) fs
  | .cartDelete => fields1 (.cartDelete tag) fs
  | .cartMarks => cartMarksFields tag fs
  | .cartRecord => fields3 (.cartRecord tag) fs
  | .cartRecordStop => fields1 (.cartRecordStop tag) fs
  | .cartRead => fields1 (.cartRead tag) fs
  | .deckStart => fields1 (.deckStart tag) fs
  | .deckFade => fields1 (.deckFade tag) fs
  | .deckCut => fields1 (.deckCut tag) fs
  | .deckPause => fields1 (.deckPause tag) fs
  | .deckResume => fields1 (.deckResume tag) fs
  | .deckRead => fields1 (.deckRead tag) fs
  | .orderAppend => appendFields tag fs
  | .orderInsert => insertFields tag fs
  | .orderRemove => fields1 (.orderRemove tag) fs
  | .orderClear => fields0 (.orderClear tag) fs
  | .orderNext => fields0 (.orderNext tag) fs
  | .orderHold => fields0 (.orderHold tag) fs
  | .orderRun => fields0 (.orderRun tag) fs
  | .orderRead => fields1 (.orderRead tag) fs
  | .callAnswer => fields1 (.callAnswer tag) fs
  | .callReady => fields1 (.callReady tag) fs
  | .callTake => fields1 (.callTake tag) fs
  | .callPark => fields1 (.callPark tag) fs
  | .callDrop => fields1 (.callDrop tag) fs
  | .callSetup => callSetupFields tag fs
  | .lineRead => fields1 (.lineRead tag) fs
  | .lineRing => fields2 (.lineRing tag) fs
  | .lineConnected => fields2 (.lineConnected tag) fs
  | .lineHangup => fields2 (.lineHangup tag) fs
  | .delaySetup => delaySetupFields tag fs
  | .delayStart => fields0 (.delayStart tag) fs
  | .delayExit => fields0 (.delayExit tag) fs
  | .delayDump => fields0 (.delayDump tag) fs
  | .delayRead => fields0 (.delayRead tag) fs
  | .alertNotice => noticeFields tag fs
  | .alertAudioEnd => fields2 (.alertAudioEnd tag) fs
  | .alertCancel => fields2 (.alertCancel tag) fs
  | .alertConfirm => fields1 (.alertConfirm tag) fs
  | .alertDecline => fields1 (.alertDecline tag) fs
  | .alertAbort => fields1 (.alertAbort tag) fs
  | .alertForget => fields1 (.alertForget tag) fs
  | .alertRead => fields1 (.alertRead tag) fs
  | .filterSet => filterFields tag fs
  | .filterClear => fields1 (.filterClear tag) fs
  | .airSetup => airFields tag fs
  | .monitorSet => monitorFields tag fs
  | .monitorClear => fields2 (.monitorClear tag) fs
  | .monitorRead => fields2 (.monitorRead tag) fs
  | .linkSetup => linkFields tag fs
  | .linkSelect => fields2 (.linkSelect tag) fs
  | .linkRead => fields0 (.linkRead tag) fs

/-- A request is carried out by the block that owns its kind (R196). An event of the part is no request. -/
def carryOut (i : Instr) (s : State) : Answer :=
  match i with
  | .statusRead tag => execStatusRead tag s
  | .timeSet tag a => execTimeSet tag a s
  | .restart tag => execRestart tag s
  | .routeSet tag a b c d e f g h => execRouteSet tag a b c d e f g h s
  | .routeGain tag a b c => execRouteGain tag a b c s
  | .routeClear tag a b => execRouteClear tag a b s
  | .routeRead tag a => execRouteRead tag a s
  | .duckSet tag a b c d e => execDuckSet tag a b c d e s
  | .outmapSet tag items => execOutmapSet tag items s
  | .regionSet tag a b c => execRegionSet tag a b c s
  | .cartDefine tag a b c d e => execCartDefine tag a b c d e s
  | .cartDelete tag a => execCartDelete tag a s
  | .cartMarks tag a b c d e => execCartMarks tag a b c d e s
  | .cartRecord tag a b c => execCartRecord tag a b c s
  | .cartRecordStop tag a => execCartRecordStop tag a s
  | .cartRead tag a => execCartRead tag a s
  | .deckStart tag a => execDeckStart tag a s
  | .deckFade tag a => execDeckFade tag a s
  | .deckCut tag a => execDeckCut tag a s
  | .deckPause tag a => execDeckPause tag a s
  | .deckResume tag a => execDeckResume tag a s
  | .deckRead tag a => execDeckRead tag a s
  | .orderAppend tag e => execOrderAppend tag e s
  | .orderInsert tag e b => execOrderInsert tag e b s
  | .orderRemove tag a => execOrderRemove tag a s
  | .orderClear tag => execOrderClear tag s
  | .orderNext tag => execOrderNext tag s
  | .orderHold tag => execOrderHold tag s
  | .orderRun tag => execOrderRun tag s
  | .orderRead tag a => execOrderRead tag a s
  | .callAnswer tag a => execCallAnswer tag a s
  | .callReady tag a => execCallReady tag a s
  | .callTake tag a => execCallTake tag a s
  | .callPark tag a => execCallPark tag a s
  | .callDrop tag a => execCallDrop tag a s
  | .callSetup tag a b items => execCallSetup tag a b items s
  | .lineRead tag a => execLineRead tag a s
  | .lineRing tag a b => execLineRing tag a b s
  | .lineConnected tag a b => execLineConnected tag a b s
  | .lineHangup tag a b => execLineHangup tag a b s
  | .delaySetup tag a b c d => execDelaySetup tag a b c d s
  | .delayStart tag => execDelayStart tag s
  | .delayExit tag => execDelayExit tag s
  | .delayDump tag => execDelayDump tag s
  | .delayRead tag => execDelayRead tag s
  | .alertNotice tag n => execAlertNotice tag n s
  | .alertAudioEnd tag a b => execAlertAudioEnd tag a b s
  | .alertCancel tag a b => execAlertCancel tag a b s
  | .alertConfirm tag a => execAlertConfirm tag a s
  | .alertDecline tag a => execAlertDecline tag a s
  | .alertAbort tag a => execAlertAbort tag a s
  | .alertForget tag a => execAlertForget tag a s
  | .alertRead tag a => execAlertRead tag a s
  | .filterSet tag f => execFilterSet tag f s
  | .filterClear tag a => execFilterClear tag a s
  | .airSetup tag a b c => execAirSetup tag a b c s
  | .monitorSet tag a f => execMonitorSet tag a f s
  | .monitorClear tag a b => execMonitorClear tag a b s
  | .monitorRead tag a b => execMonitorRead tag a b s
  | .linkSetup tag f => execLinkSetup tag f s
  | .linkSelect tag a b => execLinkSelect tag a b s
  | .linkRead tag => execLinkRead tag s
  | _ => .next s

/-! ### The open message (R194, R195) -/

/-- The word code and payload of a service word (R200). -/
def wordCode (w : Word32) : Nat := w.toNat / 1073741824
def wordPayload (w : Word32) : Nat := w.toNat % 1073741824

/-- The class of a FIRST payload (R200). -/
def headerClass (payload : Nat) : Nat := payload / 134217728

/-- A message opens with a header; the sum is set to its payload (R195, R200). -/
def openWith (payload : Nat) : OpenMessage :=
  { cls := headerClass payload
    kind := payload / 524288 % 256
    tag := BitVec.ofNat 8 (payload / 2048)
    count := payload / 32 % 64
    fields := []
    sum := payload }

/-- The message with a NEXT payload kept and added (R195). -/
def OpenMessage.extended (m : OpenMessage) (payload : Nat) : OpenMessage :=
  { m with fields := m.fields ++ [payload], sum := m.sum + payload }

/-- A reply raised by the Service Channel Interface itself, addressed to the message's class, or to CONSOLE
for a class that is no sender (R195 to R197). That CONSOLE also has the BADFORM or BADCHECK of R196's checks 1 and 2
for such a class is the model's choice: R196 says so for check 3 alone (notes/assumptions/6.md). -/
def State.rejectMessage (s : State) (m : OpenMessage) (status : Status) : State :=
  ({ s with inbound := none }).onRig (·.command
    (.reply ((party? m.cls).getD .console) m.tag m.kind status []))

/-- The open message is discarded with reply BADFORM (R195); nothing when none is open. -/
def State.badForm (s : State) : State :=
  match s.inbound with
  | none => s
  | some m => s.rejectMessage m .badForm

/-! ### The closing message (R196) -/

/-- The checks of a closing message, in order (R196). -/
def OpenMessage.judged (m : OpenMessage) (payload : Nat) : Except Status Instr := do
  refuse .badForm (m.fields.length < m.count)
  refuse .badCheck (payload % 65536 != m.sum % 65536 || payload / 65536 != 0)
  let party ← require .unknown (party? m.cls)
  let kind ← require .unknown (requestKind? m.kind)
  refuse .denied (kind.sender != party)
  require .badForm (decodeRequest kind m.tag m.fields)

/-- A LAST word: the open message closes and is judged (R195, R196). -/
def State.lastWord (s : State) (payload : Nat) : Answer :=
  match s.inbound with
  | none => .next s
  | some m => match m.judged payload with
    | .error status => .next (s.rejectMessage m status)
    | .ok i => carryOut i s

/-- A FIRST word (R195). -/
def State.firstWord (s : State) (payload : Nat) : State :=
  let cleared := s.badForm
  if headerClass payload = 7 then cleared else { cleared with inbound := some (openWith payload) }

/-- A NEXT word (R195). -/
def State.nextWord (s : State) (payload : Nat) : State :=
  match s.inbound with
  | none => s
  | some m =>
    if m.fields.length < m.count then { s with inbound := some (m.extended payload) }
    else s.rejectMessage m .badForm

/-- SERVICE_WORD (R194, R195): a word that the receiver hands on; every other is discarded (R1). -/
def execServiceWord (w : Word32) (s : State) : Answer :=
  if !s.trunk.handsWord then .next s
  else match wordCode w with
    | 0 => .next s.badForm
    | 1 => .next (s.firstWord (wordPayload w))
    | 2 => .next (s.nextWord (wordPayload w))
    | _ => s.lastWord (wordPayload w)

/-- BAD_MESSAGE (R196): the LAST word with this payload closes the open message, which fails a check; a
message that passes is no bad message. -/
def execBadMessage (payload : BitVec 30) (s : State) : Answer :=
  if !s.trunk.handsWord then .next s
  else match s.inbound with
    | none => .next s
    | some m => match m.judged payload.toNat with
      | .error status => .next (s.rejectMessage m status)
      | .ok _ => .next s

end Sys2Proof.Machine
end

