-- ==== Sys2Proof/Machine/Dispatch.lean ====
section
/-!
DEFINITION. The one match from a command to its meaning.
-/

namespace Sys2Proof.Machine

def exec (i : Instr) (s : State) : Host.Outcome State Fault Refusal :=
  match i with
  | .powerOn => Sys2Proof.Machine.execPowerOn s
  | .activitySeen => Sys2Proof.Machine.execActivitySeen s
  | .activityCeases => Sys2Proof.Machine.execActivityCeases s
  | .alignmentFound => Sys2Proof.Machine.execAlignmentFound s
  | .alignedFrame lanes => Sys2Proof.Machine.execAlignedFrame lanes s
  | .failedPosition => Sys2Proof.Machine.execFailedPosition s
  | .settlingFailure => Sys2Proof.Machine.execSettlingFailure s
  | .lockEvent => Sys2Proof.Machine.execLockEvent s
  | .frameLoss => Sys2Proof.Machine.execFrameLoss s
  | .stationClockFrame => Sys2Proof.Machine.execStationClockFrame s
  | .secondAdvance => Sys2Proof.Machine.execSecondAdvance s
  | .timeReached entryTag => Sys2Proof.Machine.execTimeReached entryTag s
  | .validityExpiry record => Sys2Proof.Machine.execValidityExpiry record s
  | .windowExpiry record => Sys2Proof.Machine.execWindowExpiry record s
  | .mixFrame => Sys2Proof.Machine.execMixFrame s
  | .routeRampEnd route => Sys2Proof.Machine.execRouteRampEnd route s
  | .gateRampEnd route => Sys2Proof.Machine.execGateRampEnd route s
  | .voiceHoldExpiry => Sys2Proof.Machine.execVoiceHoldExpiry s
  | .transmitFrame => Sys2Proof.Machine.execTransmitFrame s
  | .deckFrame deck => Sys2Proof.Machine.execDeckFrame deck s
  | .prefetchComplete deck => Sys2Proof.Machine.execPrefetchComplete deck s
  | .autoFadeStart deck => Sys2Proof.Machine.execAutoFadeStart deck s
  | .segueEvent deck => Sys2Proof.Machine.execSegueEvent deck s
  | .playEnd deck => Sys2Proof.Machine.execPlayEnd deck s
  | .fadeEnd deck => Sys2Proof.Machine.execFadeEnd deck s
  | .recorderFrame recorder => Sys2Proof.Machine.execRecorderFrame recorder s
  | .cartRecordingFull recorder => Sys2Proof.Machine.execCartRecordingFull recorder s
  | .alertDeclaredLength recorder => Sys2Proof.Machine.execAlertDeclaredLength recorder s
  | .alertSlotFull recorder => Sys2Proof.Machine.execAlertSlotFull recorder s
  | .delayFrame => Sys2Proof.Machine.execDelayFrame s
  | .targetLanding => Sys2Proof.Machine.execTargetLanding s
  | .bypassReached => Sys2Proof.Machine.execBypassReached s
  | .delayOverrun => Sys2Proof.Machine.execDelayOverrun s
  | .dumpCrossfadeEnd => Sys2Proof.Machine.execDumpCrossfadeEnd s
  | .switchFrame => Sys2Proof.Machine.execSwitchFrame s
  | .crossfadeEnd => Sys2Proof.Machine.execCrossfadeEnd s
  | .monitorFrame => Sys2Proof.Machine.execMonitorFrame s
  | .monitorBlockEnd => Sys2Proof.Machine.execMonitorBlockEnd s
  | .lineQuietFault line => Sys2Proof.Machine.execLineQuietFault line s
  | .lineOverloadChange => Sys2Proof.Machine.execLineOverloadChange s
  | .answerTimerExpiry line => Sys2Proof.Machine.execAnswerTimerExpiry line s
  | .linkFrame => Sys2Proof.Machine.execLinkFrame s
  | .linkBlockComplete => Sys2Proof.Machine.execLinkBlockComplete s
  | .siteReport port word0 word1 word2 => Sys2Proof.Machine.execSiteReport port word0 word1 word2 s
  | .heartbeatExpiry port => Sys2Proof.Machine.execHeartbeatExpiry port s
  | .revertiveReturn => Sys2Proof.Machine.execRevertiveReturn s
  | .serviceWord word => Sys2Proof.Machine.execServiceWord word s
  | .badMessage payload => Sys2Proof.Machine.execBadMessage payload s
  | .statusRead tag => Sys2Proof.Machine.execStatusRead tag s
  | .timeSet tag seconds => Sys2Proof.Machine.execTimeSet tag seconds s
  | .restart tag => Sys2Proof.Machine.execRestart tag s
  | .routeSet tag index sourceKind sourceNumber destination gain exponent voice duckable => Sys2Proof.Machine.execRouteSet tag index sourceKind sourceNumber destination gain exponent voice duckable s
  | .routeGain tag index gain exponent => Sys2Proof.Machine.execRouteGain tag index gain exponent s
  | .routeClear tag index exponent => Sys2Proof.Machine.execRouteClear tag index exponent s
  | .routeRead tag index => Sys2Proof.Machine.execRouteRead tag index s
  | .duckSet tag depth attack release threshold hold => Sys2Proof.Machine.execDuckSet tag depth attack release threshold hold s
  | .outmapSet tag items => Sys2Proof.Machine.execOutmapSet tag items s
  | .regionSet tag region startPage pageCount => Sys2Proof.Machine.execRegionSet tag region startPage pageCount s
  | .cartDefine tag cart startPage pageCount form cls => Sys2Proof.Machine.execCartDefine tag cart startPage pageCount form cls s
  | .cartDelete tag cart => Sys2Proof.Machine.execCartDelete tag cart s
  | .cartMarks tag cart cueIn cueOut intro segue => Sys2Proof.Machine.execCartMarks tag cart cueIn cueOut intro segue s
  | .cartRecord tag cart sourceKind sourceNumber => Sys2Proof.Machine.execCartRecord tag cart sourceKind sourceNumber s
  | .cartRecordStop tag cart => Sys2Proof.Machine.execCartRecordStop tag cart s
  | .cartRead tag cart => Sys2Proof.Machine.execCartRead tag cart s
  | .deckStart tag deck => Sys2Proof.Machine.execDeckStart tag deck s
  | .deckFade tag deck => Sys2Proof.Machine.execDeckFade tag deck s
  | .deckCut tag deck => Sys2Proof.Machine.execDeckCut tag deck s
  | .deckPause tag deck => Sys2Proof.Machine.execDeckPause tag deck s
  | .deckResume tag deck => Sys2Proof.Machine.execDeckResume tag deck s
  | .deckRead tag deck => Sys2Proof.Machine.execDeckRead tag deck s
  | .orderAppend tag entry => Sys2Proof.Machine.execOrderAppend tag entry s
  | .orderInsert tag entry before => Sys2Proof.Machine.execOrderInsert tag entry before s
  | .orderRemove tag entryTag => Sys2Proof.Machine.execOrderRemove tag entryTag s
  | .orderClear tag => Sys2Proof.Machine.execOrderClear tag s
  | .orderNext tag => Sys2Proof.Machine.execOrderNext tag s
  | .orderHold tag => Sys2Proof.Machine.execOrderHold tag s
  | .orderRun tag => Sys2Proof.Machine.execOrderRun tag s
  | .orderRead tag position => Sys2Proof.Machine.execOrderRead tag position s
  | .callAnswer tag line => Sys2Proof.Machine.execCallAnswer tag line s
  | .callReady tag line => Sys2Proof.Machine.execCallReady tag line s
  | .callTake tag line => Sys2Proof.Machine.execCallTake tag line s
  | .callPark tag line => Sys2Proof.Machine.execCallPark tag line s
  | .callDrop tag line => Sys2Proof.Machine.execCallDrop tag line s
  | .callSetup tag limit holdGain items => Sys2Proof.Machine.execCallSetup tag limit holdGain items s
  | .lineRead tag line => Sys2Proof.Machine.execLineRead tag line s
  | .lineRing tag line callRef => Sys2Proof.Machine.execLineRing tag line callRef s
  | .lineConnected tag line callRef => Sys2Proof.Machine.execLineConnected tag line callRef s
  | .lineHangup tag line callRef => Sys2Proof.Machine.execLineHangup tag line callRef s
  | .delaySetup tag target dumpLength buildSlip catchupSlip => Sys2Proof.Machine.execDelaySetup tag target dumpLength buildSlip catchupSlip s
  | .delayStart tag => Sys2Proof.Machine.execDelayStart tag s
  | .delayExit tag => Sys2Proof.Machine.execDelayExit tag s
  | .delayDump tag => Sys2Proof.Machine.execDelayDump tag s
  | .delayRead tag => Sys2Proof.Machine.execDelayRead tag s
  | .alertNotice tag notice => Sys2Proof.Machine.execAlertNotice tag notice s
  | .alertAudioEnd tag originator identity => Sys2Proof.Machine.execAlertAudioEnd tag originator identity s
  | .alertCancel tag originator identity => Sys2Proof.Machine.execAlertCancel tag originator identity s
  | .alertConfirm tag record => Sys2Proof.Machine.execAlertConfirm tag record s
  | .alertDecline tag record => Sys2Proof.Machine.execAlertDecline tag record s
  | .alertAbort tag record => Sys2Proof.Machine.execAlertAbort tag record s
  | .alertForget tag record => Sys2Proof.Machine.execAlertForget tag record s
  | .alertRead tag record => Sys2Proof.Machine.execAlertRead tag record s
  | .filterSet tag filter => Sys2Proof.Machine.execFilterSet tag filter s
  | .filterClear tag index => Sys2Proof.Machine.execFilterClear tag index s
  | .airSetup tag cart enable fadeMs => Sys2Proof.Machine.execAirSetup tag cart enable fadeMs s
  | .monitorSet tag setting fields => Sys2Proof.Machine.execMonitorSet tag setting fields s
  | .monitorClear tag setting line => Sys2Proof.Machine.execMonitorClear tag setting line s
  | .monitorRead tag setting line => Sys2Proof.Machine.execMonitorRead tag setting line s
  | .linkSetup tag fields => Sys2Proof.Machine.execLinkSetup tag fields s
  | .linkSelect tag port force => Sys2Proof.Machine.execLinkSelect tag port force s
  | .linkRead tag => Sys2Proof.Machine.execLinkRead tag s

end Sys2Proof.Machine
end

