-- ==== Sys2Proof/Machine/Messages.lean ====
section
/-!
DEFINITION. The message that carries a request (R194, R200, R201), as the studio network sends it: the
encoder that answers to the decoder of Service.lean.
-/

namespace Sys2Proof.Machine

/-! ### Fields -/

/-- An absent optional field is still carried, as 0 (R201). -/
def optionalField (v : Option Nat) : Nat := v.getD 0

/-- An absent optional wide field (R201). -/
def optionalWide (v : Option Nat) : List Nat := wide (v.getD 0)

/-- The presence field P: bit `i` marks the `i`-th optional field (R201). -/
def presence : List (Option Nat) → Nat
  | [] => 0
  | v :: rest => (if v.isSome then 1 else 0) + 2 * presence rest

def EntryFields.fields (e : EntryFields) : List Nat :=
  [presence [e.startTime, e.gain, e.fadeMs, e.segueOverride], e.tag, e.cart, e.mode,
   optionalField e.startTime, optionalField e.gain, optionalField e.fadeMs] ++
    optionalWide e.segueOverride

def NoticeFields.fields (f : NoticeFields) : List Nat :=
  [f.originator, f.identity, f.eventClass, f.severity, f.issueTime, f.validDuration, f.audioLane] ++
    wide f.declaredLength ++ f.areas.length :: f.areas

def FilterFields.fields (f : FilterFields) : List Nat :=
  [presence [f.confirmWindow, f.leadIn, f.leadOut], f.index, f.eventClass, f.minSeverity, f.action,
   optionalField f.confirmWindow, f.expiryAction, optionalField f.leadIn, optionalField f.leadOut,
   f.areas.length] ++ f.areas

def MonitorFields.fields (setting : Nat) (f : MonitorFields) : List Nat :=
  [presence [f.mode, f.threshold, f.warn, f.fault, f.hold, f.restore, f.scope], setting,
   optionalField f.mode, optionalField f.threshold, optionalField f.warn, optionalField f.fault,
   optionalField f.hold, optionalField f.restore, optionalField f.scope]

def LinkFields.fields (f : LinkFields) : List Nat :=
  [presence [f.blockLength, f.timeoutMs, f.lagLimit, f.revertive, f.revertHold, f.preferred],
   optionalField f.blockLength, optionalField f.timeoutMs, optionalField f.lagLimit,
   optionalField f.revertive, optionalField f.revertHold, optionalField f.preferred]

/-- The fields of a list of two-field items. -/
def pairFields : List (Nat × Nat) → List Nat
  | [] => []
  | (a, b) :: rest => a :: b :: pairFields rest

/-- The fields of CALL_SETUP's items. -/
def lineFieldsOf : List LineFields → List Nat
  | [] => []
  | f :: rest => f.line :: f.inLane :: f.returnGain :: lineFieldsOf rest

/-- A request as its message carries it: its kind, its tag and its fields in order (R201); `none` for an
event of the part. -/
def encodeRequest : Instr → Option (RequestKind × Tag × List Nat)
  | .statusRead tag => some (.statusRead, tag, [])
  | .timeSet tag seconds => some (.timeSet, tag, [seconds])
  | .restart tag => some (.restart, tag, [])
  | .routeSet tag index kind number destination gain exponent voice duckable =>
    some (.routeSet, tag, [index, kind, number, destination, gain, exponent, voice, duckable])
  | .routeGain tag index gain exponent => some (.routeGain, tag, [index, gain, exponent])
  | .routeClear tag index exponent => some (.routeClear, tag, [index, exponent])
  | .routeRead tag index => some (.routeRead, tag, [index])
  | .duckSet tag depth attack release threshold hold =>
    some (.duckSet, tag, [depth, attack, release, threshold, hold])
  | .outmapSet tag items => some (.outmapSet, tag, items.length :: pairFields items)
  | .regionSet tag region start pages => some (.regionSet, tag, [region, start, pages])
  | .cartDefine tag cart start pages form cls =>
    some (.cartDefine, tag, [cart, start, pages, form, cls])
  | .cartDelete tag cart => some (.cartDelete, tag, [cart])
  | .cartMarks tag cart cueIn cueOut intro segue =>
    some (.cartMarks, tag, presence [intro, segue] :: cart :: wide cueIn ++ wide cueOut ++
      optionalWide intro ++ optionalWide segue)
  | .cartRecord tag cart kind number => some (.cartRecord, tag, [cart, kind, number])
  | .cartRecordStop tag cart => some (.cartRecordStop, tag, [cart])
  | .cartRead tag cart => some (.cartRead, tag, [cart])
  | .deckStart tag deck => some (.deckStart, tag, [deck])
  | .deckFade tag deck => some (.deckFade, tag, [deck])
  | .deckCut tag deck => some (.deckCut, tag, [deck])
  | .deckPause tag deck => some (.deckPause, tag, [deck])
  | .deckResume tag deck => some (.deckResume, tag, [deck])
  | .deckRead tag deck => some (.deckRead, tag, [deck])
  | .orderAppend tag entry => some (.orderAppend, tag, EntryFields.fields entry)
  | .orderInsert tag entry before =>
    some (.orderInsert, tag, EntryFields.fields entry ++ [before])
  | .orderRemove tag entryTag => some (.orderRemove, tag, [entryTag])
  | .orderClear tag => some (.orderClear, tag, [])
  | .orderNext tag => some (.orderNext, tag, [])
  | .orderHold tag => some (.orderHold, tag, [])
  | .orderRun tag => some (.orderRun, tag, [])
  | .orderRead tag position => some (.orderRead, tag, [position])
  | .callAnswer tag line => some (.callAnswer, tag, [line])
  | .callReady tag line => some (.callReady, tag, [line])
  | .callTake tag line => some (.callTake, tag, [line])
  | .callPark tag line => some (.callPark, tag, [line])
  | .callDrop tag line => some (.callDrop, tag, [line])
  | .callSetup tag limit holdGain items =>
    some (.callSetup, tag, [presence [limit, holdGain], optionalField limit, optionalField holdGain,
      items.length] ++ lineFieldsOf items)
  | .lineRead tag line => some (.lineRead, tag, [line])
  | .lineRing tag line callRef => some (.lineRing, tag, [line, callRef])
  | .lineConnected tag line callRef => some (.lineConnected, tag, [line, callRef])
  | .lineHangup tag line callRef => some (.lineHangup, tag, [line, callRef])
  | .delaySetup tag target dump build catchup =>
    some (.delaySetup, tag, [presence [target, dump, build, catchup], optionalField target,
      optionalField dump, optionalField build, optionalField catchup])
  | .delayStart tag => some (.delayStart, tag, [])
  | .delayExit tag => some (.delayExit, tag, [])
  | .delayDump tag => some (.delayDump, tag, [])
  | .delayRead tag => some (.delayRead, tag, [])
  | .alertNotice tag notice => some (.alertNotice, tag, NoticeFields.fields notice)
  | .alertAudioEnd tag originator identity => some (.alertAudioEnd, tag, [originator, identity])
  | .alertCancel tag originator identity => some (.alertCancel, tag, [originator, identity])
  | .alertConfirm tag record => some (.alertConfirm, tag, [record])
  | .alertDecline tag record => some (.alertDecline, tag, [record])
  | .alertAbort tag record => some (.alertAbort, tag, [record])
  | .alertForget tag record => some (.alertForget, tag, [record])
  | .alertRead tag record => some (.alertRead, tag, [record])
  | .filterSet tag filter => some (.filterSet, tag, FilterFields.fields filter)
  | .filterClear tag index => some (.filterClear, tag, [index])
  | .airSetup tag cart enable fadeMs =>
    some (.airSetup, tag, [presence [cart, enable, fadeMs], optionalField cart, optionalField enable,
      optionalField fadeMs])
  | .monitorSet tag setting fields => some (.monitorSet, tag, MonitorFields.fields setting fields)
  | .monitorClear tag setting line => some (.monitorClear, tag, [setting, line])
  | .monitorRead tag setting line => some (.monitorRead, tag, [setting, line])
  | .linkSetup tag fields => some (.linkSetup, tag, LinkFields.fields fields)
  | .linkSelect tag port force => some (.linkSelect, tag, [port, force])
  | .linkRead tag => some (.linkRead, tag, [])
  | .powerOn | .activitySeen | .activityCeases | .alignmentFound | .alignedFrame _ | .failedPosition
  | .settlingFailure | .lockEvent | .frameLoss | .stationClockFrame | .secondAdvance | .timeReached _
  | .validityExpiry _ | .windowExpiry _ | .mixFrame | .routeRampEnd _ | .gateRampEnd _
  | .voiceHoldExpiry | .transmitFrame | .deckFrame _ | .prefetchComplete _ | .autoFadeStart _
  | .segueEvent _ | .playEnd _ | .fadeEnd _ | .recorderFrame _ | .cartRecordingFull _
  | .alertDeclaredLength _ | .alertSlotFull _ | .delayFrame | .targetLanding | .bypassReached
  | .delayOverrun | .dumpCrossfadeEnd | .switchFrame | .crossfadeEnd | .monitorFrame
  | .monitorBlockEnd | .lineQuietFault _ | .lineOverloadChange | .answerTimerExpiry _ | .linkFrame
  | .linkBlockComplete | .siteReport _ _ _ _ | .heartbeatExpiry _ | .revertiveReturn
  | .serviceWord _ | .badMessage _ => none

/-! ### Words -/

/-- The FIRST payload of a request's message (R200). -/
def requestHeader (kind : RequestKind) (tag : Tag) (fields : List Nat) : Nat :=
  kind.sender.code * 134217728 + kind.code * 524288 + tag.toNat * 2048 + fields.length * 32

/-- The service words of a request: FIRST, each NEXT, LAST (R194, R200). -/
def messageWords (kind : RequestKind) (tag : Tag) (fields : List Nat) : List Word32 :=
  serviceWordOf 1 (requestHeader kind tag fields) :: fields.map (serviceWordOf 2) ++
    [serviceWordOf 3 (checkOf (requestHeader kind tag fields) fields)]

/-- Service words taken one after another, each as an event of its own (R195); the first that does not give
a next state stops the run. -/
def takeWords : List Word32 → State → Answer
  | [], s => .next s
  | w :: rest, s => match execServiceWord w s with
    | .next s' => takeWords rest s'
    | other => other

end Sys2Proof.Machine
end

