-- ==== Sys2Proof/WellFormed.lean ====
section
/-!
DEFINITION. Which commands can be sent at all (R194, R200, R201): every field of a request fits its form, and
its fields are at most the 63 that a header can count. Whether a value suits the request is the owner's
check, not this file's. An event carries its operands in types that hold nothing else.
-/

namespace Sys2Proof

/-- A field of one word: a 30-bit payload (R201). -/
def fitsWord (v : Nat) : Bool := v < 1073741824

/-- A wide field: a high part of at most 3 and a remainder (R201). -/
def fitsWide (v : Nat) : Bool := v < 4294967296

def fitsOption (fits : Nat → Bool) : Option Nat → Bool
  | none => true
  | some v => fits v

def EntryFields.wellFormed (e : EntryFields) : Bool :=
  fitsWord e.tag && fitsWord e.cart && fitsWord e.mode && fitsOption fitsWord e.startTime &&
    fitsOption fitsWord e.gain && fitsOption fitsWord e.fadeMs && fitsOption fitsWide e.segueOverride

def LineFields.wellFormed (f : LineFields) : Bool :=
  fitsWord f.line && fitsWord f.inLane && fitsWord f.returnGain

def NoticeFields.wellFormed (f : NoticeFields) : Bool :=
  fitsWord f.originator && fitsWord f.identity && fitsWord f.eventClass && fitsWord f.severity &&
    fitsWord f.issueTime && fitsWord f.validDuration && fitsWord f.audioLane &&
    fitsWide f.declaredLength && f.areas.all fitsWord && f.areas.length ≤ 53

def FilterFields.wellFormed (f : FilterFields) : Bool :=
  fitsWord f.index && fitsWord f.eventClass && fitsWord f.minSeverity && fitsWord f.action &&
    fitsOption fitsWord f.confirmWindow && fitsWord f.expiryAction && fitsOption fitsWord f.leadIn &&
    fitsOption fitsWord f.leadOut && f.areas.all fitsWord && f.areas.length ≤ 53

def MonitorFields.wellFormed (f : MonitorFields) : Bool :=
  fitsOption fitsWord f.mode && fitsOption fitsWord f.threshold && fitsOption fitsWord f.warn &&
    fitsOption fitsWord f.fault && fitsOption fitsWord f.hold && fitsOption fitsWord f.restore &&
    fitsOption fitsWord f.scope

def LinkFields.wellFormed (f : LinkFields) : Bool :=
  fitsOption fitsWord f.blockLength && fitsOption fitsWord f.timeoutMs &&
    fitsOption fitsWord f.lagLimit && fitsOption fitsWord f.revertive &&
    fitsOption fitsWord f.revertHold && fitsOption fitsWord f.preferred

/-- A command that can be sent. -/
def Instr.wellFormed : Instr → Bool
  | .timeReached tag => fitsWord tag
  | .timeSet _ seconds => fitsWord seconds
  | .routeSet _ index kind number destination gain exponent voice duckable =>
    [index, kind, number, destination, gain, exponent, voice, duckable].all fitsWord
  | .routeGain _ index gain exponent => [index, gain, exponent].all fitsWord
  | .routeClear _ index exponent => [index, exponent].all fitsWord
  | .routeRead _ index => fitsWord index
  | .duckSet _ depth attack release threshold hold =>
    [depth, attack, release, threshold, hold].all fitsWord
  | .outmapSet _ items =>
    (items.all fun i => fitsWord i.1 && fitsWord i.2) && items.length ≤ 31
  | .regionSet _ region start pages => [region, start, pages].all fitsWord
  | .cartDefine _ cart start pages form cls => [cart, start, pages, form, cls].all fitsWord
  | .cartMarks _ cart cueIn cueOut intro segue =>
    fitsWord cart && fitsWide cueIn && fitsWide cueOut && fitsOption fitsWide intro &&
      fitsOption fitsWide segue
  | .cartRecord _ cart kind number => [cart, kind, number].all fitsWord
  | .cartDelete _ cart | .cartRecordStop _ cart | .cartRead _ cart => fitsWord cart
  | .deckStart _ deck | .deckFade _ deck | .deckCut _ deck | .deckPause _ deck | .deckResume _ deck
  | .deckRead _ deck => fitsWord deck
  | .orderAppend _ entry => entry.wellFormed
  | .orderInsert _ entry before => entry.wellFormed && fitsWord before
  | .orderRemove _ tag => fitsWord tag
  | .orderRead _ position => fitsWord position
  | .callAnswer _ line | .callReady _ line | .callTake _ line | .callPark _ line | .callDrop _ line
  | .lineRead _ line => fitsWord line
  | .callSetup _ limit holdGain items =>
    fitsOption fitsWord limit && fitsOption fitsWord holdGain && items.all LineFields.wellFormed &&
      items.length ≤ 19
  | .lineRing _ line ref | .lineConnected _ line ref | .lineHangup _ line ref =>
    fitsWord line && fitsWord ref
  | .delaySetup _ target dump build catchup =>
    fitsOption fitsWord target && fitsOption fitsWord dump && fitsOption fitsWord build &&
      fitsOption fitsWord catchup
  | .alertNotice _ notice => notice.wellFormed
  | .alertAudioEnd _ originator identity | .alertCancel _ originator identity =>
    fitsWord originator && fitsWord identity
  | .alertConfirm _ record | .alertDecline _ record | .alertAbort _ record | .alertForget _ record
  | .alertRead _ record => fitsWord record
  | .filterSet _ filter => filter.wellFormed
  | .filterClear _ index => fitsWord index
  | .airSetup _ cart enable fadeMs =>
    fitsOption fitsWord cart && fitsOption fitsWord enable && fitsOption fitsWord fadeMs
  | .monitorSet _ setting fields => fitsWord setting && fields.wellFormed
  | .monitorClear _ setting line | .monitorRead _ setting line => fitsWord setting && fitsWord line
  | .linkSetup _ fields => fields.wellFormed
  | .linkSelect _ port force => fitsWord port && fitsWord force
  | .powerOn | .activitySeen | .activityCeases | .alignmentFound | .alignedFrame _ | .failedPosition
  | .settlingFailure | .lockEvent | .frameLoss | .stationClockFrame | .secondAdvance
  | .validityExpiry _ | .windowExpiry _ | .mixFrame | .routeRampEnd _ | .gateRampEnd _
  | .voiceHoldExpiry | .transmitFrame | .deckFrame _ | .prefetchComplete _ | .autoFadeStart _
  | .segueEvent _ | .playEnd _ | .fadeEnd _ | .recorderFrame _ | .cartRecordingFull _
  | .alertDeclaredLength _ | .alertSlotFull _ | .delayFrame | .targetLanding | .bypassReached
  | .delayOverrun | .dumpCrossfadeEnd | .switchFrame | .crossfadeEnd | .monitorFrame
  | .monitorBlockEnd | .lineQuietFault _ | .lineOverloadChange | .answerTimerExpiry _ | .linkFrame
  | .linkBlockComplete | .siteReport _ _ _ _ | .heartbeatExpiry _ | .revertiveReturn
  | .serviceWord _ | .badMessage _ | .statusRead _ | .restart _ | .orderClear _ | .orderNext _
  | .orderHold _ | .orderRun _ | .delayStart _ | .delayExit _ | .delayDump _ | .delayRead _
  | .linkRead _ => true

end Sys2Proof
end

