-- ==== Sys2Proof/Safety.lean ====
section
/-!
DEFINITION. The terms in which claims about the part are made: how a request is answered, the laws that the
manual says the blocks keep, and the values that power-on gives.
-/

namespace Sys2Proof

/-- The places a request asks of the egress queue (R197): two for the requests that raise a command to PHONE
(R98, R107), one for every other. -/
def Instr.places : Instr → Nat
  | .callAnswer _ _ | .callDrop _ _ => 2
  | _ => 1

end Sys2Proof

namespace Sys2Proof.Machine

/-! ### How a request is answered -/

/-- The reply DONE to a request (R196), with its data. -/
def doneWith (tag : Tag) (k : RequestKind) (data : List Nat) : Outbound :=
  .reply k.sender tag k.code .done data

/-- A refusal: the status and no data (R201). -/
def refusedWith (tag : Tag) (k : RequestKind) (status : Status) : Outbound :=
  .reply k.sender tag k.code status []

/-- The queue that made room for a request, with the messages the request raised. -/
def Egress.answered (e : Egress) (ms : List Outbound) : Egress :=
  { e with queue := e.queue ++ ms, reserved := 0 }

/-- A request taken: its message closed and its messages queued, and nothing else of the part changed. -/
def State.answered (s : State) (e : Egress) (ms : List Outbound) : State :=
  { s with inbound := none, rig := { s.rig with egress := e.answered ms } }

/-- The first of a request's checks that holds gives its status. -/
def firstRefusal : List (Bool × Status) → Option Status
  | [] => none
  | (holds, status) :: rest => if holds then some status else firstRefusal rest

/-- The outcome of a request: the refusal of the first check that holds, with nothing changed, or the state
it leaves when none does. -/
def State.outcome (s : State) (e : Egress) (tag : Tag) (k : RequestKind)
    (checks : List (Bool × Status)) (carriedOut : State) : State :=
  match firstRefusal checks with
  | some status => s.answered e [refusedWith tag k status]
  | none => carriedOut

/-- The number of queued reports that have not begun to be sent, which are those that may be evicted (R197). -/
def Egress.evictable (e : Egress) : Nat :=
  ((if e.sent = 0 then e.queue else e.queue.drop 1).filter Outbound.isReport).length

/-- The replies of a queue, in order. -/
def repliesOf (q : List Outbound) : List Outbound := q.filter fun m => m.kindCode == 0x80

/-- The reports of a change of the delay record, in their order (R123, R124): STATE where the state has
changed, then SAFE or UNSAFE where the safe value has. -/
def Egress.delayTold (e : Egress) (old new : Delay) (cause : DelayCause) : Egress :=
  let stated := if old.state = new.state then e
    else e.report (.delayState old.state new.state new.length.toNat cause)
  if old.safe = new.safe then stated
  else stated.report (if new.safe = true then .delaySafe new.length.toNat new.dumpLength
    else .delayNotSafe new.length.toNat new.dumpLength)

/-! ### The audible rule (R67) -/

/-- Two program decks or more are audible, and `o` is the one of them with the smallest audible order. -/
def Rig.cutFirst (r : Rig) (o : DeckId) : Prop :=
  2 ≤ (programDecks.filter fun d => (r.deck d).audible).length ∧ o.val < 4 ∧
    (r.deck o).audible = true ∧
    ∀ d : DeckId, d.val < 4 → d ≠ o → (r.deck d).audible = true →
      serialGreater (r.deck d).audibleOrder (r.deck o).audibleOrder = true

/-- The reports of deck `o` cut and released; their order is the model's choice (notes/assumptions/12.md). -/
def Rig.cutTold (r : Rig) (e : Egress) (o : DeckId) : Egress :=
  (e.report (.deckEnded o (r.deck o).source .cut)).report (.entryCut (r.deck o).entryTag o)

/-- The decks with deck `o` EMPTY, its audible order kept (R65). -/
def Rig.decksCut (r : Rig) (o : DeckId) : Vector Deck 6 :=
  vset r.decks.decks o { Deck.reset with audibleOrder := (r.deck o).audibleOrder }

/-- The list without the entry of deck `o`. -/
def Rig.entriesCut (r : Rig) (o : DeckId) : List Entry :=
  r.order.entries.filter fun x => x.tag != (r.deck o).entryTag

/-! ### The running order's automatic effects (R77 to R84) -/

/-- A deferral stands: HOLD is set or a program deck is paused for an alert (R84). -/
def Rig.heldBack (r : Rig) : Prop :=
  r.order.hold = true ∨ ∃ d : DeckId, d.val < 4 ∧ (r.deck d).pausedForAlert = true

/-- Entry `x` is the first non-airing entry and due (R82, R83): a SEGUE entry with no entry AIRING or a leader that has
passed its segue point, a TIMED entry whose time is reached. -/
def Rig.isDue (r : Rig) (x : Entry) : Prop :=
  (r.order.entries.find? fun y => y.state != .airing) = some x ∧
    (match x.mode with
     | .manual => False
     | .timed => x.timeReached = true
     | .segue => leader r.order.entries = none ∨
        ∃ l, leader r.order.entries = some l ∧ l.seguePassed = true)

/-- The rig after entry `x` is started on its deck `d` (R80): the deck plays with the next audible order, the entry is
AIRING with the next start number, and STARTED is queued. What is told so far, the decks and the list are those that
the audible rule leaves (R67). -/
def Rig.begun (r : Rig) (told : Egress) (decks : Vector Deck 6) (list : List Entry) (x : Entry) (d : DeckId)
    (cause : StartCause) : Rig :=
  let order := (r.decks.lastAudible + 1) % 4294967296
  let number := if 4294967295 ≤ r.order.lastStart then 1 else r.order.lastStart + 1
  { r with
    egress := told.report (.entryStarted x.tag d cause)
    decks :=
      { decks := vset decks d { r.deck d with state := .playing, audibleOrder := order }
        lastAudible := order }
    order := { r.order with
      entries := list.map fun y : Entry =>
        if y.tag = x.tag then
          { y with
            state := .airing, startNumber := number, skipPending := false
            timeReached := y.timeReached || y.mode == .timed }
        else y
      lastStart := number } }

/-- The rig after WAITING entry `x` takes deck `d` (R78): the entry is ASSIGNED and the deck LOADING, with the marks
that the cart holds (R58, R61). -/
def Rig.given (r : Rig) (x : Entry) (d : DeckId) : Rig :=
  let cart := r.cart x.cart
  { r with
    decks := { r.decks with decks := vset r.decks.decks d { Deck.reset with
      state := .loading, source := .cart x.cart, form := cart.form, cueIn := cart.cueIn
      playEnd := cart.cueOut, position := cart.cueIn
      seguePoint := some (match x.segueOverride with
        | some o => min (cart.cueIn + o) cart.cueOut
        | none => cart.segue.getD cart.cueOut)
      gain := x.gain.getD 16384, fadeLength := x.fadeMs.getD 0 * 48
      audibleOrder := (r.deck d).audibleOrder, entryTag := x.tag } }
    order := { r.order with entries := r.order.entries.map fun y : Entry =>
      if y.tag = x.tag then { y with state := .assigned, deck := some d } else y } }

/-- The rig after ASSIGNED entry `z` is displaced from its deck `d` (R77). -/
def Rig.displaced (r : Rig) (z : Entry) (d : DeckId) : Rig :=
  let unloaded : Deck := { Deck.reset with audibleOrder := (r.deck d).audibleOrder }
  { r with
    egress := r.egress.report (.entryUnassigned z.tag d)
    decks := { r.decks with decks := vset r.decks.decks d unloaded }
    order := { r.order with entries := r.order.entries.map fun y : Entry =>
      if y.tag = z.tag then { y with state := .waiting, deck := none } else y } }

/-- `d` is the lowest-numbered EMPTY program deck (R78). -/
def Rig.lowestEmpty (r : Rig) (d : DeckId) : Prop :=
  d.val < 4 ∧ (r.deck d).state = .empty ∧ ∀ j < d, (r.deck j).state ≠ .empty

/-- The rig after the skip that entry `x` makes (R83): the entries before it that are not AIRING leave, their decks are
unloaded, and every PLAYING program deck fades over 24,000 frames or the frames it has left. That the FADEs are sent
in deck order is the model's choice (notes/assumptions/7.md). -/
def Rig.skipped (r : Rig) (x : Entry) : Rig :=
  let before := r.order.entries.takeWhile fun y => y.tag != x.tag
  let gone := before.filter fun y => y.state != .airing
  let kept := (before.filter fun y => y.state == .airing) ++
    r.order.entries.dropWhile fun y => y.tag != x.tag
  { r with
    egress := (gone.map fun y => Report.entrySkipped y.tag).foldl Egress.report r.egress
    decks := { r.decks with decks := Vector.ofFn fun d : DeckId =>
      let k := r.deck d
      let n := min 24000 (k.playEnd - k.position)
      if ∃ y ∈ gone, y.state = EntryState.assigned ∧ y.deck = some d then
        { Deck.reset with audibleOrder := k.audibleOrder }
      else if d.val < 4 ∧ k.state = .playing then
        { k with state := .fading, fadeSpan := n, fadeRemaining := n }
      else k }
    order := { r.order with entries := kept.map fun y : Entry =>
      if y.tag = x.tag then { y with skipPending := false } else y } }

/-- The rig after a new value of station seconds has reached TIMED entries: both flags of each are set (R83). -/
def Rig.timesReached (r : Rig) (now : Nat) : Rig :=
  r.setEntries (r.order.entries.map fun x : Entry =>
    if x.mode = .timed ∧ x.timeReached = false ∧ x.startTime.any (fun t => t ≤ now) = true then
      { x with timeReached := true, skipPending := true }
    else x)

/-- The rig after the WAITING entries that name cart `c` have left the list, with a report REMOVED for each in list
order, and then the messages `ms` are queued, over the library `l` (R45, R50, R85). -/
def Rig.withoutCart (r : Rig) (e : Egress) (c : CartId) (ms : List Outbound) (l : Library) : Rig :=
  let names := fun x : Entry => decide (x.state = .waiting ∧ x.cart = c)
  { r with
    egress := (((r.order.entries.filter names).map fun x => Report.entryRemoved .cart x.tag).foldl
      Egress.report e).answered ms
    library := l
    order := { r.order with entries := r.order.entries.filter fun x => !names x } }

/-! ### The end of a program deck's play (R61, R66, R85) -/

/-- The rig after program deck `d` has played to its end and released: ENDED, and then its entry leaves the list with
PLAYED and the deck is EMPTY, its audible order kept (R65, R66, R85). -/
def Rig.played (r : Rig) (d : DeckId) : Rig :=
  let k := r.deck d
  { r with
    egress := (r.egress.report (.deckEnded d k.source .played)).report (.entryPlayed k.entryTag d)
    decks := { r.decks with
      decks := vset r.decks.decks d { Deck.reset with audibleOrder := k.audibleOrder } }
    order := { r.order with entries := r.order.entries.filter fun x => x.tag != k.entryTag } }

/-- The rig after program deck `d` has become `done` with ENDED and has sent its segue event, with what the running
order then settles (R61, R66, R81); the release follows. -/
def Rig.segued (r : Rig) (d : DeckId) (done : Deck) : Rig :=
  ({ r with
    egress := r.egress.report (.deckEnded d (r.deck d).source .played)
    decks := { r.decks with decks := vset r.decks.decks d { done with segueSent := true } }
    order := { r.order with entries := r.order.entries.map fun x : Entry =>
      if x.tag = done.entryTag then { x with seguePassed := true } else x } }).settle

/-! ### Alert deadlines (R148, R149) -/

/-- The deadlines of a live record moved by `f`, and no other record's (R148). -/
def AlertRecord.moved (a : AlertRecord) (f : Nat → Nat) : AlertRecord :=
  if a.live = true then { a with validUntil := f a.validUntil, deadline := a.deadline.map f } else a

/-- What the comparison with station seconds `now` makes of record `a` (R148, R149): `b` is the record afterwards, and
`idle` says that no record was AIRING, so that the head of the queue then airs (R152). A RECORDING record keeps that
its valid-until was reached (notes/assumptions/33.md). -/
def AlertRecord.compared (a b : AlertRecord) (now : Nat) (idle : Bool) : Prop :=
  match a.state with
  | .recording => b = { a with
      validUntilReached := a.validUntilReached || decide (a.validUntil ≤ now) }
  | .awaiting =>
    if a.validUntil ≤ now then b = { a with state := .expired }
    else if a.deadline.any (fun d => d ≤ now) = true then
      (match a.expiryAction with
       | .drop => b = { a with state := .declined }
       | .air => b = { a with state := b.state, queueEntry := b.queueEntry } ∧
          (b.state = .queued ∨ idle = true ∧ b.state = .airing))
    else b = a
  | .queued =>
    if a.validUntil ≤ now then b = { a with state := .expired }
    else b = a ∨ idle = true ∧ b = { a with state := .airing }
  | _ => b = a

/-! ### Caller lines -/

/-- An overload fault of a line stands: its LINE-overload monitor is in FAULT and its mode acts (R112, R172). -/
def State.overloaded (s : State) (k : LineId) : Prop :=
  (s.rig.monitors.cells[overloadCell k]).state = .fault ∧
    ((s.rig.monitors.settings[(7 : Fin 8)]).mode = .latched ∨
      (s.rig.monitors.settings[(7 : Fin 8)]).mode = .auto)

/-- Every line's muted flag is as R112 sets it. -/
def State.mutedRight (s : State) : Prop :=
  ∀ k : LineId, (s.line k).muted = true ↔ (s.line k).state = .onAir ∧
    (match (s.rig.monitors.settings[(7 : Fin 8)]).scope with
     | .line => s.overloaded k
     | .all => ∃ j : LineId, (s.line j).state = .onAir ∧ s.overloaded j)

/-- A report that says that a muted flag has changed. -/
def Outbound.isMuting : Outbound → Prop
  | .report (.callMuted _ _) | .report (.callUnmuted _ _) => True
  | _ => False

/-- `t` is `s` after a call request or message on line `k`, with no message open: the line holds `l` and every other
line keeps all but its muted flag; if the line has entered or left ON_AIR the flags are right and its monitors are
cleared, and if not the flags and the monitors stay (R96, R112, R169). -/
def State.lineMoved (s t : State) (k : LineId) (l : Line) : Prop :=
  t.line k = { l with muted := (t.line k).muted } ∧
    (∀ j, j ≠ k → t.line j = { s.line j with muted := (t.line j).muted }) ∧
    ((s.line k).state = .onAir ∨ l.state = .onAir → t.mutedRight ∧ ∀ c : Fin 18, cellLine c = some k →
      (t.rig.cell c).state = .clear ∧ (t.rig.cell c).persistence = 0 ∧
      (t.rig.cell c).restoreCount = 0) ∧
    ((s.line k).state ≠ .onAir → l.state ≠ .onAir →
      t.line k = l ∧ (∀ j, j ≠ k → t.line j = s.line j) ∧ t.rig.monitors = s.rig.monitors) ∧
    (∀ c : Fin 18, cellLine c ≠ some k → t.rig.cell c = s.rig.cell c) ∧
    t = { s with
      inbound := none
      callers := { s.callers with lines := t.callers.lines, queue := t.callers.queue }
      rig := { s.rig with
        egress := t.rig.egress
        monitors := { s.rig.monitors with cells := t.rig.monitors.cells } } }

/-! ### The link's reports (R186, R188) -/

/-- The reports of R188 when the link follows the site status of its active port, whose acknowledged counter is `ack`:
SITE for each value that is known and differs, then SITE_MISMATCH when a mismatch begins to stand. -/
def Link.siteReports (l : Link) (reported : SiteStatus) (ack threshold : Nat) : List Report :=
  (match reported.carrier with
   | some v => if l.site.carrier = some v then [] else [.linkSite (.carrier l.site.carrier v)]
   | none => []) ++
  (match reported.power with
   | some v => if l.site.power = some v then [] else [.linkSite (.power l.site.power v)]
   | none => []) ++
  (match reported.silence with
   | some v => if l.site.silence = some v then [] else [.linkSite (.silence l.site.silence v)]
   | none => []) ++
  (if (reported.silence.getD (l.site.silence.getD false)) = true ∧ threshold ≤ l.lastPeak ∧
      l.mismatch = false then [.linkMismatch l.lastPeak ack] else [])

/-- The lag of a port that has acknowledged counter `ack` (R185). -/
def Link.lagFrom (l : Link) (ack : Nat) : Nat :=
  let ahead := (l.counter + 8589934591 - ack % 4294967296) % 4294967296
  if 2147483648 ≤ ahead then 0 else ahead

/-! ### Source values and sums -/

/-- The value of a route's source: its L side or its one side, and its R side where it is stereo (R18). -/
def State.sides (s : State) : RouteSource → Int × Option Int
  | .lane x => ((s.taken.lanes[x]).toInt, none)
  | .pair k => ((s.taken.lanes[(⟨2 * k.val, by omega⟩ : Fin 16)]).toInt,
      some (s.taken.lanes[(⟨2 * k.val + 1, by omega⟩ : Fin 16)]).toInt)
  | .deck n => (match s.taken.decks[(⟨n.val, by omega⟩ : Fin 6)] with
    | .mono x => (x.toInt, none)
    | .stereo l r => (l.toInt, some r.toInt))
  | .line k => (match (s.line k).inLane with
    | some x => ((s.taken.lanes[x]).toInt, none)
    | none => (0, none))

/-- A whole number limited to the sample range (R22). -/
def limited (x : Int) : Int := max (-8388608) (min 8388607 x)

/-- The exact sum of the terms on one side of a bus over the 48 routes (R22), every route from the line
`except` left out (R27). -/
def State.sideSum (s : State) (duckFactor : Nat) (bus : Bus) (routes : Vector Route 48)
    (except : Option LineId) (left : Bool) : Int :=
  ((List.finRange 48).map fun i : RouteId =>
    if routes[i].inUse = true ∧ routes[i].destination = bus ∧
        (∀ k, except = some k → routes[i].source ≠ .line k) then
      (if left = true then (s.terms duckFactor routes[i]).1 else (s.terms duckFactor routes[i]).2)
    else 0).sum

/-! ### The laws -/

/-- The sample store is in its one form: addresses strictly rising (notes/assumptions/1.md). -/
def State.storeLaw (s : State) : Prop := s.store.wf = true

/-- The egress queue holds at most 32 messages, no place stays secured between events, and the words already
sent of the head are fewer than it has (R197). -/
def State.egressLaw (s : State) : Prop :=
  s.rig.egress.queue.length ≤ 32 ∧ s.rig.egress.reserved = 0 ∧
    (match s.rig.egress.queue with
     | [] => s.rig.egress.sent = 0
     | m :: _ => s.rig.egress.sent < m.fields.length + 2)

/-- The lock machine and the Station Clock (R3 to R7, R12): the counts stay below their ends, the source is
TRUNK exactly while LOCKED, and a message is open only while LOCKED, with no more fields than it announced. -/
def State.clockLaw (s : State) : Prop :=
  s.clock.frameCount < 48000 ∧ s.clock.seconds ≤ 1073741823 ∧ s.clock.holdover ≤ 4294967295 ∧
    (s.clock.source = .trunk ↔ s.trunk.lock = .locked) ∧
    s.trunk.settleCount < 4800 ∧ s.trunk.failureCount < 3 ∧
    (s.trunk.lock ≠ .settling → s.trunk.settleCount = 0) ∧
    (s.trunk.lock = .noSignal ∨ s.trunk.lock = .acquiring → s.trunk.failureCount = 0) ∧
    (s.trunk.handsWord = true → s.trunk.lock = .locked) ∧
    ∀ m, s.inbound = some m →
      s.trunk.lock = .locked ∧ m.fields.length ≤ m.count ∧ m.count ≤ 63

/-- A ramp of `remaining` frames in steps of `step` stays between where it stands and where it goes, and a
ramp that has ended stands at its goal (R20, R23). -/
def rampLaw (current goal remaining : Nat) (step : Int) : Prop :=
  (remaining = 0 → current = goal) ∧
    (0 < remaining → current ≤ goal → 0 ≤ step ∧ (current : Int) + step * remaining ≤ goal) ∧
    (0 < remaining → goal ≤ current → step ≤ 0 ∧ (goal : Int) ≤ current + step * remaining)

/-- The law of one route entry (R17, R20, R23, R31). -/
def Route.law (r : Route) : Prop :=
  (r.inUse = false → r = .free) ∧ r.target ≤ 65535 ∧ r.current ≤ 65535 ∧ r.exponent ≤ 12 ∧
    r.remaining ≤ 4096 ∧ rampLaw r.current r.target r.remaining r.step ∧
    (r.clearing = true → r.target = 0 ∧ 0 < r.remaining) ∧
    r.gateFactor ≤ 16384 ∧ r.gateRemaining ≤ 512 ∧
    rampLaw r.gateFactor (gateGoal r.gateOpen) r.gateRemaining r.gateStep ∧
    ((r.voice = true ∨ r.duckable = true) → r.destination = .pgm)

/-- The Mix Engine's law (R17, R24, R25, R33). -/
def State.mixLaw (s : State) : Prop :=
  (∀ i : RouteId, (s.mix.routes[i]).law) ∧ s.mix.duckFactor ≤ 16384 ∧ s.mix.sinceVoice ≤ 48001 ∧
    s.mix.duck.depth ≤ 16384 ∧ s.mix.duck.hold ≤ 48000

/-- A run of pages lies in the store (R37). -/
def inPages (start pages : Nat) : Prop := start + pages ≤ 4096

/-- The regions and the extents of carts that are not EMPTY lie in the store and share no page (R39, R40,
R44). -/
def Library.extentLaw (l : Library) : Prop :=
  l.delayRegion.pages ≤ 128 ∧ inPages l.delayRegion.start l.delayRegion.pages ∧
    l.alertRegion.pages ≤ 2048 ∧ l.alertRegion.pages % 16 = 0 ∧
    inPages l.alertRegion.start l.alertRegion.pages ∧
    pagesMeet l.delayRegion.start l.delayRegion.pages l.alertRegion.start l.alertRegion.pages = false ∧
    ∀ c : CartId, (l.carts[c]).state ≠ .empty →
      0 < (l.carts[c]).pages ∧ inPages (l.carts[c]).start (l.carts[c]).pages ∧
      pagesMeet (l.carts[c]).start (l.carts[c]).pages l.delayRegion.start l.delayRegion.pages
        = false ∧
      pagesMeet (l.carts[c]).start (l.carts[c]).pages l.alertRegion.start l.alertRegion.pages
        = false ∧
      ∀ b : CartId, b ≠ c → (l.carts[b]).state ≠ .empty →
        pagesMeet (l.carts[c]).start (l.carts[c]).pages (l.carts[b]).start (l.carts[b]).pages
          = false

/-- At most two program decks are PLAYING or FADING (R67). -/
def State.audibleLaw (s : State) : Prop :=
  (programDecks.filter fun d => (s.rig.deck d).audible).length ≤ 2

/-- The running order (R75, R76, R78): at most 64 entries, no tag twice, a start time for TIMED entries
alone, a deck for ASSIGNED and AIRING entries alone, and at most two entries ASSIGNED. -/
def Order.law (o : Order) : Prop :=
  o.entries.length ≤ 64 ∧ (o.entries.map Entry.tag).Nodup ∧
    (∀ e ∈ o.entries, 1 ≤ e.tag ∧ e.tag ≤ 65535 ∧ (e.startTime.isSome = true ↔ e.mode = .timed) ∧
      (e.deck.isSome = true ↔ e.state ≠ .waiting)) ∧
    (o.entries.filter fun e => e.state == .assigned).length ≤ 2

/-- One caller line (R95, R98, R100, R112). -/
def Line.law (l : Line) : Prop :=
  (l.callRef = 0 ↔ l.state = .idle) ∧ l.callRef ≤ 1073741823 ∧ l.returnGain ≤ 65535 ∧
    (l.state ≠ .idle ∧ l.state ≠ .ringing → l.inLane.isSome = true) ∧
    (0 < l.answerTimer ↔ l.state = .answering) ∧ l.answerTimer ≤ 192000 ∧
    (l.muted = true → l.state = .onAir)

/-- The caller lines (R96, R103, R106): the queue holds exactly the lines in HOLD, each once, and the lines
in ON_AIR never exceed the limit. -/
def Callers.law (c : Callers) : Prop :=
  (∀ k : LineId, (c.lines[k]).law) ∧ c.queue.Nodup ∧
    (∀ k : LineId, k ∈ c.queue ↔ (c.lines[k]).state = .hold) ∧
    c.onAirCount ≤ c.limit ∧ 1 ≤ c.limit ∧ c.limit ≤ 3 ∧ c.holdGain ≤ 65535

/-- The delay's law (R115, R116, R125): in BYPASS, D is 0; in every other state D is from one frame to the
capacity and the target is below the capacity; D stands to the target as the state says; a prior state, an
exit flag and an overrun flag stand in HELD alone; and no crossfade runs in BYPASS or HELD. -/
def Rig.delayLaw (r : Rig) : Prop :=
  (r.delay.state = .bypass → r.delay.length = 0) ∧
    (r.delay.state ≠ .bypass → 4096 ≤ r.delay.length ∧
      r.delay.length ≤ (r.library.delayCapacity : Int) * 4096 ∧
      r.delay.target < r.library.delayCapacity) ∧
    (r.delay.state = .build → r.delay.length ≤ (r.delay.target : Int) * 4096) ∧
    (r.delay.state = .steady → r.delay.length = (r.delay.target : Int) * 4096) ∧
    (r.delay.state = .catchup → (r.delay.target : Int) * 4096 ≤ r.delay.length) ∧
    (r.delay.prior.isSome = true ↔ r.delay.state = .held) ∧
    (r.delay.exitFlag = true → r.delay.state = .held) ∧
    (r.delay.overrunFlag = true → r.delay.state = .held) ∧
    (r.delay.state = .bypass ∨ r.delay.state = .held → r.delay.crossfade = 0) ∧
    r.delay.crossfade ≤ 64 ∧ 1 ≤ r.delay.target ∧
    r.delay.dumpLength ≤ r.delay.target ∧ 16 ≤ r.delay.buildSlip ∧ r.delay.buildSlip ≤ 512 ∧
    16 ≤ r.delay.catchupSlip ∧ r.delay.catchupSlip ≤ 512

/-- The recent-identity list holds at most 32 pairs, and none twice (R136, R138). -/
def Alerts.recentLaw (a : Alerts) : Prop := a.recent.length ≤ 32 ∧ a.recent.Nodup

/-- Alerts and recorders (R42, R48, R143, R151, R152): the airing record is the one record AIRING, the Air
Switch's run flag is set exactly while one airs, nothing waits in the queue while none airs, a record or a
cart is RECORDING exactly while a recorder is bound to it, and no two recorders are bound to one target. -/
def Rig.alertLaw (r : Rig) : Prop :=
  (∀ i : RecordId, (r.record i).state = .airing ↔ r.alerts.airing = some i) ∧
    r.airSwitch.runFlag = r.alerts.airing.isSome ∧
    (r.alerts.airing = none → ∀ i : RecordId, (r.record i).state ≠ .queued) ∧
    (∀ i : RecordId, (r.record i).state = .recording ↔
      ∃ k : RecorderId, (r.recorder k).binding = .alert i) ∧
    (∀ c : CartId, (r.cart c).state = .recording ↔
      ∃ k : RecorderId, (r.recorder k).binding = .cart c) ∧
    ∀ j k : RecorderId, (r.recorder j).binding = (r.recorder k).binding →
      (r.recorder j).binding ≠ .free → j = k

/-- The Air Switch (R160 to R166): the owner is the one the evaluation gives, a crossfade runs between two
different inputs with its weight below its span, and deck F is EMPTY unless FALLBACK is the owner or the
outgoing input. -/
def Rig.ownerLaw (r : Rig) : Prop :=
  r.airSwitch.owner = (if r.airSwitch.runFlag = true then .alert
    else if r.monitors.acts dlySilence = true ∧ r.airSwitch.fallbackEnable = true then .fallback
    else .program) ∧
    r.airSwitch.outgoing ≠ some r.airSwitch.owner ∧
    (r.airSwitch.outgoing ≠ none → r.airSwitch.weight < r.airSwitch.span) ∧
    r.airSwitch.weight ≤ r.airSwitch.span ∧
    48 ≤ r.airSwitch.span ∧ r.airSwitch.span ≤ 4800 ∧ 48 ≤ r.airSwitch.fadeLength ∧
    r.airSwitch.fadeLength ≤ 4800 ∧
    (r.airSwitch.owner ≠ .fallback → r.airSwitch.outgoing ≠ some .fallback →
      (r.deck deckF).state = .empty)

/-- The monitors (R168, R169, R172): the block phase stays below 480, an instance whose mode is OFF is CLEAR
with its counters at 0, only silence and quiet instances reach WARNING, and a fault time is no shorter than
its warn time. -/
def Monitors.law (m : Monitors) : Prop :=
  m.phase < 480 ∧
    (∀ c : Fin 18, (m.settings[cellSetting c]).mode = .off →
      (m.cells[c]).state = .clear ∧ (m.cells[c]).persistence = 0 ∧ (m.cells[c]).restoreCount = 0) ∧
    (∀ c : Fin 18, (m.cells[c]).state = .warning → isOverloadSetting (cellSetting c) = false) ∧
    ∀ i : Fin 8, (m.settings[i]).warn ≤ (m.settings[i]).fault

/-- The link (R179, R180, R184, R185, R187): the block being gathered is shorter than its length, a port's
heartbeat timer stands at 0 exactly while it is DOWN, only the active port is LAGGING, and the revert timer
runs under its three conditions alone. -/
def Link.law (l : Link) : Prop :=
  (l.blockLength = 48 ∨ l.blockLength = 96 ∨ l.blockLength = 192) ∧
    (l.nextLength = 48 ∨ l.nextLength = 96 ∨ l.nextLength = 192) ∧
    l.phase < l.blockLength ∧ l.gathered.length = l.phase ∧ l.counter ≤ 4294967295 ∧
    250 ≤ l.timeoutMs ∧ l.timeoutMs ≤ 10000 ∧
    (∀ p : Port, (l.port p).heartbeat = 0 ↔ (l.port p).health = .down) ∧
    (∀ p : Port, (l.port p).heartbeat ≤ l.timeoutMs * 48) ∧
    (∀ p : Port, (l.port p).health = .lagging → l.active = p) ∧
    (l.revertive = true ∧ l.preferred ≠ l.active ∧ (l.port l.preferred).health = .up ∨
      l.revertTimer = 0)

/-- Every law of the part. -/
def State.lawful (s : State) : Prop :=
  s.storeLaw ∧ s.egressLaw ∧ s.clockLaw ∧ s.mixLaw ∧ s.rig.library.extentLaw ∧ s.audibleLaw ∧
    s.rig.order.law ∧ s.callers.law ∧ s.rig.delayLaw ∧ s.rig.alerts.recentLaw ∧ s.rig.alertLaw ∧
    s.rig.ownerLaw ∧ s.rig.monitors.law ∧ s.link.law

end Sys2Proof.Machine
end

