-- ==== Sys2Proof/Certificates/Slice0/Obligations.lean ====
section
/-!
DEFINITION. The statements for the provers: what the commands do, and the laws that every step keeps.
-/

open Sys2Proof Sys2Proof.Machine

/-! ### The queue of commands, power-on and restart -/

/-- A step takes the command at the front of the queue and runs it with the rest of the queue; with no command
waiting the part idles (the idling is the model's choice, notes/assumptions/19.md). -/
def Obligations.StepTakesTheFrontCommand : Prop :=
  (∀ (c : Instr) (rest : List Instr) (s : State),
    step (s.withPending (c :: rest)) = exec c (s.withPending rest)) ∧
  ∀ s : State, s.pending = [] → step s = .next s

/-- POWER_ON gives every record its power-on value, makes every word of the store a free value again, and loses
queued and open messages (R10, R15, R17, R35, R37, R39, R41, R48, R55, R75, R95, R96, R103, R115, R136, R160,
R168, R169, R179, R199). The buses, the returns and the HOLD feed are 0, as completed and as taken (R35). The model's
choice are: that waiting commands go on waiting (notes/assumptions/19.md), that an unwritten word reads as a free
value of its power-on and address (notes/assumptions/1.md), and the values of fields for which these rules give none
(notes/assumptions/26.md), which are the source, the destination and the voice and duckable flags of a free route, a
free recorder's source, the action and the window-expiry action of a FREE alert record, the last audible order given,
a deck's segue point and end cause, the part of no airing, the lanes, decks, DLY and AIR handed on, the outbound frame
and the blocks last sent, and the model's own fields. -/
def Obligations.PowerOnGivesEveryRecordItsPowerOnValue : Prop :=
  ∀ s : State, ∃ t, exec .powerOn s = .next t ∧ t.pending = s.pending ∧
    t.trunk.lock = .noSignal ∧ t.trunk.settleCount = 0 ∧ t.trunk.failureCount = 0 ∧ t.inbound = none ∧
    t.trunk.handsWord = false ∧
    (∀ o : Outputs, o = t.completed ∨ o = t.taken →
      o.pgm = { l := 0, r := 0 } ∧ o.cue = { l := 0, r := 0 } ∧ o.scr = 0 ∧ o.holdFeed = 0 ∧
      (∀ k : LineId, o.returns[k] = 0) ∧ (∀ x : Fin 16, o.lanes[x] = 0) ∧
      (∀ d : DeckId, o.decks[d] = .mono 0) ∧ o.dly = { l := 0, r := 0 } ∧ o.air = { l := 0, r := 0 }) ∧
    (∀ x : Fin 16, t.outFrame.lanes[x] = 0) ∧ t.outFrame.word = 0 ∧
    t.clock.source = .crystal ∧ t.clock.frameCount = 0 ∧ t.clock.seconds = 0 ∧
    t.clock.timeValid = false ∧ t.clock.holdover = 0 ∧
    t.outMap[(0 : Fin 16)] = .airL ∧ t.outMap[(1 : Fin 16)] = .airR ∧
    (∀ k : LineId, t.outMap[(⟨k.val + 2, by omega⟩ : Fin 16)] = .lineReturn k) ∧
    (∀ i : Fin 16, 8 ≤ i.val → t.outMap[i] = .silence) ∧
    (∀ i : RouteId, t.mix.routes[i] = .free) ∧
    t.mix.duck = { depth := 8192, attack := 64, release := 8, threshold := 131072, hold := 24000 } ∧
    t.mix.duckFactor = 16384 ∧ t.mix.sinceVoice = 48001 ∧
    (∀ a, t.store.read a = Config.unwrittenSample (s.store.powerOns + 1) a) ∧
    t.rig.library.delayRegion = { start := 0, pages := 0 } ∧
    t.rig.library.alertRegion = { start := 0, pages := 0 } ∧
    (∀ c : CartId, t.rig.cart c =
      { state := .empty, start := 0, pages := 0, form := .mono, cls := .program, length := 0, cueIn := 0
        intro := none, segue := none, cueOut := 0 }) ∧
    (∀ k : RecorderId, t.rig.recorder k = .free) ∧ t.rig.library.lastGrant = 0 ∧
    (∀ d : DeckId,
      let k := t.rig.deck d
      k.state = .empty ∧ k.source = .none ∧ k.form = .mono ∧ k.cueIn = 0 ∧ k.playEnd = 0 ∧
      k.position = 0 ∧ k.segueSent = false ∧ k.gain = 0 ∧ k.fadeLength = 0 ∧ k.fadeSpan = 0 ∧
      k.fadeRemaining = 0 ∧ k.loop = false ∧ k.pausedForAlert = false ∧ k.prior = none ∧
      k.audibleOrder = 0 ∧ k.entryTag = 0 ∧ k.seguePoint = none ∧ k.endCause = none ∧ k.loadAge = 0) ∧
    t.rig.decks.lastAudible = 0 ∧
    t.rig.order = { entries := [], hold := false, lastStart := 0 } ∧
    (∀ k : LineId, (t.line k).state = .idle ∧ (t.line k).callRef = 0 ∧ (t.line k).inLane = none ∧
      (t.line k).returnGain = 16384 ∧ (t.line k).muted = false ∧ (t.line k).answerTimer = 0) ∧
    t.callers.queue = [] ∧ t.callers.limit = 2 ∧ t.callers.holdGain = 8192 ∧
    t.rig.delay.state = .bypass ∧ t.rig.delay.written = 0 ∧ t.rig.delay.readPos = 0 ∧
    t.rig.delay.target = 480000 ∧ t.rig.delay.dumpLength = 240000 ∧ t.rig.delay.buildSlip = 128 ∧
    t.rig.delay.catchupSlip = 128 ∧ t.rig.delay.prior = none ∧ t.rig.delay.startMark = 0 ∧
    t.rig.delay.bypassFrame = { l := 0, r := 0 } ∧ t.rig.delay.exitFlag = false ∧
    t.rig.delay.overrunFlag = false ∧ t.rig.delay.crossfade = 0 ∧ t.rig.delay.oldReadPos = 0 ∧
    (∀ i : Fin 24, (t.rig.alerts.filters[i]).inUse = false) ∧ t.rig.alerts.recent = [] ∧
    (∀ i : RecordId, t.rig.record i = .free) ∧ t.rig.alerts.airing = none ∧ t.rig.alerts.part = .leadIn ∧
    t.rig.alerts.decksPaused = false ∧ t.rig.alerts.arrivalCount = 0 ∧ t.rig.alerts.queueCount = 0 ∧
    t.rig.airSwitch =
      { owner := .program, runFlag := false, outgoing := none, weight := 0, span := 480
        fallbackCart := none, fallbackEnable := false, fadeLength := 480 } ∧
    (∀ i : Fin 8,
      let m := t.rig.monitors.settings[i]
      m.mode = (if i = 4 then .report else .off) ∧ m.restore = 5 ∧
      (i.val % 2 = 0 → m.threshold = 8389 ∧ m.warn = 10 ∧ m.fault = 30) ∧
      (i.val % 2 = 1 → m.threshold = 8300000 ∧ m.hold = 10) ∧ (i = 7 → m.scope = .line)) ∧
    (∀ c : Fin 18,
      let x := t.rig.cell c
      x.state = .clear ∧ x.persistence = 0 ∧ x.restoreCount = 0 ∧ x.peakL = 0 ∧ x.peakR = 0 ∧
      x.discard = false) ∧
    t.rig.monitors.phase = 0 ∧ t.rig.monitors.lineNotices = [] ∧
    t.link.active = .a ∧ t.link.preferred = .a ∧ t.link.revertive = false ∧ t.link.revertHold = 60 ∧
    t.link.revertTimer = 0 ∧ t.link.timeoutMs = 1000 ∧ t.link.lagLimit = 500 ∧
    t.link.blockLength = 96 ∧ t.link.nextLength = 96 ∧ t.link.phase = 0 ∧ t.link.counter = 0 ∧
    t.link.peak = 0 ∧ t.link.lastPeak = 0 ∧
    t.link.gathered = [] ∧ t.link.sentA = [] ∧ t.link.sentB = [] ∧
    t.link.site = { carrier := none, power := none, silence := none } ∧ t.link.mismatch = false ∧
    (∀ p : Port, t.link.port p =
      { health := .down, proving := 0, heartbeat := 0, acknowledged := 0
        site := { carrier := none, power := none, silence := none }, taken := 0, discarded := 0 }) ∧
    t.rig.egress.queue = [] ∧ t.rig.egress.sent = 0 ∧ t.rig.egress.reportsDropped = false ∧
    t.rig.egress.requestsDropped = false ∧ t.rig.egress.reserved = 0

/-- RESTART queues its reply first and gives the blocks their restart values (R36, R54, R74, R94, R114, R135, R159,
R178, R199); the receiver, the clock, the out-map, the store, the link and the settings stay, and what the decks have
completed is silence, so that deck routes are silent at once (R36, R74). The model's choice are: that what the other
blocks have completed stays (notes/assumptions/30.md), that the span of the crossfade that is abandoned stays
(notes/assumptions/35.md), that the old read position of the delay stays (notes/assumptions/36.md), that a gate's
target is kept as a flag, which closes (notes/assumptions/9.md), that what waits for the caller lines is lost
(notes/assumptions/13.md), and that a block to be discarded is marked by a flag, which clears
(notes/assumptions/14.md). -/
def Obligations.RestartKeepsSettingsAndClearsWorkInProgress : Prop :=
  ∀ (s : State) (e : Egress) (tag : Tag), s.rig.egress.secure 1 = some e →
    ∃ t later, exec (.restart tag) s = .next t ∧ t.inbound = none ∧
      repliesOf t.rig.egress.queue = repliesOf e.queue ++ [doneWith tag .restart []] ∧
      (e.queue.length + 7 ≤ 32 → t.rig.egress.queue = e.queue ++ doneWith tag .restart [] :: later ∧
        later = (allLines.filter fun k => (s.line k).state != .idle).map
          fun k => .phoneRelease k (s.line k).callRef) ∧
      t.trunk = s.trunk ∧ t.clock = s.clock ∧ t.outMap = s.outMap ∧ t.outFrame = s.outFrame ∧
      t.store = s.store ∧ t.link = s.link ∧ t.pending = s.pending ∧
      t.completed = { s.completed with decks := Vector.replicate 6 (.mono 0) } ∧
      t.taken = { s.taken with decks := Vector.replicate 6 (.mono 0) } ∧
      t.mix.duck = s.mix.duck ∧ t.mix.duckFactor = 16384 ∧ t.mix.sinceVoice = 48001 ∧
      (∀ i : RouteId, t.mix.routes[i] =
        if s.mix.routes[i].inUse = false then s.mix.routes[i]
        else if s.mix.routes[i].clearing = true then .free
        else { s.mix.routes[i] with
          current := s.mix.routes[i].target, step := 0, remaining := 0, gateFactor := 0
          gateStep := 0, gateRemaining := 0, gateOpen := false }) ∧
      t.rig.library.delayRegion = s.rig.library.delayRegion ∧
      t.rig.library.alertRegion = s.rig.library.alertRegion ∧
      t.rig.library.lastGrant = s.rig.library.lastGrant ∧
      (∀ k : RecorderId, t.rig.recorder k = .free) ∧
      (∀ c : CartId, t.rig.cart c = if (s.rig.cart c).state = .recording
        then { s.rig.cart c with
          state := .defined, length := 0, cueIn := 0, intro := none, segue := none, cueOut := 0 }
        else s.rig.cart c) ∧
      (∀ d : DeckId, t.rig.deck d = { Deck.reset with audibleOrder := (s.rig.deck d).audibleOrder }) ∧
      t.rig.decks.lastAudible = s.rig.decks.lastAudible ∧
      t.rig.order = { entries := [], hold := false, lastStart := s.rig.order.lastStart } ∧
      (∀ k : LineId, t.line k = if (s.line k).state = .idle then s.line k
        else { s.line k with state := .idle, callRef := 0, answerTimer := 0, muted := false }) ∧
      t.callers.queue = [] ∧ t.callers.limit = s.callers.limit ∧
      t.callers.holdGain = s.callers.holdGain ∧
      t.rig.delay.state = .bypass ∧ t.rig.delay.length = 0 ∧ t.rig.delay.prior = none ∧
      t.rig.delay.readPos = (s.rig.delay.written : Int) * 4096 ∧
      t.rig.delay.written = s.rig.delay.written ∧ t.rig.delay.crossfade = 0 ∧
      t.rig.delay.exitFlag = false ∧ t.rig.delay.overrunFlag = false ∧
      t.rig.delay.bypassFrame = { l := 0, r := 0 } ∧ t.rig.delay.startMark = s.rig.delay.startMark ∧
      t.rig.delay.target = s.rig.delay.target ∧ t.rig.delay.dumpLength = s.rig.delay.dumpLength ∧
      t.rig.delay.buildSlip = s.rig.delay.buildSlip ∧
      t.rig.delay.catchupSlip = s.rig.delay.catchupSlip ∧
      t.rig.delay.oldReadPos = s.rig.delay.oldReadPos ∧
      (∀ i : RecordId, t.rig.record i = if (s.rig.record i).live = true
        then { s.rig.record i with state := .aborted } else s.rig.record i) ∧
      t.rig.alerts.airing = none ∧ t.rig.alerts.decksPaused = false ∧
      t.rig.alerts.recent = s.rig.alerts.recent ∧ t.rig.alerts.filters = s.rig.alerts.filters ∧
      t.rig.alerts.arrivalCount = s.rig.alerts.arrivalCount ∧
      t.rig.alerts.queueCount = s.rig.alerts.queueCount ∧
      t.rig.airSwitch.owner = .program ∧ t.rig.airSwitch.runFlag = false ∧
      t.rig.airSwitch.outgoing = none ∧ t.rig.airSwitch.weight = 0 ∧
      t.rig.airSwitch.span = s.rig.airSwitch.span ∧
      t.rig.airSwitch.fallbackCart = s.rig.airSwitch.fallbackCart ∧
      t.rig.airSwitch.fallbackEnable = s.rig.airSwitch.fallbackEnable ∧
      t.rig.airSwitch.fadeLength = s.rig.airSwitch.fadeLength ∧
      (∀ c : Fin 18, t.rig.cell c = { state := .clear, persistence := 0, restoreCount := 0, peakL := 0
                                      peakR := 0, discard := false }) ∧
      t.rig.monitors.phase = 0 ∧ t.rig.monitors.lineNotices = [] ∧
      t.rig.monitors.settings = s.rig.monitors.settings

/-- Every request that only reads answers DONE with the data of its rule, read as it stands, and changes
nothing else (R32, R47, R72, R92, R109, R133, R157, R176, R191); STATUS_READ also clears the two dropped flags
(R198). The codes and forms of the data that R201 does not list, which the data functions named here give, are the
model's choice (notes/assumptions/8.md). -/
def Obligations.ReadsAnswerAndChangeNothingElse : Prop :=
  ∀ (s : State) (e : Egress) (tag : Tag), s.rig.egress.secure 1 = some e →
    exec (.statusRead tag) s = .next (s.answered
      { e with reportsDropped := false, requestsDropped := false }
      [doneWith tag .statusRead
        [1814, 1, s.trunk.lock.code, s.clock.source.code, s.clock.seconds, Bool.code s.clock.timeValid,
         s.rig.airSwitch.owner.code, s.rig.delay.state.code, Bool.code s.rig.delay.safe,
         s.link.active.code, Bool.code s.rig.egress.reportsDropped,
         Bool.code s.rig.egress.requestsDropped]]) ∧
    (∀ i : RouteId, exec (.routeRead tag i) s =
      .next (s.answered e [doneWith tag .routeRead s.mix.routes[i].data])) ∧
    (∀ c : CartId, exec (.cartRead tag c) s =
      .next (s.answered e [doneWith tag .cartRead (s.rig.cartData c)])) ∧
    (∀ d : DeckId, exec (.deckRead tag d) s =
      .next (s.answered e [doneWith tag .deckRead (s.rig.deck d).data])) ∧
    (∀ (p : Nat) (x : Entry), s.rig.order.entries[p]? = some x → exec (.orderRead tag p) s =
      .next (s.answered e [doneWith tag .orderRead (x.data ++
        [s.rig.order.entries.length, Bool.code s.rig.order.hold,
         ((leader s.rig.order.entries).map Entry.tag).getD 0, Bool.code s.rig.deferred])])) ∧
    (∀ k : LineId, exec (.lineRead tag k) s =
      .next (s.answered e [doneWith tag .lineRead (s.lineData k)])) ∧
    exec (.delayRead tag) s = .next (s.answered e [doneWith tag .delayRead s.rig.delayData]) ∧
    (∀ i : RecordId, exec (.alertRead tag i) s =
      .next (s.answered e [doneWith tag .alertRead
        ((s.rig.record i).data ++ s.rig.alerts.summary ++ s.rig.recorderData i)])) ∧
    (∀ (i : Fin 8) (line : Nat) (c : Fin 18), cellAt i line = some c →
      exec (.monitorRead tag i line) s =
        .next (s.answered e [doneWith tag .monitorRead (s.rig.monitorData c)])) ∧
    exec (.linkRead tag) s = .next (s.answered e [doneWith tag .linkRead s.linkData])

/-! ### Requests and the service channel -/

/-- The room a request needs is one place, and two for CALL_ANSWER and CALL_DROP (R197). It is made from the youngest
reports that have not begun to be sent, one for each place that is lacking, and from nothing else; a request for which
there are too few of them is not carried out: nothing changes but the closed message and the requests-dropped flag. -/
def Obligations.RoomForARequestIsMadeFromReports : Prop :=
  (∀ (i : Instr) (s : State), (encodeRequest i).isSome = true →
     s.rig.egress.evictable < s.rig.egress.queue.length + i.places - 32 →
     exec i s = .next { s with
       inbound := none
       rig := { s.rig with egress := { s.rig.egress with requestsDropped := true } } }) ∧
  (∀ (tag : Tag) (k : Nat), (Instr.callAnswer tag k).places = 2 ∧ (Instr.callDrop tag k).places = 2) ∧
  (∀ i : Instr, (∀ tag k, i ≠ .callAnswer tag k ∧ i ≠ .callDrop tag k) → i.places = 1) ∧
  ∀ (q : Egress) (n : Nat),
    (q.secure n = none ↔ q.evictable < q.queue.length + n - 32) ∧
    (q.queue.length + n ≤ 32 → q.secure n = some { q with reserved := n }) ∧
    ∀ kept, q.secure n = some kept →
      kept = { q with queue := kept.queue, reserved := n } ∧
      (q.queue.length + n = 33 →
        ∃ before r after, q.queue = before ++ .report r :: after ∧ kept.queue = before ++ after ∧
          (∀ m ∈ after, m.isReport = false) ∧ (0 < q.sent → before ≠ [])) ∧
      (q.queue.length + n = 34 →
        ∃ before r₁ between r₂ after,
          q.queue = before ++ .report r₁ :: between ++ .report r₂ :: after ∧
          kept.queue = before ++ between ++ after ∧
          (∀ m ∈ between ++ after, m.isReport = false) ∧ (0 < q.sent → before ≠ []))

/-- Every request for which room can be made gives exactly one reply, with its tag and its kind, behind the
replies already queued (R196, R197). -/
def Obligations.EveryRequestIsAnsweredByOneReply : Prop :=
  ∀ (i : Instr) (k : RequestKind) (tag : Tag) (fs : List Nat) (s : State) (e : Egress),
    encodeRequest i = some (k, tag, fs) → s.rig.egress.secure i.places = some e →
    ∃ t status data, exec i s = .next t ∧ t.inbound = none ∧
      repliesOf t.rig.egress.queue = repliesOf s.rig.egress.queue ++
        [.reply k.sender tag k.code status data]

/-- A refused request changes nothing: after a reply whose status is not DONE, the part differs from what it
was in the closed message and the egress queue alone (00_scope, R196). -/
def Obligations.RefusedRequestChangesNothing : Prop :=
  ∀ (i : Instr) (k : RequestKind) (tag : Tag) (fs : List Nat) (s t : State) (e : Egress)
    (status : Status) (data : List Nat),
    encodeRequest i = some (k, tag, fs) → s.rig.egress.secure i.places = some e →
    exec i s = .next t →
    repliesOf t.rig.egress.queue = repliesOf s.rig.egress.queue ++
      [.reply k.sender tag k.code status data] →
    status ≠ .done → t = s.answered e [refusedWith tag k status]

/-- An index out of its range is refused with RANGE, whatever the other operands (R29 to R32, R44 to R47, R50,
R52, R71, R72, R97 to R109, R141, R155 to R157, R174 to R176). -/
def Obligations.IndexOutOfRangeIsRefused : Prop :=
  (∀ (s : State) (e : Egress) (tag : Tag) (n : Nat), s.rig.egress.secure 2 = some e → 6 ≤ n →
    exec (.callAnswer tag n) s = .next (s.answered e [refusedWith tag .callAnswer .range]) ∧
    exec (.callDrop tag n) s = .next (s.answered e [refusedWith tag .callDrop .range])) ∧
  ∀ (s : State) (e : Egress) (tag : Tag) (n a b c d f g h : Nat) (x y : Option Nat),
    s.rig.egress.secure 1 = some e →
    (48 ≤ n →
      exec (.routeSet tag n a b c d f g h) s =
        .next (s.answered e [refusedWith tag .routeSet .range]) ∧
      exec (.routeGain tag n a b) s = .next (s.answered e [refusedWith tag .routeGain .range]) ∧
      exec (.routeClear tag n a) s = .next (s.answered e [refusedWith tag .routeClear .range]) ∧
      exec (.routeRead tag n) s = .next (s.answered e [refusedWith tag .routeRead .range])) ∧
    (256 ≤ n →
      exec (.cartDefine tag n a b c d) s = .next (s.answered e [refusedWith tag .cartDefine .range]) ∧
      exec (.cartDelete tag n) s = .next (s.answered e [refusedWith tag .cartDelete .range]) ∧
      exec (.cartMarks tag n a b x y) s = .next (s.answered e [refusedWith tag .cartMarks .range]) ∧
      exec (.cartRecord tag n a b) s = .next (s.answered e [refusedWith tag .cartRecord .range]) ∧
      exec (.cartRecordStop tag n) s =
        .next (s.answered e [refusedWith tag .cartRecordStop .range]) ∧
      exec (.cartRead tag n) s = .next (s.answered e [refusedWith tag .cartRead .range])) ∧
    (6 ≤ n →
      exec (.deckStart tag n) s = .next (s.answered e [refusedWith tag .deckStart .range]) ∧
      exec (.deckFade tag n) s = .next (s.answered e [refusedWith tag .deckFade .range]) ∧
      exec (.deckCut tag n) s = .next (s.answered e [refusedWith tag .deckCut .range]) ∧
      exec (.deckPause tag n) s = .next (s.answered e [refusedWith tag .deckPause .range]) ∧
      exec (.deckResume tag n) s = .next (s.answered e [refusedWith tag .deckResume .range]) ∧
      exec (.deckRead tag n) s = .next (s.answered e [refusedWith tag .deckRead .range]) ∧
      exec (.callReady tag n) s = .next (s.answered e [refusedWith tag .callReady .range]) ∧
      exec (.callPark tag n) s = .next (s.answered e [refusedWith tag .callPark .range]) ∧
      exec (.lineRead tag n) s = .next (s.answered e [refusedWith tag .lineRead .range]) ∧
      exec (.lineRing tag n a) s = .next (s.answered e [refusedWith tag .lineRing .range]) ∧
      exec (.lineConnected tag n a) s = .next (s.answered e [refusedWith tag .lineConnected .range]) ∧
      exec (.lineHangup tag n a) s = .next (s.answered e [refusedWith tag .lineHangup .range])) ∧
    (7 ≤ n → exec (.callTake tag n) s = .next (s.answered e [refusedWith tag .callTake .range])) ∧
    (24 ≤ n →
      exec (.filterClear tag n) s = .next (s.answered e [refusedWith tag .filterClear .range])) ∧
    (16 ≤ n →
      exec (.alertConfirm tag n) s = .next (s.answered e [refusedWith tag .alertConfirm .range]) ∧
      exec (.alertDecline tag n) s = .next (s.answered e [refusedWith tag .alertDecline .range]) ∧
      exec (.alertAbort tag n) s = .next (s.answered e [refusedWith tag .alertAbort .range]) ∧
      exec (.alertForget tag n) s = .next (s.answered e [refusedWith tag .alertForget .range]) ∧
      exec (.alertRead tag n) s = .next (s.answered e [refusedWith tag .alertRead .range])) ∧
    (8 ≤ n →
      exec (.monitorClear tag n a) s = .next (s.answered e [refusedWith tag .monitorClear .range]) ∧
      exec (.monitorRead tag n a) s = .next (s.answered e [refusedWith tag .monitorRead .range]))

/-- A request that can be sent is read back from its message whole: the fields that its kind's field order
puts on the words spell it and nothing else (R201). -/
def Obligations.RequestMessageRoundTrip : Prop :=
  ∀ (i : Instr) (k : RequestKind) (tag : Tag) (fs : List Nat),
    i.wellFormed = true → encodeRequest i = some (k, tag, fs) → decodeRequest k tag fs = some i

/-- The words of a request's message, handed on one after another with no message open, carry out exactly that
request at the LAST word (R194 to R196, R200, R201). The model's choice are: that a request command is its LAST
word's event (notes/assumptions/5.md), and that words handed on one after another are all taken, the flag that the
receiver hands a word on not being cleared by one (notes/assumptions/6.md). -/
def Obligations.MessageWordsCarryOutTheRequest : Prop :=
  ∀ (i : Instr) (k : RequestKind) (tag : Tag) (fs : List Nat) (s : State),
    i.wellFormed = true → encodeRequest i = some (k, tag, fs) →
    s.trunk.handsWord = true → s.inbound = none →
    takeWords (messageWords k tag fs) s = exec i s

/-- A service word acts by its code and by whether a message is open (R195): with none open an IDLE, NEXT or
LAST word does nothing; a FIRST word opens a message, unless its class is the part's own; an open message keeps
a NEXT word's payload while it waits for one, and is discarded with BADFORM at a NEXT word too many, at an IDLE
word and at another FIRST word. A word that the receiver does not hand on is discarded (R1). -/
def Obligations.ServiceWordActsByItsCode : Prop :=
  ∀ (s : State) (p : Nat), p < 1073741824 →
    (s.trunk.handsWord = false → ∀ w, exec (.serviceWord w) s = .next s) ∧
    (s.trunk.handsWord = true → s.inbound = none →
      (∀ c : Nat, c = 0 ∨ c = 2 ∨ c = 3 → exec (.serviceWord (serviceWordOf c p)) s = .next s) ∧
      exec (.serviceWord (serviceWordOf 1 p)) s = .next (if p / 134217728 = 7 then s else
        { s with inbound := some { cls := p / 134217728, kind := p / 524288 % 256
                                   tag := BitVec.ofNat 8 (p / 2048), count := p / 32 % 64
                                   fields := [], sum := p } })) ∧
    (∀ m : OpenMessage, s.trunk.handsWord = true → s.inbound = some m →
      let reply : Outbound := .reply ((party? m.cls).getD .console) m.tag m.kind .badForm []
      let discarded : State :=
        { s with inbound := none, rig := { s.rig with egress := s.rig.egress.urgent reply } }
      exec (.serviceWord (serviceWordOf 0 p)) s = .next discarded ∧
      exec (.serviceWord (serviceWordOf 2 p)) s = .next (if m.fields.length < m.count then
        { s with inbound := some { m with fields := m.fields ++ [p], sum := m.sum + p } }
        else discarded) ∧
      exec (.serviceWord (serviceWordOf 1 p)) s = .next (if p / 134217728 = 7 then discarded else
        { discarded with
          inbound := some { cls := p / 134217728, kind := p / 524288 % 256
                            tag := BitVec.ofNat 8 (p / 2048), count := p / 32 % 64
                            fields := [], sum := p } }))

/-- A closing message is checked in order, and the first check that fails gives the reply: BADFORM for too few
fields, BADCHECK for a wrong sum, UNKNOWN for a class or kind that is none, DENIED for a kind of another sender
(R196). The model's choice are: that BAD_MESSAGE is the LAST word's event with the payload given, and that a BADFORM or
BADCHECK of the first two checks for a class that is no party goes to CONSOLE (notes/assumptions/6.md). -/
def Obligations.ClosingMessageChecksInOrder : Prop :=
  ∀ (s : State) (m : OpenMessage) (p : BitVec 30) (st : Status),
    s.trunk.handsWord = true → s.inbound = some m →
    firstRefusal
      [(m.fields.length < m.count, .badForm),
       (p.toNat ≠ m.sum % 65536, .badCheck),
       ((party? m.cls).isNone, .unknown),
       ((requestKind? m.kind).isNone, .unknown),
       ((requestKind? m.kind).map RequestKind.sender ≠ party? m.cls, .denied),
       (((requestKind? m.kind).bind fun k => decodeRequest k m.tag m.fields).isNone, .badForm)]
      = some st →
    let reply : Outbound := .reply ((party? m.cls).getD .console) m.tag m.kind st []
    let replied : State :=
      { s with inbound := none, rig := { s.rig with egress := s.rig.egress.urgent reply } }
    exec (.badMessage p) s = .next replied ∧
      exec (.serviceWord (serviceWordOf 3 p.toNat)) s = .next replied

/-- TRANSMIT_FRAME fills each lane from its out-map entry with what the source completed at the frame before,
and the service word with the next word of the head, which leaves the queue with its LAST word; an empty queue
sends an IDLE word (R9, R197). That the payload bits of an IDLE word are 0 is the model's choice
(notes/assumptions/8.md): the rules give its code 0 alone. -/
def Obligations.TransmitFrameSendsOneFrame : Prop :=
  ∀ s : State, ∃ t, exec .transmitFrame s = .next t ∧
    (∀ i : Fin 16, t.outFrame.lanes[i] = s.taken.signal s.outMap[i]) ∧
    (s.rig.egress.queue = [] → t.outFrame.word = 0 ∧ t.rig.egress.queue = [] ∧
      t.rig.egress.sent = 0) ∧
    (∀ m rest, s.rig.egress.queue = m :: rest → s.rig.egress.sent < m.fields.length + 2 →
      m.words[s.rig.egress.sent]? = some t.outFrame.word ∧
      (s.rig.egress.sent < m.fields.length + 1 →
        t.rig.egress.queue = m :: rest ∧ t.rig.egress.sent = s.rig.egress.sent + 1) ∧
      (s.rig.egress.sent = m.fields.length + 1 →
        t.rig.egress.queue = rest ∧ t.rig.egress.sent = 0)) ∧
    t = { s with
      outFrame := t.outFrame
      rig := { s.rig with egress := { s.rig.egress with
        queue := t.rig.egress.queue, sent := t.rig.egress.sent } } }

/-! ### Chapter 1: frames, lanes and station time -/

/-- The receiver's lock machine and its counts (R2 to R5): each event's effect in each state, with nothing else
of the part changed. At the aligned frame that makes the settle count 4,800 the receiver becomes LOCKED, the
clock's source becomes TRUNK, and TRUNK_EVENT LOCKED is queued with the holdover length. The model's choice are:
that LOCK_EVENT is that aligned frame, and SETTLING_FAILURE that failed position, and that each is no event when
it is not due (notes/assumptions/4.md), and that the settle count is 0 in LOCKED (notes/assumptions/11.md). -/
def Obligations.LockMachineFollowsItsTable : Prop :=
  (∀ (s : State) (lanes : Vector Sample 16),
     exec .activitySeen s = .next (if s.trunk.lock = .noSignal
       then { s with trunk := { s.trunk with lock := .acquiring } } else s) ∧
     exec .alignmentFound s = .next (if s.trunk.lock = .acquiring
       then { s with trunk := { s.trunk with lock := .settling, settleCount := 0, failureCount := 0 } }
       else s) ∧
     (s.trunk.lock = .acquiring ∨ s.trunk.lock = .settling → exec .activityCeases s = .next { s with
       inbound := none
       trunk := { lock := .noSignal, settleCount := 0, failureCount := 0, handsWord := false } }) ∧
     (s.trunk.lock = .noSignal → exec .activityCeases s = .next s) ∧
     (s.trunk.lock = .noSignal ∨ s.trunk.lock = .acquiring →
       exec (.alignedFrame lanes) s = .next s ∧ exec .failedPosition s = .next s) ∧
     (s.trunk.lock = .settling → s.trunk.settleCount + 1 < 4800 →
       exec (.alignedFrame lanes) s = .next { s with
         trunk := { s.trunk with settleCount := s.trunk.settleCount + 1, failureCount := 0 } }) ∧
     (s.trunk.lock = .settling → s.trunk.failureCount + 1 < 3 →
       exec .failedPosition s = .next { s with
         trunk := { s.trunk with settleCount := 0, failureCount := s.trunk.failureCount + 1 } } ∧
       exec .settlingFailure s = .next s) ∧
     (s.trunk.lock = .settling → 3 ≤ s.trunk.failureCount + 1 →
       exec .settlingFailure s = .next { s with
         inbound := none
         trunk := { lock := .noSignal, settleCount := 0, failureCount := 0, handsWord := false } } ∧
       exec .failedPosition s = exec .settlingFailure s) ∧
     (s.trunk.lock = .locked → exec (.alignedFrame lanes) s = .next { s with
       completed := { s.completed with lanes := lanes }
       trunk := { s.trunk with failureCount := 0, handsWord := true } }) ∧
     (s.trunk.lock = .locked → s.trunk.failureCount + 1 < 3 →
       exec .failedPosition s = .next { s with
         completed := { s.completed with lanes := Vector.replicate 16 0 }
         inbound := none
         trunk := { s.trunk with failureCount := s.trunk.failureCount + 1, handsWord := false } })) ∧
  (∀ (s : State) (lanes : Vector Sample 16), s.trunk.lock = .settling →
     (4800 ≤ s.trunk.settleCount + 1 →
       exec .lockEvent s = .next { s with
         trunk := { lock := .locked, settleCount := 0, failureCount := 0, handsWord := false }
         clock := { s.clock with source := .trunk }
         rig := { s.rig with egress := s.rig.egress.report (.trunkLocked s.clock.holdover) } } ∧
       exec (.alignedFrame lanes) s = exec .lockEvent s) ∧
     (s.trunk.settleCount + 1 < 4800 → exec .lockEvent s = .next s))

/-- Frame loss, at the third failure in a row or at once when activity ceases (R5, R6): NO_SIGNAL with both
counts 0 and no message open, silence on every lane handed on, the clock on its crystal with the holdover count
0, every cart recording abandoned (R53), and no alert recording left in progress (R146). The model's choice are:
that FRAME_LOSS is that failed position (notes/assumptions/4.md), and that TRUNK_EVENT LOST is the last report
queued (notes/assumptions/7.md). -/
def Obligations.FrameLossLeavesLocked : Prop :=
  ∀ s : State, s.trunk.lock = .locked → s.rig.alertLaw →
    (3 ≤ s.trunk.failureCount + 1 → exec .failedPosition s = exec .frameLoss s) ∧
    ∀ i : Instr, i = .activityCeases ∨ i = .frameLoss ∧ 3 ≤ s.trunk.failureCount + 1 →
      ∃ t, exec i s = .next t ∧
        t.trunk = { lock := .noSignal, settleCount := 0, failureCount := 0, handsWord := false } ∧
        t.inbound = none ∧ t.clock = { s.clock with source := .crystal, holdover := 0 } ∧
        t.completed = { s.completed with lanes := Vector.replicate 16 0 } ∧
        (∀ k : RecorderId, (t.rig.recorder k).binding = .free) ∧
        (∀ c : CartId, t.rig.cart c = if (s.rig.cart c).state = .recording
          then { s.rig.cart c with
            state := .defined, length := 0, cueIn := 0, intro := none, segue := none, cueOut := 0 }
          else s.rig.cart c) ∧
        (∀ k : RecordId, (s.rig.record k).state = .recording →
          (s.rig.alertPosition k < 48000 → (t.rig.record k).state = .aborted) ∧
          (48000 ≤ s.rig.alertPosition k → (t.rig.record k).truncated = true ∧
            (t.rig.record k).recordedLength = s.rig.alertPosition k ∧
            (t.rig.record k).state ≠ .recording)) ∧
        (∃ before : Egress, t.rig.egress = before.report .trunkLost) ∧
        t.outMap = s.outMap ∧ t.mix = s.mix ∧ t.store = s.store ∧ t.callers = s.callers ∧
        t.link = s.link ∧ t.outFrame = s.outFrame ∧ t.taken = s.taken ∧ t.pending = s.pending

/-- A frame event of the Station Clock that does not complete a second (R7, R8, R12, R100): 1 is added to the
frame count, the holdover count goes on while the source is the crystal, what was completed becomes what is
taken, lanes are silence outside LOCKED, and every ANSWERING line's timer falls by 1. That this event moves what was
completed to what is taken, and hands on silence outside LOCKED, is the model's reading of R7 and R8
(notes/assumptions/2.md). -/
def Obligations.ClockFrameCountsOneFrame : Prop :=
  ∀ s : State, s.clock.frameCount + 1 < 48000 →
    (∀ k : LineId, (s.line k).state = .answering → 1 < (s.line k).answerTimer) →
    ∃ t, exec .stationClockFrame s = .next t ∧
      t.clock = { s.clock with
        frameCount := s.clock.frameCount + 1
        holdover := if s.clock.source = .crystal
          then (if s.clock.holdover < 4294967295 then s.clock.holdover + 1 else 4294967295)
          else s.clock.holdover } ∧
      t.taken = s.completed ∧
      t.completed = (if s.trunk.lock = .locked then s.completed
        else { s.completed with lanes := Vector.replicate 16 0 }) ∧
      (∀ k : LineId, t.line k = if (s.line k).state = .answering
        then { s.line k with answerTimer := (s.line k).answerTimer - 1 } else s.line k) ∧
      t = { s with clock := t.clock, taken := t.taken, completed := t.completed, callers := t.callers } ∧
      t.callers = { s.callers with lines := t.callers.lines }

/-- At the frame event that makes the frame count 48,000 the count becomes 0 and station seconds rise by 1, or
become 0 after 1,073,741,823 (R12); a live alert record whose valid-until the new value reaches while it waits
or is queued becomes EXPIRED, one whose window it reaches leaves AWAITING as its filter says, and a TIMED entry
it reaches is flagged (R83, R149), after which the running order settles. Where the seconds wrap, every deadline of a
live record at or above 1,073,741,824 first falls by that much and every other becomes 0 (R148). The model's choice
are: that SECOND_ADVANCE, VALIDITY_EXPIRY, WINDOW_EXPIRY and TIME_REACHED are that whole clock frame
(notes/assumptions/4.md), that the new value goes to the running order before the alerts (notes/assumptions/7.md),
and that a RECORDING record keeps by a flag that its valid-until was reached (notes/assumptions/33.md). -/
def Obligations.SecondAdvanceReachesDeadlines : Prop :=
  ∀ s : State, s.clock.frameCount = 47999 →
    let now := if s.clock.seconds < 1073741823 then s.clock.seconds + 1 else 0
    (∃ t, exec .secondAdvance s = .next t ∧ exec .stationClockFrame s = .next t ∧
      t.clock.frameCount = 0 ∧ t.clock.seconds = now ∧ t.clock.timeValid = s.clock.timeValid ∧
      t.clock.source = s.clock.source ∧ t.trunk = s.trunk ∧ t.inbound = s.inbound ∧ t.mix = s.mix ∧
      t.store = s.store ∧ t.link = s.link ∧ t.rig.library = s.rig.library ∧
      t.rig.alerts.filters = s.rig.alerts.filters ∧ t.rig.alerts.recent = s.rig.alerts.recent ∧
      t.rig.monitors.settings = s.rig.monitors.settings ∧ t.outMap = s.outMap ∧
      (∀ i : RecordId, ((s.rig.record i).moved fun d => if s.clock.seconds < 1073741823 then d
          else if 1073741824 ≤ d then d - 1073741824 else 0).compared (t.rig.record i) now
        s.rig.alerts.airing.isNone) ∧
      (s.clock.seconds < 1073741823 → t.rig.order = (s.rig.timesReached now).settle.order)) ∧
    (s.clock.seconds < 1073741823 → ∀ i : RecordId,
      ((s.rig.record i).state = .awaiting ∨ (s.rig.record i).state = .queued) →
      ((s.rig.record i).validUntil ≤ now → ∃ t, exec (.validityExpiry i) s = .next t ∧
        t.rig.record i = { s.rig.record i with state := .expired } ∧ t.clock.seconds = now) ∧
      (now < (s.rig.record i).validUntil → (s.rig.record i).state = .awaiting →
        ∀ d, (s.rig.record i).deadline = some d → d ≤ now →
        ∃ t, exec (.windowExpiry i) s = .next t ∧ t.clock.seconds = now ∧
          ((s.rig.record i).expiryAction = .drop →
            t.rig.record i = { s.rig.record i with state := .declined }) ∧
          ((s.rig.record i).expiryAction = .air →
            (t.rig.record i).state = .queued ∨ (t.rig.record i).state = .airing))) ∧
    (s.rig.order.law → ∀ e ∈ s.rig.order.entries, e.mode = .timed → e.timeReached = false →
      (∀ d, e.startTime = some d → d ≤ now) → e.startTime.isSome = true →
      ∃ t, exec (.timeReached e.tag) s = .next t ∧ t.clock.seconds = now ∧
        ∀ x ∈ t.rig.order.entries, x.tag = e.tag → x.timeReached = true)

/-- TIME_SET sets station seconds, the frame count and the time-valid flag at its event, and hands the new value
on: at the first one the deadlines of every live record, RECORDING, AWAITING, QUEUED or AIRING, move by the step before
they are compared with it (R13, R14, R148, R149), and a TIMED entry whose start time it reaches is flagged, after which
the running order settles (R83). The model's choice are: that a deadline that would move below 0 becomes 0
(notes/assumptions/17.md), that a RECORDING record keeps by a flag that its valid-until was reached
(notes/assumptions/33.md), that the new value goes to the running order before the alerts (notes/assumptions/7.md),
and that the reply stands before what follows (notes/assumptions/15.md). -/
def Obligations.TimeSetSetsStationTime : Prop :=
  ∀ (s : State) (e : Egress) (tag : Tag) (n : Nat), s.rig.egress.secure 1 = some e →
    (1073741823 < n → exec (.timeSet tag n) s =
      .next (s.answered e [refusedWith tag .timeSet .range])) ∧
    (n ≤ 1073741823 → ∃ t, exec (.timeSet tag n) s = .next t ∧
      t.clock = { s.clock with seconds := n, frameCount := 0, timeValid := true } ∧
      t.inbound = none ∧ t.trunk = s.trunk ∧ t.mix = s.mix ∧ t.store = s.store ∧
      t.callers = s.callers ∧ t.link = s.link ∧ t.outMap = s.outMap ∧ t.completed = s.completed ∧
      t.rig.library = s.rig.library ∧
      (∀ i : RecordId, (s.rig.record i).live = false → t.rig.record i = s.rig.record i) ∧
      (∀ i : RecordId, ((s.rig.record i).moved fun d => if s.clock.timeValid = true then d
          else d + n - s.clock.seconds).compared (t.rig.record i) n s.rig.alerts.airing.isNone) ∧
      (s.clock.timeValid = false → ∀ i : RecordId,
        let a := s.rig.record i
        a.state = .recording ∨ a.state = .airing →
        (t.rig.record i).validUntil = a.validUntil + n - s.clock.seconds ∧
        (t.rig.record i).deadline = (a.deadline.map fun d => d + n - s.clock.seconds) ∧
        (t.rig.record i).state = a.state) ∧
      (s.clock.timeValid = true → ∀ i : RecordId,
        ((s.rig.record i).state = .awaiting ∨ (s.rig.record i).state = .queued) →
        (s.rig.record i).validUntil ≤ n → (t.rig.record i).state = .expired) ∧
      (s.clock.timeValid = true → t.rig.order =
        ((s.answered e [doneWith tag .timeSet []]).rig.timesReached n).settle.order) ∧
      (s.rig.order.law → ∀ x ∈ s.rig.order.entries, x.mode = .timed → x.timeReached = false →
        ∀ y ∈ t.rig.order.entries, y.tag = x.tag →
          (y.timeReached = true ↔ x.startTime.any (fun d => d ≤ n) = true)) ∧
      repliesOf t.rig.egress.queue = repliesOf e.queue ++ [doneWith tag .timeSet []])

/-- OUTMAP_SET makes its assignments together, each lane at most once, and leaves every other lane's entry, or
is refused with RANGE; an outbound frame is filled from the out-map as it stands at that frame's event (R11). -/
def Obligations.OutmapSetAssignsTheGivenLanes : Prop :=
  (∀ s : State, ∃ t, exec .transmitFrame s = .next t ∧ t.outMap = s.outMap ∧
    ∀ i : Fin 16, t.outFrame.lanes[i] = s.taken.signal s.outMap[i]) ∧
  ∀ (s : State) (e : Egress) (tag : Tag) (items : List (Nat × Nat)),
    s.rig.egress.secure 1 = some e →
    (items = [] ∨ 16 < items.length ∨ ¬ (items.map Prod.fst).Nodup ∨
        (∃ i ∈ items, 16 ≤ i.1 ∨ signal? i.2 = none) →
      exec (.outmapSet tag items) s = .next (s.answered e [refusedWith tag .outmapSet .range])) ∧
    (items ≠ [] → items.length ≤ 16 → (items.map Prod.fst).Nodup →
      (∀ i ∈ items, i.1 < 16 ∧ signal? i.2 ≠ none) →
      ∃ m : Vector Signal 16, exec (.outmapSet tag items) s =
          .next { s.answered e [doneWith tag .outmapSet []] with outMap := m } ∧
        (∀ i : Fin 16, ∀ c, (i.val, c) ∈ items → some m[i] = signal? c) ∧
        ∀ i : Fin 16, (∀ c, (i.val, c) ∉ items) → m[i] = s.outMap[i])

/-! ### Chapter 2: the mix engine -/

/-- MIX_FRAME completes the buses as saturated exact sums of the terms of the in-use routes, the HOLD feed from
the saturated PGM, and each line's return by its state, leaving out every route from that line before
saturation (R16, R22, R26 to R28). A route's term is its source value (R18), brought to the form of its destination
(R19), times its effective gain, which the line gate and the duck factor reduce, each product rounded half up (R21). -/
def Obligations.MixFrameFormsBusesAndReturns : Prop :=
  (∀ (s : State) (duckFactor : Nat) (r : Route),
     let gated := match r.source with
       | .line _ => (r.current * r.gateFactor + 8192) / 16384
       | _ => r.current
     let gain := if r.destination = .pgm ∧ r.duckable = true
       then (gated * duckFactor + 8192) / 16384 else gated
     let term := fun x : Int => (x * gain + 8192) / 16384
     s.terms duckFactor r = match r.destination, s.sides r.source with
       | .scr, (x, none) => (term x, 0)
       | .scr, (x, some y) => (term ((x + y) / 2), 0)
       | _, (x, none) => (term x, term x)
       | _, (x, some y) => (term x, term y)) ∧
  ∀ s : State, ∃ t, exec .mixFrame s = .next t ∧
    (let sum := fun bus except left => s.sideSum t.mix.duckFactor bus t.mix.routes except left
     t.completed.pgm.l.toInt = limited (sum .pgm none true) ∧
     t.completed.pgm.r.toInt = limited (sum .pgm none false) ∧
     t.completed.cue.l.toInt = limited (sum .cue none true) ∧
     t.completed.cue.r.toInt = limited (sum .cue none false) ∧
     t.completed.scr.toInt = limited (sum .scr none true) ∧
     t.completed.holdFeed.toInt = limited
       (((t.completed.pgm.l.toInt + t.completed.pgm.r.toInt) / 2 * s.callers.holdGain + 8192) / 16384) ∧
     ∀ k : LineId, (t.completed.returns[k]).toInt =
       match (s.line k).state with
       | .onAir => limited ((limited ((sum .pgm (some k) true + sum .pgm (some k) false) / 2) *
           (s.line k).returnGain + 8192) / 16384)
       | .screen => limited ((limited (sum .scr (some k) true) * (s.line k).returnGain + 8192) / 16384)
       | .hold => t.completed.holdFeed.toInt
       | .idle | .ringing | .answering => 0) ∧
    t = { s with
      mix := { s.mix with
        routes := t.mix.routes, duckFactor := t.mix.duckFactor, sinceVoice := t.mix.sinceVoice }
      completed := { s.completed with
        pgm := t.completed.pgm, cue := t.completed.cue, scr := t.completed.scr
        holdFeed := t.completed.holdFeed, returns := t.completed.returns }
      rig := { s.rig with egress := t.rig.egress } }

/-- A frame event moves every in-use route's gain ramp one step, sets the target exactly on its last frame and
frees a clearing route there with ROUTE_EVENT FREED, and leaves free entries as they are (R17, R23, R31). The model's
choice are: that ROUTE_RAMP_END is that whole frame event (notes/assumptions/4.md), and that the FREED reports of one
frame event are queued in index order (notes/assumptions/7.md). -/
def Obligations.RouteRampsMoveOneStepAFrame : Prop :=
  ∀ (s : State) (i : RouteId), ∃ t, exec .mixFrame s = .next t ∧
    (s.mix.routes[i].inUse = false → t.mix.routes[i] = s.mix.routes[i]) ∧
    (s.mix.routes[i].inUse = true → s.mix.routes[i].clearing = true →
      s.mix.routes[i].remaining ≤ 1 → t.mix.routes[i] = .free) ∧
    (s.mix.routes[i].inUse = true →
      s.mix.routes[i].clearing = false ∨ 1 < s.mix.routes[i].remaining →
      t.mix.routes[i] = { s.mix.routes[i] with
        current := if s.mix.routes[i].remaining = 0 then s.mix.routes[i].current
          else if s.mix.routes[i].remaining = 1 then s.mix.routes[i].target
          else (s.mix.routes[i].current + s.mix.routes[i].step).toNat
        remaining := s.mix.routes[i].remaining - 1
        gateFactor := (t.mix.routes[i]).gateFactor
        gateRemaining := (t.mix.routes[i]).gateRemaining
        gateStep := (t.mix.routes[i]).gateStep
        gateOpen := (t.mix.routes[i]).gateOpen }) ∧
    (let freed := (List.finRange 48).filter fun j : RouteId => decide
        (s.mix.routes[j].inUse = true ∧ s.mix.routes[j].clearing = true ∧ s.mix.routes[j].remaining ≤ 1)
     t.rig = { s.rig with
       egress := (freed.map fun j => Report.routeFreed j).foldl Egress.report s.rig.egress }) ∧
    (s.mix.routes[i].inUse = true → s.mix.routes[i].remaining = 1 →
      exec (.routeRampEnd i) s = .next t)

/-- The line gate of a LINE route that stays in use (R20): while its target stands it takes one step a frame and
reaches the goal exactly on the last; a changed target starts 512 steps from where the gate stands. The model's
choice are: that the first step is taken at the following frame event, and that the target is kept as a flag
(notes/assumptions/9.md), and that GATE_RAMP_END is the whole frame event of the last step
(notes/assumptions/4.md). -/
def Obligations.LineGatesMoveOneStepAFrame : Prop :=
  ∀ (s : State) (i : RouteId) (k : LineId), s.mix.routes[i].inUse = true →
    s.mix.routes[i].source = .line k →
    s.mix.routes[i].clearing = false ∨ 1 < s.mix.routes[i].remaining →
    let r := s.mix.routes[i]
    let wanted : Bool := match r.destination with
      | .pgm => (s.line k).state == .onAir && !(s.line k).muted
      | .scr => (s.line k).state == .screen
      | .cue => (s.line k).state == .screen || (s.line k).state == .hold || (s.line k).state == .onAir
    ∃ t, exec .mixFrame s = .next t ∧
      (wanted = r.gateOpen →
        t.mix.routes[i].gateOpen = r.gateOpen ∧ t.mix.routes[i].gateStep = r.gateStep ∧
        t.mix.routes[i].gateRemaining = r.gateRemaining - 1 ∧
        t.mix.routes[i].gateFactor = if r.gateRemaining = 0 then r.gateFactor
          else if r.gateRemaining = 1 then (if r.gateOpen = true then 16384 else 0)
          else (r.gateFactor + r.gateStep).toNat) ∧
      (wanted ≠ r.gateOpen → r.gateRemaining = 0 → (r.gateFactor = if wanted = true then 16384 else 0) →
        t.mix.routes[i].gateOpen = wanted ∧ t.mix.routes[i].gateFactor = r.gateFactor ∧
        t.mix.routes[i].gateRemaining = 0) ∧
      (wanted ≠ r.gateOpen → (0 < r.gateRemaining ∨ r.gateFactor ≠ if wanted = true then 16384 else 0) →
        t.mix.routes[i].gateOpen = wanted ∧ t.mix.routes[i].gateFactor = r.gateFactor ∧
        t.mix.routes[i].gateRemaining = 512 ∧
        t.mix.routes[i].gateStep =
          (((if wanted = true then 16384 else 0 : Nat) : Int) - r.gateFactor).tdiv 512) ∧
      (wanted = r.gateOpen → r.gateRemaining = 1 → exec (.gateRampEnd i) s = .next t)

/-- The voice gate and the duck factor move once a frame (R24, R25): the count of frames since voice is 0 when
voice is detected and else rises by 1, stopping at 48,001; the factor moves toward its goal by its rate and
stops there. Voice is detected when a route in use into PGM with its voice flag, whose gate target is not closed, has a
source value at or above the threshold on either side. That VOICE_HOLD_EXPIRY is the whole frame event at which the
count passes the hold is the model's choice (notes/assumptions/4.md). -/
def Obligations.VoiceGateDrivesTheDuckFactor : Prop :=
  (∀ (s : State) (routes : Vector Route 48), s.voiceDetected routes = true ↔
     ∃ i : RouteId, routes[i].inUse = true ∧ routes[i].destination = .pgm ∧ routes[i].voice = true ∧
       (∀ k, routes[i].source = .line k → (s.line k).state = .onAir ∧ (s.line k).muted = false) ∧
       (s.mix.duck.threshold ≤ (s.sides routes[i].source).1.natAbs ∨
         ∃ y, (s.sides routes[i].source).2 = some y ∧ s.mix.duck.threshold ≤ y.natAbs)) ∧
  ∀ s : State, ∃ t, exec .mixFrame s = .next t ∧
    t.mix.sinceVoice = (if s.voiceDetected t.mix.routes = true then 0
      else min 48001 (s.mix.sinceVoice + 1)) ∧
    (t.mix.sinceVoice ≤ s.mix.duck.hold → t.mix.duckFactor =
      if s.mix.duck.depth < s.mix.duckFactor
      then max s.mix.duck.depth (s.mix.duckFactor - s.mix.duck.attack)
      else min s.mix.duck.depth (s.mix.duckFactor + s.mix.duck.attack)) ∧
    (s.mix.duck.hold < t.mix.sinceVoice → t.mix.duckFactor =
      if 16384 < s.mix.duckFactor then max 16384 (s.mix.duckFactor - s.mix.duck.release)
      else min 16384 (s.mix.duckFactor + s.mix.duck.release)) ∧
    (s.mix.sinceVoice = s.mix.duck.hold → s.mix.duck.hold ≤ 48000 →
      s.voiceDetected t.mix.routes = false →
      exec .voiceHoldExpiry s = .next t ∧ t.mix.sinceVoice = s.mix.duck.hold + 1)

/-- A ramp that the engine starts reaches its target after exactly 2 to the power r frames: after every earlier
frame it stands at the start plus that many steps, never outside the two gains (R23). -/
def Obligations.RampReachesItsTargetInItsLength : Prop :=
  ∀ (r : Route) (target x : Nat), target ≤ 65535 → r.current ≤ 65535 → x ≤ 12 → target ≠ r.current →
    let start := Route.ramped { r with target := target, exponent := x }
    start.remaining = 2 ^ x ∧
    (∀ j, j < 2 ^ x →
      ((Nat.repeat Route.rampFrame j start).current : Int) =
        r.current + j * ((target : Int) - r.current).tdiv (2 ^ x) ∧
      (Nat.repeat Route.rampFrame j start).remaining = 2 ^ x - j ∧
      min target r.current ≤ (Nat.repeat Route.rampFrame j start).current ∧
      (Nat.repeat Route.rampFrame j start).current ≤ max target r.current) ∧
    (Nat.repeat Route.rampFrame (2 ^ x) start).current = target ∧
    (Nat.repeat Route.rampFrame (2 ^ x) start).remaining = 0

/-- ROUTE_SET, ROUTE_GAIN and ROUTE_CLEAR change one entry as their rules say and start its ramp, refusing in
the order of the rules; DUCK_SET sets the five duck settings together, or is refused with RANGE and changes
nothing (R23, R29 to R31, R33). The model's choice are: that ROUTE_EVENT FREED follows the reply of ROUTE_CLEAR
(notes/assumptions/15.md), and that a target gain or a flag out of its range is refused with RANGE where R29 and
R30 name no status (notes/assumptions/16.md). -/
def Obligations.RouteAndDuckRequestsSetTheirRecord : Prop :=
  (∀ (s : State) (e : Egress) (tag : Tag) (i : RouteId) (gain x : Nat),
     s.rig.egress.secure 1 = some e →
     (∀ kind number destination voice duckable : Nat,
       let made : Route :=
         { inUse := true, clearing := false, source := (routeSource? kind number).getD (.lane 0)
           destination := (bus? destination).getD .pgm, target := gain, current := 0
           exponent := min x 12, remaining := if gain = 0 then 0 else 2 ^ min x 12
           step := ((gain / 2 ^ min x 12 : Nat) : Int), voice := voice == 1
           duckable := duckable == 1, gateFactor := 0, gateRemaining := 0, gateStep := 0
           gateOpen := false }
       exec (.routeSet tag i kind number destination gain x voice duckable) s =
         .next (s.outcome e tag .routeSet
           [((routeSource? kind number).isNone, .range), ((bus? destination).isNone, .range),
            (65535 < gain, .range), (1 < voice, .range), (1 < duckable, .range),
            ((voice = 1 ∨ duckable = 1) ∧ destination ≠ 0, .range), (s.mix.routes[i].inUse, .busy)]
           { s.answered e [doneWith tag .routeSet []] with
             mix := { s.mix with routes := vset s.mix.routes i made } })) ∧
     (let moved : Route := { s.mix.routes[i] with
         target := gain, exponent := min x 12
         remaining := if gain = s.mix.routes[i].current then 0 else 2 ^ min x 12
         step := ((gain : Int) - s.mix.routes[i].current).tdiv (2 ^ min x 12) }
     exec (.routeGain tag i gain x) s = .next (s.outcome e tag .routeGain
       [(65535 < gain, .range), (!s.mix.routes[i].inUse, .absent), (s.mix.routes[i].clearing, .state)]
       { s.answered e [doneWith tag .routeGain []] with
         mix := { s.mix with routes := vset s.mix.routes i moved } })) ∧
     (let clearing : Route := { s.mix.routes[i] with
         clearing := true, target := 0, exponent := min x 12, remaining := 2 ^ min x 12
         step := (-(s.mix.routes[i].current : Int)).tdiv (2 ^ min x 12) }
     exec (.routeClear tag i x) s = .next (s.outcome e tag .routeClear
       [(!s.mix.routes[i].inUse, .absent)]
       (if s.mix.routes[i].current = 0 then
         { s with
           inbound := none
           mix := { s.mix with routes := vset s.mix.routes i .free }
           rig := { s.rig with egress :=
             (e.answered [doneWith tag .routeClear []]).report (.routeFreed i) } }
       else { s.answered e [doneWith tag .routeClear []] with
         mix := { s.mix with routes := vset s.mix.routes i clearing } })))) ∧
  (∀ (s : State) (e : Egress) (tag : Tag) (depth attack release threshold hold : Nat),
     s.rig.egress.secure 1 = some e →
     exec (.duckSet tag depth attack release threshold hold) s =
       .next (if depth ≤ 16384 ∧ 1 ≤ attack ∧ attack ≤ 1024 ∧ 1 ≤ release ∧ release ≤ 1024 ∧
           threshold ≤ 8388607 ∧ hold ≤ 48000
         then { s.answered e [doneWith tag .duckSet []] with mix := { s.mix with duck :=
           { depth := depth, attack := attack, release := release, threshold := threshold
             hold := hold } } }
         else s.answered e [refusedWith tag .duckSet .range]))

/-! ### Chapter 3: the sample store, carts and recorders -/

/-- REGION_SET sets one region, checked in its order: the range, the delay's BYPASS or the alerts' being settled,
and pages already in use; a page count of 0 sets the start page to 0 (R40). -/
def Obligations.RegionSetSetsOneRegion : Prop :=
  ∀ (s : State) (e : Egress) (tag : Tag) (start pages : Nat), s.rig.egress.secure 1 = some e →
    let given : Region := { start := if pages = 0 then 0 else start, pages := pages }
    exec (.regionSet tag 0 start pages) s = .next (s.outcome e tag .regionSet
      [(128 < pages ∨ (pages ≠ 0 ∧ 4096 < start + pages), .range),
       (s.rig.delay.state ≠ .bypass, .state),
       (pagesMeet start pages s.rig.library.alertRegion.start s.rig.library.alertRegion.pages = true ∨
         ∃ c : CartId, (s.rig.cart c).state ≠ .empty ∧
           pagesMeet start pages (s.rig.cart c).start (s.rig.cart c).pages = true, .busy)]
      ((s.answered e [doneWith tag .regionSet []]).onRig fun r =>
        { r with library := { r.library with delayRegion := given } })) ∧
    exec (.regionSet tag 1 start pages) s = .next (s.outcome e tag .regionSet
      [(pages % 16 ≠ 0 ∨ 2048 < pages ∨ (pages ≠ 0 ∧ 4096 < start + pages), .range),
       (∃ i : RecordId, (s.rig.record i).live = true, .busy),
       (pagesMeet start pages s.rig.library.delayRegion.start s.rig.library.delayRegion.pages = true ∨
         ∃ c : CartId, (s.rig.cart c).state ≠ .empty ∧
           pagesMeet start pages (s.rig.cart c).start (s.rig.cart c).pages = true, .busy)]
      ((s.answered e [doneWith tag .regionSet []]).onRig fun r =>
        { r with library := { r.library with alertRegion := given } })) ∧
    ∀ n, 2 ≤ n → exec (.regionSet tag n start pages) s =
      .next (s.answered e [refusedWith tag .regionSet .range])

/-- CART_DEFINE gives a cart its extent, form and class and clears what was recorded, CART_MARKS sets the four marks,
each clamped to the length, and CART_DELETE makes a cart EMPTY and takes the WAITING entries that name it from the
running order, with ENTRY_EVENT REMOVED and cause CART for each in list order, so that no entry names it; the others
stay, and the order settles; each request checks in the order of its rule (R44 to R46, R85). That the reports stand
before the reply and the settling comes after it is the model's choice (notes/assumptions/15.md,
notes/assumptions/24.md). -/
def Obligations.CartRequestsDefineMarkAndDelete : Prop :=
  (∀ (s : State) (e : Egress) (tag : Tag) (c : CartId), s.rig.egress.secure 1 = some e →
     (∀ start pages form cls : Nat,
       let made : Cart :=
         { state := .defined, start := start, pages := pages
           form := if form = 0 then .mono else .stereo
           cls := if cls = 0 then .program else .service
           length := 0, cueIn := 0, intro := none, segue := none, cueOut := 0 }
       exec (.cartDefine tag c start pages form cls) s = .next (s.outcome e tag .cartDefine
         [(pages = 0 ∨ 4096 < pages ∨ 4096 < start + pages ∨ 1 < form ∨ 1 < cls, .range),
          (s.rig.cartHeld c, .busy), ((s.rig.cart c).state = .ready, .state),
          (pagesMeet start pages s.rig.library.delayRegion.start s.rig.library.delayRegion.pages = true ∨
            pagesMeet start pages s.rig.library.alertRegion.start s.rig.library.alertRegion.pages = true ∨
            ∃ b : CartId, b ≠ c ∧ (s.rig.cart b).state ≠ .empty ∧
              pagesMeet start pages (s.rig.cart b).start (s.rig.cart b).pages = true, .busy)]
         ((s.answered e [doneWith tag .cartDefine []]).onRig (·.setCart c made)))) ∧
     ∀ (cueIn cueOut : Nat) (intro segue : Option Nat),
       let x := s.rig.cart c
       let marks : List Nat := min cueIn x.length :: (intro.map (min · x.length)).toList ++
         (segue.map (min · x.length)).toList ++ [min cueOut x.length]
       exec (.cartMarks tag c cueIn cueOut intro segue) s = .next (s.outcome e tag .cartMarks
         [(x.state ≠ .ready, .state),
          (∃ d : DeckId, (s.rig.deck d).state ≠ .empty ∧ (s.rig.deck d).source = .cart c, .busy),
          (¬ marks.Pairwise (· ≤ ·), .range)]
         ((s.answered e [doneWith tag .cartMarks []]).onRig (·.setCart c { x with
           cueIn := min cueIn x.length, cueOut := min cueOut x.length
           intro := intro.map (min · x.length), segue := segue.map (min · x.length) })))) ∧
  (∀ (s : State) (e : Egress) (tag : Tag) (c : CartId), s.rig.egress.secure 1 = some e →
     (s.rig.cartHeld c = true →
       exec (.cartDelete tag c) s = .next (s.answered e [refusedWith tag .cartDelete .busy])) ∧
     (s.rig.cartHeld c = false → (s.rig.cart c).state = .empty →
       exec (.cartDelete tag c) s = .next (s.answered e [doneWith tag .cartDelete []])) ∧
     (s.rig.cartHeld c = false → (s.rig.cart c).state ≠ .empty →
       ∃ t, exec (.cartDelete tag c) s = .next t ∧
         t.rig.library = { s.rig.library with carts := vset s.rig.library.carts c .empty } ∧
         (∀ x ∈ t.rig.order.entries, x.cart ≠ c) ∧
         (∀ x ∈ t.rig.order.entries, ∃ y ∈ s.rig.order.entries, x.tag = y.tag ∧ x.cart = y.cart) ∧
         repliesOf t.rig.egress.queue = repliesOf e.queue ++ [doneWith tag .cartDelete []] ∧
         t.rig = (s.rig.withoutCart e c [doneWith tag .cartDelete []]
           { s.rig.library with carts := vset s.rig.library.carts c .empty }).settle ∧
         t = { s with inbound := none, rig := t.rig } ∧
         t.rig = { s.rig with
           egress := t.rig.egress, library := t.rig.library, decks := t.rig.decks
           order := t.rig.order }))

/-- CART_RECORD makes a cart RECORDING on the lowest-numbered FREE recorder with the next grant order, and takes the
WAITING entries that name it from the running order, with ENTRY_EVENT REMOVED and cause CART for each in list order;
the others stay, and the order settles; CART_RECORD_STOP makes the cart READY with what was written, its recorder
FREE, and queues CART_EVENT RECORD_DONE (R48 to R50, R52, R85). The model's choice are: that RECORD_DONE follows the
reply, and that REMOVED stands before it and the settling comes after it (notes/assumptions/15.md,
notes/assumptions/24.md). -/
def Obligations.CartRecordingStartsAndStops : Prop :=
  (∀ (s : State) (e : Egress) (tag : Tag) (c : CartId) (kind number : Nat),
     s.rig.egress.secure 1 = some e →
     (∀ st, firstRefusal
       [((recordSource? kind number).isNone, .range),
        ((s.rig.cart c).state ≠ .empty ∧
          (s.rig.cart c).form ≠ (if kind = 0 then .mono else .stereo), .range),
        ((s.rig.cart c).state = .empty ∨ (s.rig.cart c).state = .recording, .state),
        (∃ d : DeckId, (s.rig.deck d).state ≠ .empty ∧ (s.rig.deck d).source = .cart c, .busy),
        (∀ k : RecorderId, (s.rig.recorder k).binding ≠ .free, .busy)] = some st →
       exec (.cartRecord tag c kind number) s = .next (s.answered e [refusedWith tag .cartRecord st])) ∧
     ∀ (src : RecordSource) (k : RecorderId), recordSource? kind number = some src →
       (s.rig.cart c).form = (if kind = 0 then .mono else .stereo) →
       (s.rig.cart c).state = .defined ∨ (s.rig.cart c).state = .ready →
       (∀ d : DeckId, (s.rig.deck d).state = .empty ∨ (s.rig.deck d).source ≠ .cart c) →
       (s.rig.recorder k).binding = .free → (∀ j < k, (s.rig.recorder j).binding ≠ .free) →
       ∃ t, exec (.cartRecord tag c kind number) s = .next t ∧
         t.rig.cart c = { s.rig.cart c with
           state := .recording, length := 0, cueIn := 0, intro := none, segue := none, cueOut := 0 } ∧
         (∀ b, b ≠ c → t.rig.cart b = s.rig.cart b) ∧
         t.rig.recorder k =
           { binding := .cart c, source := src, position := 0, limit := (s.rig.cart c).capacity
             grantOrder := (s.rig.library.lastGrant + 1) % 4294967296 } ∧
         t.rig.library.lastGrant = (s.rig.library.lastGrant + 1) % 4294967296 ∧
         (∀ j, j ≠ k → t.rig.recorder j = s.rig.recorder j) ∧
         (∀ x ∈ t.rig.order.entries, ∃ y ∈ s.rig.order.entries,
           x.tag = y.tag ∧ (y.state = .waiting → y.cart ≠ c)) ∧
         repliesOf t.rig.egress.queue = repliesOf e.queue ++ [doneWith tag .cartRecord []] ∧
         t.rig.library = { s.rig.library with
           carts := t.rig.library.carts, recorders := t.rig.library.recorders
           lastGrant := t.rig.library.lastGrant } ∧
         t.rig = (s.rig.withoutCart e c [doneWith tag .cartRecord []] t.rig.library).settle ∧
         t = { s with inbound := none, rig := t.rig } ∧
         t.rig = { s.rig with
           egress := t.rig.egress, library := t.rig.library, decks := t.rig.decks
           order := t.rig.order }) ∧
  (∀ (s : State) (e : Egress) (tag : Tag) (c : CartId), s.rig.egress.secure 1 = some e →
     ((s.rig.cart c).state ≠ .recording →
       exec (.cartRecordStop tag c) s = .next (s.answered e [refusedWith tag .cartRecordStop .state])) ∧
     ∀ k : RecorderId, (s.rig.cart c).state = .recording → (s.rig.recorder k).binding = .cart c →
       (∀ j < k, (s.rig.recorder j).binding ≠ .cart c) →
       let n := (s.rig.recorder k).position
       exec (.cartRecordStop tag c) s = .next { s with
         inbound := none
         rig := { s.rig with
           egress := (e.answered [doneWith tag .cartRecordStop []]).report (.recordDone c n .stop)
           library := { s.rig.library with
             carts := vset s.rig.library.carts c { s.rig.cart c with
               state := .ready, length := n, cueIn := 0, intro := none, segue := none, cueOut := n }
             recorders := vset s.rig.library.recorders k .free } } })

/-- A recorder's frame event writes one frame at its position and adds 1 to it (R51): the words of that frame
take the lanes' samples, every other word of the store reads as before, and a FREE recorder does nothing. At the
frame that fills a cart the recording ends with cause FULL (R52). That CART_RECORDING_FULL is that whole frame
event is the model's choice (notes/assumptions/4.md). -/
def Obligations.RecorderFrameWritesOneFrame : Prop :=
  ∀ (s : State) (k : RecorderId),
    ((s.rig.recorder k).binding = .free → exec (.recorderFrame k) s = .next s) ∧
    ∀ c : CartId, (s.rig.recorder k).binding = .cart c →
      let p := (s.rig.recorder k).position
      let base := (s.rig.cart c).start * 65536
      let words : List (Nat × Sample) := match (s.rig.recorder k).source with
        | .lane x => [(base + p, s.taken.lanes[x])]
        | .pair j => [(base + 2 * p, s.taken.lanes[(⟨2 * j.val, by omega⟩ : Fin 16)]),
            (base + 2 * p + 1, s.taken.lanes[(⟨2 * j.val + 1, by omega⟩ : Fin 16)])]
      (∀ w ∈ words, w.1 < 268435456) →
      ∃ t, exec (.recorderFrame k) s = .next t ∧
        (∀ w ∈ words, t.store.read w.1 = w.2) ∧
        (∀ a, (∀ w ∈ words, w.1 ≠ a) → t.store.read a = s.store.read a) ∧
        (p + 1 < (s.rig.recorder k).limit →
          t = { s with
            store := t.store
            rig := { s.rig with library := { s.rig.library with
              carts := vset s.rig.library.carts c { s.rig.cart c with length := p + 1 }
              recorders := vset s.rig.library.recorders k
                { s.rig.recorder k with position := p + 1 } } } }) ∧
        ((s.rig.recorder k).limit ≤ p + 1 →
          exec (.cartRecordingFull k) s = .next t ∧
          t = { s with
            store := t.store
            rig := { s.rig with
              egress := s.rig.egress.report (.recordDone c (p + 1) .full)
              library := { s.rig.library with
                carts := vset s.rig.library.carts c { s.rig.cart c with
                  state := .ready, length := p + 1, cueIn := 0, intro := none, segue := none
                  cueOut := p + 1 }
                recorders := vset s.rig.library.recorders k .free } } })

/-- An alert recording's frame writes its lane into the record's slot, and the recorded length follows; it ends
at the declared length, or truncated at the slot's limit, with its recorder FREE, and the record goes where R147
sends it (R51, R144, R147). That ALERT_DECLARED_LENGTH and ALERT_SLOT_FULL are that whole frame event is the
model's choice (notes/assumptions/4.md), as is the flag by which a valid-until reached while the record was RECORDING
stays reached (R148, notes/assumptions/33.md). -/
def Obligations.AlertRecordingFrameEndsAtItsLength : Prop :=
  ∀ (s : State) (k : RecorderId) (i : RecordId) (x : Fin 16), s.rig.alertLaw →
    (s.rig.recorder k).binding = .alert i → (s.rig.recorder k).source = .lane x →
    let p := (s.rig.recorder k).position
    let a := s.rig.record i
    let word := (s.rig.library.alertRegion.start + i.val * (s.rig.library.alertRegion.pages / 16)) *
      65536 + p
    word < 268435456 →
    ∃ t, exec (.recorderFrame k) s = .next t ∧ t.store.read word = s.taken.lanes[x] ∧
      (∀ b, b ≠ word → t.store.read b = s.store.read b) ∧
      (t.rig.record i).recordedLength = p + 1 ∧
      (p + 1 < a.declaredLength → p + 1 < (s.rig.recorder k).limit →
        t.rig.recorder k = { s.rig.recorder k with position := p + 1 } ∧
        t.rig.record i = { a with recordedLength := p + 1 } ∧ t.rig.egress = s.rig.egress) ∧
      (a.declaredLength ≤ p + 1 ∨ (s.rig.recorder k).limit ≤ p + 1 →
        t.rig.recorder k = .free ∧
        (t.rig.record i).truncated = (a.truncated || decide (p + 1 < a.declaredLength)) ∧
        (a.validUntilReached = true ∨ a.validUntil ≤ s.clock.seconds →
          (t.rig.record i).state = .expired) ∧
        (a.validUntilReached = false → s.clock.seconds < a.validUntil →
          a.action = .auto ∨ a.confirmedEarly = true →
          (t.rig.record i).state = .queued ∨ (t.rig.record i).state = .airing) ∧
        (a.validUntilReached = false → s.clock.seconds < a.validUntil →
          a.action ≠ .auto → a.confirmedEarly = false →
          (t.rig.record i).state = .awaiting ∧
          (t.rig.record i).deadline = some (s.clock.seconds + a.confirmWindow))) ∧
      (a.declaredLength ≤ p + 1 → exec (.alertDeclaredLength k) s = .next t) ∧
      (p + 1 < a.declaredLength → (s.rig.recorder k).limit ≤ p + 1 →
        exec (.alertSlotFull k) s = .next t)

/-! ### Chapter 4: decks -/

/-- A deck that is not audible gives silence in its form and does not advance; an audible deck's frame event in
the middle of its play gives the frame at its position through the play gain and the fade, and advances by one,
and deck A reads an alert slot in the same way; a LOADING deck completes its prefetch at its 960th frame event, if no
completion came before, with the effect of PREFETCH_COMPLETE (R59, R60, R62, R63, R70). The model's choice are: that
AUTO_FADE_START is the whole frame event at which a program deck comes within its fade length of its play end
(notes/assumptions/4.md), and that a deck still LOADING completes its prefetch at its 960th frame event
(notes/assumptions/12.md). -/
def Obligations.DeckFramePlaysOneFrameOrSilence : Prop :=
  (∀ (s : State) (d : DeckId),
     let k := s.rig.deck d
     let silence : Frame := match k.form with
       | .mono => .mono 0
       | .stereo => .stereo 0 0
     (k.state = .empty ∨ k.state = .cued ∨ k.state = .paused ∨ k.state = .done →
       exec (.deckFrame d) s =
         .next { s with completed := { s.completed with decks := vset s.completed.decks d silence } }) ∧
     (k.state = .loading → k.loadAge + 1 < 960 →
       exec (.deckFrame d) s = .next { s with
         completed := { s.completed with decks := vset s.completed.decks d silence }
         rig := s.rig.setDeck d { k with loadAge := k.loadAge + 1 } }) ∧
     (k.state = .loading → 960 ≤ k.loadAge + 1 →
       ∃ u, exec (.prefetchComplete d)
           (s.onRig (·.setDeck d { k with loadAge := k.loadAge + 1 })) = .next u ∧
         exec (.deckFrame d) s = .next { u with
           completed := { s.completed with decks := vset s.completed.decks d silence } })) ∧
  (∀ (s : State) (d : DeckId) (c : CartId),
     let k := s.rig.deck d
     let starts : Bool := isProgramDeck d && k.state == .playing &&
       decide (0 < k.fadeLength ∧ k.playEnd - k.position ≤ k.fadeLength)
     let span := if starts = true then k.playEnd - k.position else k.fadeSpan
     let left := if starts = true then k.playEnd - k.position else k.fadeRemaining
     let fading : Bool := starts || k.state == .fading
     let level := fun x : Sample =>
       let v := limited ((x.toInt * k.gain + 8192) / 16384)
       if fading = true then (2 * v * left + span) / (2 * span) else v
     let base := (s.rig.cart c).start * 65536
     k.state = .playing ∨ k.state = .fading → k.source = .cart c → k.position + 1 < k.playEnd →
     (fading = true → 1 < left ∧ left ≤ span) →
     (∀ p, k.seguePoint = some p → k.segueSent = true ∨ k.position + 1 < p) →
     base + 2 * k.position + 1 < 268435456 →
     ∃ t out, exec (.deckFrame d) s = .next t ∧
       (match k.form, out with
        | .mono, .mono x => x.toInt = level (s.store.read (base + k.position))
        | .stereo, .stereo l r => l.toInt = level (s.store.read (base + 2 * k.position)) ∧
            r.toInt = level (s.store.read (base + 2 * k.position + 1))
        | _, _ => False) ∧
       t = { s with
         completed := { s.completed with decks := vset s.completed.decks d out }
         rig := s.rig.setDeck d { k with
           state := if fading = true then .fading else .playing
           position := k.position + 1, fadeSpan := span
           fadeRemaining := if fading = true then left - 1 else left } } ∧
       (starts = true → exec (.autoFadeStart d) s = .next t)) ∧
  (∀ (s : State) (i : RecordId),
     let k := s.rig.deck deckA
     let word := (s.rig.library.alertRegion.start + i.val * (s.rig.library.alertRegion.pages / 16)) *
       65536 + k.position
     k.state = .playing → k.source = .slot i → k.form = .mono → k.position + 1 < k.playEnd →
     (∀ p, k.seguePoint = some p → k.segueSent = true ∨ k.position + 1 < p) → word < 268435456 →
     ∃ x : Sample, x.toInt = limited (((s.store.read word).toInt * k.gain + 8192) / 16384) ∧
       exec (.deckFrame deckA) s = .next { s with
         completed := { s.completed with decks := vset s.completed.decks deckA (.mono x) }
         rig := s.rig.setDeck deckA { k with position := k.position + 1 } })

/-- The frame event at which a deck reaches its play end or the end of its fade (R60, R63, R66, R69): a program
deck is DONE with ENDED, sends its segue event if it has not and its position is at its segue point (R61), and releases:
it is EMPTY, its entry leaves the list with PLAYED, and the order settles (R85); deck F goes back to cue-in and plays
on, and deck A ends its part: the slot follows the lead-in, a lead-out that deck A takes follows the slot, and the last
part makes the record AIRED and with nothing queued ends the run (R70, R153, R154). That the entry is gone and the deck
EMPTY or loaded anew is said where the segue event is not due at that frame, and where no ASSIGNED entry names the deck,
which holds an AIRING one (R76). The model's choice are: that PLAY_END and FADE_END are that whole frame event
(notes/assumptions/4.md), and the order of a last frame's reports, with the segue event between ENDED and the release
(notes/assumptions/12.md). -/
def Obligations.PlayEndAndFadeEndFinishTheDeck : Prop :=
  (∀ (s : State) (d : DeckId) (c : CartId),
    let k := s.rig.deck d
    k.source = .cart c → ((s.rig.cart c).start * 65536 + 2 * k.position + 1 < 268435456) →
    let clear := fun due : Prop =>
      ¬ due ∨ ∀ x ∈ s.rig.order.entries, x.state = .assigned → x.deck ≠ some d
    let dueAt := fun p : Nat => k.segueSent = false ∧ ∃ q, k.seguePoint = some q ∧ q ≤ p
    let left := fun t : State =>
      (∀ x ∈ t.rig.order.entries, x.tag ≠ k.entryTag) ∧
        ((t.rig.deck d).state = .empty ∨ (t.rig.deck d).state = .loading)
    let kept := fun t : State =>
      t.store = s.store ∧ t.rig.library = s.rig.library ∧ t.rig.alerts = s.rig.alerts ∧
        t.rig.delay = s.rig.delay ∧ t.clock = s.clock
    (d.val < 4 → k.playEnd ≤ k.position + 1 →
      (k.state = .playing ∨ k.state = .fading ∧ (k.playEnd ≤ k.position ∨ k.fadeRemaining ≤ 1)) →
      let p := max k.position k.playEnd
      let fades := k.state = .playing ∧ 0 < k.fadeLength ∧ k.position < k.playEnd
      let done : Deck := { k with
        state := .done, endCause := some .played, position := p
        fadeSpan := if fades then 1 else k.fadeSpan
        fadeRemaining := if fades then 0
          else if k.state = .fading ∧ k.position < k.playEnd then k.fadeRemaining - 1
          else k.fadeRemaining }
      ∃ t, exec (.playEnd d) s = .next t ∧ exec (.deckFrame d) s = .next t ∧
        (fades → exec (.fadeEnd d) s = .next t) ∧
        (¬ dueAt p → t.rig = (s.rig.played d).settle) ∧
        (dueAt p → t.rig = ((s.rig.segued d done).releaseDeck d).settle) ∧
        (clear (dueAt p) → left t) ∧ kept t) ∧
    (d.val < 4 → k.state = .fading → k.position < k.playEnd → k.fadeRemaining = 1 →
      let p := k.position + 1
      let done : Deck := { k with
        state := .done, endCause := some .played, position := p, fadeRemaining := 0 }
      ∃ t, exec (.fadeEnd d) s = .next t ∧ exec (.deckFrame d) s = .next t ∧
        (¬ dueAt p → t.rig = (s.rig.played d).settle) ∧
        (dueAt p → t.rig = ((s.rig.segued d done).releaseDeck d).settle) ∧
        (clear (dueAt p) → left t) ∧ kept t) ∧
    (d = deckF → k.state = .playing → k.cueIn < k.playEnd → k.position + 1 = k.playEnd →
      k.seguePoint = none →
      ∃ t, exec (.playEnd d) s = .next t ∧
        t.rig = s.rig.setDeck d { k with position := k.cueIn })) ∧
  ∀ (s : State) (i : RecordId),
    let k := s.rig.deck deckA
    let a := s.rig.record i
    let start := match k.source with
      | .cart c => (s.rig.cart c).start
      | .slot j => s.rig.library.alertRegion.start + j.val * (s.rig.library.alertRegion.pages / 16)
      | .none => 0
    let outTaken : Prop := ∃ c, a.leadOut = some c ∧ (s.rig.cart c).state = .ready ∧
      (s.rig.cart c).cls = .service
    let next := fun (source : DeckSource) (form : Form) (cueIn playEnd : Nat) (part : Part) =>
      { s.rig with
        egress := s.rig.egress.report (.deckEnded deckA k.source .played)
        decks := { s.rig.decks with decks := vset s.rig.decks.decks deckA { Deck.reset with
          state := .loading, source := source, form := form, cueIn := cueIn, playEnd := playEnd
          position := cueIn, gain := 16384, audibleOrder := k.audibleOrder } }
        alerts := { s.rig.alerts with part := part } }
    s.rig.alerts.airing = some i → k.state = .playing → k.seguePoint = none →
    k.playEnd ≤ k.position + 1 → start * 65536 + 2 * k.position + 1 < 268435456 →
    ∃ t, exec (.playEnd deckA) s = .next t ∧ exec (.deckFrame deckA) s = .next t ∧
      t.store = s.store ∧ t.clock = s.clock ∧ t.callers = s.callers ∧ t.link = s.link ∧
      (s.rig.alerts.part = .leadIn → t.rig = next (.slot i) .mono 0 a.recordedLength .slot) ∧
      (∀ c, s.rig.alerts.part = .slot → a.leadOut = some c → (s.rig.cart c).state = .ready →
        (s.rig.cart c).cls = .service →
        t.rig = next (.cart c) (s.rig.cart c).form (s.rig.cart c).cueIn (s.rig.cart c).cueOut
          .leadOut) ∧
      (s.rig.alerts.part = .leadOut ∨ s.rig.alerts.part = .slot ∧ ¬ outTaken →
        (t.rig.record i).state = .aired ∧
        ((∀ j : RecordId, j ≠ i → (s.rig.record j).state ≠ .queued) →
          t.rig.alerts.airing = none ∧ (t.rig.deck deckA).state = .empty ∧
          t.rig.airSwitch.runFlag = false))

/-- A program deck's segue event is sent once, at the end of the frame event at which its position is at its
segue point, with its tag, while it plays, while it fades, and at its play end (R61); the controller sets the
segue-passed flag of the entry with that tag, and settles (R81). The model's choice
are: that SEGUE_EVENT is that whole frame event when it is due and changes nothing once the segue event has been
sent (notes/assumptions/4.md), and that at the play end ENDED comes before the segue event and the release after
it (notes/assumptions/12.md). -/
def Obligations.SegueEventIsSentOnceAtTheSeguePoint : Prop :=
  ∀ (s : State) (d : DeckId) (c : CartId),
    let k := s.rig.deck d
    let passed := fun r : Rig => r.setEntries (r.order.entries.map fun x : Entry =>
      if x.tag = k.entryTag then { x with seguePassed := true } else x)
    d.val < 4 → k.source = .cart c →
    ((s.rig.cart c).start * 65536 + 2 * k.position + 1 < 268435456) →
    (k.state = .playing ∧ k.fadeLength = 0 ∨ k.state = .fading ∧ 1 < k.fadeRemaining →
      k.position + 1 < k.playEnd →
      let next : Deck := { k with
        position := k.position + 1
        fadeRemaining := if k.state = .fading then k.fadeRemaining - 1 else k.fadeRemaining }
      (k.segueSent = false → k.seguePoint = some (k.position + 1) →
        ∃ t, exec (.segueEvent d) s = .next t ∧
          t.rig = (passed (s.rig.setDeck d { next with segueSent := true })).settle) ∧
      (k.segueSent = true → exec (.segueEvent d) s = .next s ∧
        ∃ t, exec (.deckFrame d) s = .next t ∧ t.rig = s.rig.setDeck d next)) ∧
    (k.state = .playing → k.fadeLength = 0 → k.position + 1 = k.playEnd → k.segueSent = false →
      k.seguePoint = some k.playEnd →
      let done : Deck := { k with
        position := k.playEnd, state := .done, endCause := some .played, segueSent := true }
      ∃ t, exec (.segueEvent d) s = .next t ∧ exec (.playEnd d) s = .next t ∧
        t.rig = (((passed (({ s.rig with
          egress := s.rig.egress.report (.deckEnded d k.source .played) }).setDeck d done)).settle).releaseDeck
            d).settle)

/-- PREFETCH_COMPLETE makes a LOADING deck CUED at its cue-in, with DECK_EVENT LOADED; an entry that can start is
started at once (R80), a SEGUE entry with LATE_START before STARTED (R82) and first cutting the earlier of two audible
decks (R67), and assignment follows the start (R80); deck A is started at once, and deck F while FALLBACK is the owner
or the outgoing input; a completion for a deck that is not LOADING is discarded (R59, R79, R153, R165). The model's
choice are: that a completion sent before the first frame event after LOAD is discarded (notes/assumptions/12.md), the
order in which the running order then settles (notes/assumptions/24.md), and that a cut queues ENDED before
ENTRY_EVENT CUT and LATE_START stands before both (notes/assumptions/12.md). -/
def Obligations.PrefetchCompleteCuesTheDeck : Prop :=
  ∀ (s : State) (d : DeckId),
    let k := s.rig.deck d
    let order := (s.rig.decks.lastAudible + 1) % 4294967296
    let told : Rig := { s.rig with egress := s.rig.egress.report (.deckLoaded d k.source) }
    let cued : Rig := told.setDeck d { k with state := .cued, position := k.cueIn }
    (k.state ≠ .loading ∨ k.loadAge = 0 → exec (.prefetchComplete d) s = .next s) ∧
    (k.state = .loading → 1 ≤ k.loadAge →
      (d.val < 4 → s.rig.deferred = true ∨ (∀ x, firstNonAiring s.rig.order.entries = some x →
          x.deck ≠ some d ∨ dueIn s.rig.order.entries x = false) →
        exec (.prefetchComplete d) s = .next { s with rig := cued.settle }) ∧
      (∀ x, d.val < 4 → s.rig.deferred = false → firstNonAiring s.rig.order.entries = some x →
        x.deck = some d → x.state = .assigned → dueIn s.rig.order.entries x = true →
        let r := if x.mode = .segue then cued.report (.deckLateStart d x.tag) else cued
        let cause := if x.mode = .timed then StartCause.timed else .segue
        ((programDecks.filter fun b => (r.deck b).audible).length < 2 →
          exec (.prefetchComplete d) s = .next { s with
            rig := (r.begun r.egress r.decks.decks r.order.entries x d cause).arrange.settle }) ∧
        ∀ o : DeckId, r.cutFirst o →
          exec (.prefetchComplete d) s = .next { s with
            rig := (r.begun (r.cutTold r.egress o) (r.decksCut o) (r.entriesCut o) x d
              cause).arrange.settle }) ∧
      (d = deckA ∨ d = deckF ∧ s.rig.airSwitch.usesFallback = true →
        exec (.prefetchComplete d) s = .next { s with
          rig := { told with decks := { s.rig.decks with
            decks := vset s.rig.decks.decks d { k with
              state := .playing, position := k.cueIn, audibleOrder := order }
            lastAudible := order } } }) ∧
      (d = deckF → s.rig.airSwitch.usesFallback = false →
        exec (.prefetchComplete d) s = .next { s with
          rig := cued }))

/-- The console's deck requests name program decks alone and pass the legality table: DENIED for decks A and F,
STATE where the table says so, and ALERT_ON_AIR for a start or a resume while a deck stands paused for an alert
(R56, R57, R71). A pause keeps the position and freezes the fade, a fade lasts the deck's fade length or 96,000
frames but no longer than the frames left, a cut takes the deck's entry from the list, and a resume takes the
next audible order and while two program decks are audible first cuts the one with the smaller order (R63 to
R67). The model's choice are: that what the running order settles comes after the reply
(notes/assumptions/15.md, notes/assumptions/24.md), and that a cut queues ENDED before ENTRY_EVENT CUT
(notes/assumptions/12.md). -/
def Obligations.DeckRequestsFollowTheLegalityTable : Prop :=
  (∀ (s : State) (e : Egress) (tag : Tag) (d : DeckId), s.rig.egress.secure 1 = some e →
     (4 ≤ d.val →
       exec (.deckStart tag d) s = .next (s.answered e [refusedWith tag .deckStart .denied]) ∧
       exec (.deckFade tag d) s = .next (s.answered e [refusedWith tag .deckFade .denied]) ∧
       exec (.deckCut tag d) s = .next (s.answered e [refusedWith tag .deckCut .denied]) ∧
       exec (.deckPause tag d) s = .next (s.answered e [refusedWith tag .deckPause .denied]) ∧
       exec (.deckResume tag d) s = .next (s.answered e [refusedWith tag .deckResume .denied])) ∧
     (d.val < 4 → (∃ x : DeckId, x.val < 4 ∧ (s.rig.deck x).pausedForAlert = true) →
       exec (.deckStart tag d) s = .next (s.answered e [refusedWith tag .deckStart .alertOnAir]) ∧
       exec (.deckResume tag d) s = .next (s.answered e [refusedWith tag .deckResume .alertOnAir])) ∧
     (d.val < 4 → (s.rig.deck d).state ≠ .playing → (s.rig.deck d).state ≠ .fading →
       exec (.deckFade tag d) s = .next (s.answered e [refusedWith tag .deckFade .state]) ∧
       exec (.deckPause tag d) s = .next (s.answered e [refusedWith tag .deckPause .state]) ∧
       ((s.rig.deck d).state ≠ .cued → (s.rig.deck d).state ≠ .paused →
         exec (.deckCut tag d) s = .next (s.answered e [refusedWith tag .deckCut .state]))) ∧
     (d.val < 4 → (∀ x : DeckId, x.val < 4 → (s.rig.deck x).pausedForAlert = false) →
       ((s.rig.deck d).state ≠ .cued →
         exec (.deckStart tag d) s = .next (s.answered e [refusedWith tag .deckStart .state])) ∧
       ((s.rig.deck d).state ≠ .paused →
         exec (.deckResume tag d) s = .next (s.answered e [refusedWith tag .deckResume .state])))) ∧
  (∀ (s : State) (e : Egress) (tag : Tag) (d : DeckId), s.rig.egress.secure 1 = some e → d.val < 4 →
     let k := s.rig.deck d
     (k.state = .playing ∨ k.state = .fading →
       exec (.deckPause tag d) s = .next ((s.answered e [doneWith tag .deckPause []]).onRig
         (·.setDeck d { k with
           state := .paused
           prior := some (if k.state = .fading then PriorState.fading else PriorState.playing) }))) ∧
     (k.state = .playing → k.position < k.playEnd →
       let n := min (if k.fadeLength = 0 then 96000 else k.fadeLength) (k.playEnd - k.position)
       exec (.deckFade tag d) s = .next ((s.answered e [doneWith tag .deckFade []]).onRig fun r =>
         (r.setDeck d { k with state := .fading, fadeSpan := n, fadeRemaining := n }).settle)) ∧
     (k.state = .fading →
       exec (.deckFade tag d) s =
         .next ((s.answered e [doneWith tag .deckFade []]).onRig (·.settle))) ∧
     (k.state = .cued ∨ k.state = .playing ∨ k.state = .fading ∨ k.state = .paused →
       ∃ t, exec (.deckCut tag d) s = .next t ∧
         (∀ x ∈ t.rig.order.entries, x.tag ≠ k.entryTag) ∧
         ((t.rig.deck d).state = .empty ∨ (t.rig.deck d).state = .loading) ∧
         repliesOf t.rig.egress.queue = repliesOf e.queue ++ [doneWith tag .deckCut []] ∧
         t = { s with inbound := none, rig := t.rig } ∧
         t.rig = { s.rig with
           egress := t.rig.egress, decks := t.rig.decks, order := t.rig.order }) ∧
     (k.state = .paused → (∀ x : DeckId, x.val < 4 → (s.rig.deck x).pausedForAlert = false) →
       let order := (s.rig.decks.lastAudible + 1) % 4294967296
       let resumed : Deck := { k with
         state := if k.prior = some PriorState.fading then DeckState.fading else DeckState.playing
         prior := none, pausedForAlert := false, audibleOrder := order }
       ((programDecks.filter fun x => (s.rig.deck x).audible).length < 2 →
         exec (.deckResume tag d) s = .next ((s.answered e [doneWith tag .deckResume []]).onRig fun r =>
           ({ r with decks :=
             { decks := vset r.decks.decks d resumed, lastAudible := order } }).settle)) ∧
       ∀ o : DeckId, s.rig.cutFirst o →
         exec (.deckResume tag d) s = .next ((s.answered (s.rig.cutTold e o)
           [doneWith tag .deckResume []]).onRig fun r =>
             ({ r with
               decks :=
                 { decks := vset (s.rig.decksCut o) d resumed, lastAudible := order }
               order := { r.order with entries := s.rig.entriesCut o } }).settle)))

/-! ### Chapter 5: the running order -/

/-- ORDER_APPEND, ORDER_INSERT, ORDER_REMOVE, ORDER_CLEAR, ORDER_HOLD and ORDER_RUN change the list or the HOLD
flag as their rules say, checking in the order of the rules; a TIMED entry joins with its time-reached flag set
where its start time has passed (R75, R83, R86 to R89, R91). In the same event the list is arranged, first of all after
ORDER_APPEND, ORDER_INSERT and ORDER_REMOVE, and what is due is started. Arranging assigns the first WAITING entry to
the lowest-numbered EMPTY program deck while fewer than two are ASSIGNED (R78), and displaces the last ASSIGNED entry
where a WAITING one that cannot be assigned stands before it (R77). That the reply is queued before what is settled,
and the order and the repetition of the settling, are the model's choice (notes/assumptions/15.md,
notes/assumptions/24.md). -/
def Obligations.OrderRequestsEditTheList : Prop :=
  (∀ (r : Rig) (as pre ws : List Entry), r.order.law →
     (∀ y ∈ as, y.state = .airing) → (∀ y ∈ pre, y.state = .assigned) →
     (∀ y ∈ ws, y.state = .waiting ∧ (r.cart y.cart).state = .ready ∧
       (r.cart y.cart).cls = .program) →
     (r.order.entries = as ++ pre ++ ws →
       (pre.length = 2 ∨ ws = [] ∨ (∀ d : DeckId, d.val < 4 → (r.deck d).state ≠ .empty) → r.arrange = r) ∧
       ∀ (x : Entry) (rest : List Entry) (d : DeckId), ws = x :: rest → pre.length < 2 → r.lowestEmpty d →
         (pre.length = 1 ∨ rest = [] ∨ (∀ j : DeckId, j.val < 4 → j ≠ d → (r.deck j).state ≠ .empty) →
           r.arrange = r.given x d) ∧
         ∀ (y : Entry) (rest' : List Entry) (d' : DeckId), pre = [] → rest = y :: rest' →
           (r.given x d).lowestEmpty d' → r.arrange = (r.given x d).given y d') ∧
     ∀ (x : Entry) (mid : List Entry) (z : Entry) (dz d : DeckId),
       r.order.entries = as ++ pre ++ x :: mid ++ z :: ws → x.state = .waiting →
       (r.cart x.cart).state = .ready → (r.cart x.cart).cls = .program →
       (∀ y ∈ mid, y.state = .assigned) → z.state = .assigned → z.deck = some dz → dz.val < 4 →
       (pre.length + mid.length = 1 ∨
         pre.length + mid.length = 0 ∧ ∀ j : DeckId, j.val < 4 → (r.deck j).state ≠ .empty) →
       (r.displaced z dz).lowestEmpty d → r.arrange = (r.displaced z dz).given x d) ∧
  ∀ (s : State) (e : Egress) (tag : Tag), s.rig.egress.secure 1 = some e →
    (∀ (f : EntryFields) (before : Nat),
      let list := s.rig.order.entries
      let wrong : Bool := f.tag = 0 ∨ 65535 < f.tag ∨ 256 ≤ f.cart ∨ 2 < f.mode ∨
        f.startTime.any (fun n => 1073741823 < n) = true ∨ f.gain.any (fun n => 65535 < n) = true ∨
        f.fadeMs.any (fun n => 10000 < n) = true ∨ ¬ (f.mode = 2 ↔ f.startTime.isSome = true)
      let again : Bool := ∃ x ∈ list, x.tag = f.tag
      let cart := s.rig.cart ((index? 256 f.cart).getD 0)
      let ending : List (Bool × Status) :=
        [(f.mode = 2 ∧ s.clock.timeValid = false, .noTime), (cart.state ≠ .ready, .absent),
         (cart.cls = .service, .range)]
      let joined : Entry :=
        { tag := f.tag, cart := (index? 256 f.cart).getD 0
          mode := if f.mode = 0 then .manual else if f.mode = 1 then .segue else .timed
          startTime := f.startTime, gain := f.gain, fadeMs := f.fadeMs
          segueOverride := f.segueOverride, state := .waiting, deck := none, startNumber := 0
          seguePassed := false
          timeReached := f.startTime.any fun n => n ≤ s.clock.seconds
          skipPending := false }
      exec (.orderAppend tag f) s = .next (s.outcome e tag .orderAppend
        ([(wrong, .range), (again, .range), (64 ≤ list.length, .full)] ++ ending)
        ((s.answered e [doneWith tag .orderAppend []]).onRig fun r =>
          (r.setEntries (list ++ [joined])).arrange.settle)) ∧
      exec (.orderInsert tag f before) s = .next (s.outcome e tag .orderInsert
        ([(wrong, .range), (before = 0 ∨ 65535 < before, .range), (again, .range),
          (64 ≤ list.length, .full), (∀ x ∈ list, x.tag ≠ before, .absent),
          (((list.find? fun x => x.tag == before).map Entry.state) = some EntryState.airing, .state)] ++
            ending)
        ((s.answered e [doneWith tag .orderInsert []]).onRig fun r =>
          (r.setEntries ((list.takeWhile fun x => x.tag != before) ++ joined ::
            list.dropWhile fun x => x.tag != before)).arrange.settle))) ∧
    (∀ n : Nat, (∀ x ∈ s.rig.order.entries, x.tag ≠ n) →
      exec (.orderRemove tag n) s = .next (s.answered e [refusedWith tag .orderRemove .absent])) ∧
    (∀ x ∈ s.rig.order.entries, s.rig.order.law →
      (x.state = .airing → exec (.orderRemove tag x.tag) s =
        .next (s.answered e [refusedWith tag .orderRemove .busy])) ∧
      (x.state = .waiting → exec (.orderRemove tag x.tag) s =
        .next ((s.answered e [doneWith tag .orderRemove []]).onRig fun r =>
          (r.setEntries (s.rig.order.entries.filter fun y => y.tag != x.tag)).arrange.settle)) ∧
      (∀ d, x.state = .assigned → x.deck = some d → exec (.orderRemove tag x.tag) s =
        .next ((s.answered e [doneWith tag .orderRemove []]).onRig fun r =>
          ((r.setDeck d { Deck.reset with audibleOrder := (s.rig.deck d).audibleOrder }).setEntries
            (s.rig.order.entries.filter fun y => y.tag != x.tag)).arrange.settle))) ∧
    (let gone : List Entry := s.rig.order.entries.filter fun x => x.state != .airing
     exec (.orderClear tag) s = .next ((s.answered e [doneWith tag .orderClear [gone.length]]).onRig
      fun r => (({ r with decks := { r.decks with decks := Vector.ofFn fun d : DeckId =>
          if ∃ x ∈ gone, x.state = EntryState.assigned ∧ x.deck = some d then
            { Deck.reset with audibleOrder := (s.rig.deck d).audibleOrder } else s.rig.deck d } }).setEntries
        (s.rig.order.entries.filter fun x => x.state == EntryState.airing)).settle)) ∧
    exec (.orderHold tag) s = .next ((s.answered e [doneWith tag .orderHold []]).onRig fun r =>
      ({ r with order := { r.order with hold := true } }).settle) ∧
    exec (.orderRun tag) s = .next ((s.answered e [doneWith tag .orderRun []]).onRig fun r =>
      ({ r with order := { r.order with hold := false } }).settle)

/-- ORDER_NEXT and DECK_START start the first non-airing entry on its CUED deck (R71, R80, R90): the entry becomes
AIRING with the next start number, its deck plays with the next audible order, and ENTRY_EVENT STARTED is queued with
cause REQUEST; while two program decks are audible the one with the smaller order is first cut and its entry leaves
(R67); assignment follows (R80), and then the settling; otherwise the request is refused by the first of its checks.
The controller starts the entry on its own, with cause SEGUE or TIMED, when it settles and the entry is due and CUED
(R79 to R83), the leader being the AIRING entry with the greatest start number (R81); a pending skip is made for the
last entry that has one (R83); while a deferral stands the controller only arranges (R84). The model's choice are:
that STARTED stands before the reply and that assignment and the settling come after it (notes/assumptions/15.md,
notes/assumptions/24.md), that a cut queues ENDED before ENTRY_EVENT CUT (notes/assumptions/12.md), and that the FADEs
of a skip are sent in deck order (notes/assumptions/7.md). -/
def Obligations.StartRequestsStartTheFirstEntry : Prop :=
  (∀ (es : List Entry) (l : Entry), l ∈ es → l.state = .airing →
     (∀ y ∈ es, y.state = .airing → y ≠ l → serialGreater l.startNumber y.startNumber = true) →
     leader es = some l) ∧
  (∀ es : List Entry, leader es = none ↔ ∀ y ∈ es, y.state ≠ .airing) ∧
  (∀ r : Rig, r.order.law →
     (r.heldBack ∨ (∀ y ∈ r.order.entries, y.skipPending = false) ∧
        ∀ x, r.isDue x → ∀ d, x.deck = some d → (r.deck d).state ≠ .cued) →
     r.settle = r.arrange) ∧
  (∀ (r : Rig) (x : Entry) (d : DeckId) (front ws : List Entry), r.order.law → ¬ r.heldBack →
     (∀ y ∈ r.order.entries, y.skipPending = false) → r.isDue x → x.state = .assigned →
     x.deck = some d → d.val < 4 → (r.deck d).state = .cued →
     r.order.entries = front ++ ws → (∀ y ∈ front, y.state ≠ .waiting) → (∀ y ∈ ws, y.state = .waiting) →
     (∀ y ∈ front, y.tag ≠ x.tag → y.state = .assigned →
       ∀ b, y.deck = some b → (r.deck b).state ≠ .cued) →
     let cause := if x.mode = .timed then StartCause.timed else .segue
     ((programDecks.filter fun b => (r.deck b).audible).length < 2 →
       r.settle = (r.begun r.egress r.decks.decks r.order.entries x d cause).arrange) ∧
     ∀ o : DeckId, r.cutFirst o →
       r.settle = (r.begun (r.cutTold r.egress o) (r.decksCut o) (r.entriesCut o) x d cause).arrange) ∧
  (∀ (r : Rig) (x : Entry) (front back : List Entry), r.order.law → ¬ r.heldBack →
     r.order.entries = front ++ x :: back → x.skipPending = true →
     (∀ y ∈ back, y.skipPending = false) → (∀ y ∈ front, y.state = .airing → y.skipPending = false) →
     (∀ d : DeckId, d.val < 4 → (r.deck d).state = .playing → (r.deck d).position < (r.deck d).playEnd) →
     r.settle = (r.skipped x).settle) ∧
  ∀ (s : State) (e : Egress) (tag : Tag), s.rig.egress.secure 1 = some e → s.rig.order.law →
    let paused := ∃ d : DeckId, d.val < 4 ∧ (s.rig.deck d).pausedForAlert = true
    let first := s.rig.order.entries.find? fun x => x.state != .airing
    (paused → exec (.orderNext tag) s =
      .next (s.answered e [refusedWith tag .orderNext .alertOnAir])) ∧
    (¬ paused → first = none → exec (.orderNext tag) s =
      .next (s.answered e [refusedWith tag .orderNext .absent])) ∧
    (∀ x, ¬ paused → first = some x → (∀ d, x.deck = some d → (s.rig.deck d).state ≠ .cued) →
      exec (.orderNext tag) s = .next (s.answered e [refusedWith tag .orderNext .state])) ∧
    (∀ d : DeckId, d.val < 4 → ¬ paused → (∀ x, first = some x → x.deck ≠ some d) →
      exec (.deckStart tag d) s = .next (s.answered e [refusedWith tag .deckStart .state])) ∧
    ∀ (x : Entry) (d : DeckId), ¬ paused → first = some x → x.deck = some d → d.val < 4 →
      (s.rig.deck d).state = .cued →
      let order := (s.rig.decks.lastAudible + 1) % 4294967296
      let number := if 4294967295 ≤ s.rig.order.lastStart then 1 else s.rig.order.lastStart + 1
      let airing : Entry := { x with
        state := .airing, startNumber := number, skipPending := false
        timeReached := x.timeReached || x.mode == .timed }
      let begun := fun (k : RequestKind) (told : Egress) (decks : Vector Deck 6) (list : List Entry) =>
        (s.answered (told.report (.entryStarted x.tag d .request)) [doneWith tag k []]).onRig fun r =>
          ({ r with
            decks :=
              { decks := vset decks d { s.rig.deck d with state := .playing, audibleOrder := order }
                lastAudible := order }
            order := { r.order with
              entries := list.map fun y : Entry => if y.tag = x.tag then airing else y
              lastStart := number } }).arrange.settle
      ((programDecks.filter fun b => (s.rig.deck b).audible).length < 2 →
        exec (.orderNext tag) s =
          .next (begun .orderNext e s.rig.decks.decks s.rig.order.entries) ∧
        exec (.deckStart tag d) s =
          .next (begun .deckStart e s.rig.decks.decks s.rig.order.entries)) ∧
      ∀ o : DeckId, s.rig.cutFirst o →
        exec (.orderNext tag) s = .next
          (begun .orderNext (s.rig.cutTold e o) (s.rig.decksCut o) (s.rig.entriesCut o)) ∧
        exec (.deckStart tag d) s = .next
          (begun .deckStart (s.rig.cutTold e o) (s.rig.decksCut o) (s.rig.entriesCut o))

/-! ### Chapter 6: caller lines -/

/-- The messages from PHONE: LINE_RING makes an IDLE line RINGING, LINE_CONNECTED an ANSWERING one SCREEN, and
LINE_HANGUP ends the call of any line, which leaves the caller queue and ON_AIR; each checks the line's state
and the call reference, and queues its report (R97, R99, R101, R103, R112). The model's choice are: whether a report
stands before or after the reply (notes/assumptions/15.md), and that CALL_EVENT CONNECTED carries the line and the call
reference, where R99 names its subject alone (notes/assumptions/8.md). -/
def Obligations.PhoneMessagesMoveOneLine : Prop :=
  ∀ (s : State) (e : Egress) (tag : Tag) (k : LineId) (ref : Nat),
    s.rig.egress.secure 1 = some e →
    let l := s.line k
    exec (.lineRing tag k ref) s = .next (s.outcome e tag .lineRing
      [(ref = 0 ∨ 1073741823 < ref, .range), (l.state ≠ .idle, .state)]
      (((s.answered e [doneWith tag .lineRing []]).setLine k
        { l with state := .ringing, callRef := ref }).report (.callRinging k ref))) ∧
    exec (.lineConnected tag k ref) s = .next (s.outcome e tag .lineConnected
      [(l.state ≠ .answering ∨ l.callRef ≠ ref, .state)]
      ((s.answered (e.report (.callConnected k ref)) [doneWith tag .lineConnected []]).setLine k
        { l with state := .screen, answerTimer := 0 })) ∧
    (l.state = .idle ∨ l.callRef ≠ ref →
      exec (.lineHangup tag k ref) s = .next (s.answered e [refusedWith tag .lineHangup .state])) ∧
    (l.state ≠ .idle → l.callRef = ref → ∃ t later, exec (.lineHangup tag k ref) s = .next t ∧
      s.lineMoved t k { l with state := .idle, callRef := 0, muted := false, answerTimer := 0 } ∧
      t.callers.queue = s.callers.queue.filter (· != k) ∧
      t.rig.egress.queue = (e.report (.callHangup k ref l.state)).queue ++
        doneWith tag .lineHangup [] :: later ∧ (∀ m ∈ later, m.isMuting) ∧
      (l.state ≠ .onAir → later = []))

/-- CALL_ANSWER, CALL_READY, CALL_TAKE, CALL_PARK and CALL_DROP move one line as their rules say, the caller
queue with it, and check in the order of their rules; the commands to PHONE go before the reply (R98, R102 to
R107, R112). A line field of 6 in CALL_TAKE is NEXT (R201). That the muting reports of CALL_DROP follow its
reply is the model's choice (notes/assumptions/15.md). -/
def Obligations.ConsoleCallRequestsMoveOneLine : Prop :=
  ∀ (s : State) (e e₂ : Egress) (tag : Tag) (k : LineId),
    s.rig.egress.secure 1 = some e → s.rig.egress.secure 2 = some e₂ →
    let l := s.line k
    exec (.callAnswer tag k) s = .next (s.outcome e₂ tag .callAnswer
      [(l.state ≠ .ringing, .state), (l.inLane = none, .absent)]
      ((s.answered e₂ [.phoneAnswer k l.callRef, doneWith tag .callAnswer []]).setLine k
        { l with state := .answering, answerTimer := 192000 })) ∧
    exec (.callReady tag k) s = .next (s.outcome e tag .callReady [(l.state ≠ .screen, .state)]
      { s.answered e [doneWith tag .callReady []] with callers := { s.callers with
        lines := vset s.callers.lines k { l with state := .hold }
        queue := s.callers.queue ++ [k] } }) ∧
    (∀ (n : Nat) (st : Status), firstRefusal
      [(6 < n, .range), (∃ j : LineId, j.val = n ∧ (s.line j).state ≠ .hold, .state),
       (n = 6 ∧ s.callers.queue = [], .absent),
       (s.callers.limit ≤ s.callers.onAirCount, .full), (s.rig.airSwitch.owner = .alert, .alertOnAir),
       (s.rig.delay.safe = false ∨ s.rig.delay.state = .exit, .notSafe)] = some st →
      exec (.callTake tag n) s = .next (s.answered e [refusedWith tag .callTake st])) ∧
    (∀ n : Nat, n = k.val ∧ l.state = .hold ∨ n = 6 ∧ s.callers.queue.head? = some k →
      s.callers.onAirCount < s.callers.limit → s.rig.airSwitch.owner ≠ .alert →
      s.rig.delay.safe = true → s.rig.delay.state ≠ .exit →
      ∃ t, exec (.callTake tag n) s = .next t ∧ s.lineMoved t k { l with state := .onAir } ∧
        t.callers.queue = s.callers.queue.filter (· != k) ∧
        repliesOf t.rig.egress.queue = repliesOf e.queue ++ [doneWith tag .callTake []]) ∧
    (l.state ≠ .onAir →
      exec (.callPark tag k) s = .next (s.answered e [refusedWith tag .callPark .state])) ∧
    (l.state = .onAir → ∃ t, exec (.callPark tag k) s = .next t ∧
      s.lineMoved t k { l with state := .hold } ∧ t.callers.queue = k :: s.callers.queue ∧
      repliesOf t.rig.egress.queue = repliesOf e.queue ++ [doneWith tag .callPark []]) ∧
    (l.state = .idle →
      exec (.callDrop tag k) s = .next (s.answered e₂ [refusedWith tag .callDrop .state])) ∧
    (l.state ≠ .idle → ∃ t later, exec (.callDrop tag k) s = .next t ∧
      s.lineMoved t k { l with state := .idle, callRef := 0, muted := false, answerTimer := 0 } ∧
      t.callers.queue = s.callers.queue.filter (· != k) ∧
      t.rig.egress.queue = e₂.queue ++
        .phoneRelease k l.callRef :: doneWith tag .callDrop [] :: later ∧ (∀ m ∈ later, m.isMuting) ∧
      (l.state ≠ .onAir → later = []))

/-- CALL_SETUP takes the given call settings and line settings and keeps the others, or is refused by the first
of its checks and changes nothing (R108). That a list of 0 items counts as an operand that is not present is the
model's choice (notes/assumptions/31.md). -/
def Obligations.CallSetupSetsTheGivenSettings : Prop :=
  ∀ (s : State) (e : Egress) (tag : Tag) (limit gain : Option Nat) (items : List LineFields),
    s.rig.egress.secure 1 = some e →
    (∀ st, firstRefusal
      [(limit = none ∧ gain = none ∧ items = [], .range),
       (limit.any (fun n => n < 1 ∨ 3 < n) = true ∨ gain.any (fun n => 65535 < n) = true, .range),
       (6 < items.length ∨ (∃ i ∈ items, 6 ≤ i.line ∨ 65535 < i.returnGain ∨
         16 ≤ i.inLane ∧ i.inLane ≠ 1073741823) ∨ ¬ (items.map LineFields.line).Nodup, .range),
       (∃ i ∈ items, ∃ k : LineId, k.val = i.line ∧ (s.line k).state ≠ .idle ∧
         (s.line k).inLane ≠ index? 16 i.inLane, .state),
       (limit.any (fun n => n < s.callers.onAirCount) = true, .busy)] = some st →
      exec (.callSetup tag limit gain items) s =
        .next (s.answered e [refusedWith tag .callSetup st])) ∧
    (firstRefusal
      [(limit = none ∧ gain = none ∧ items = [], .range),
       (limit.any (fun n => n < 1 ∨ 3 < n) = true ∨ gain.any (fun n => 65535 < n) = true, .range),
       (6 < items.length ∨ (∃ i ∈ items, 6 ≤ i.line ∨ 65535 < i.returnGain ∨
         16 ≤ i.inLane ∧ i.inLane ≠ 1073741823) ∨ ¬ (items.map LineFields.line).Nodup, .range),
       (∃ i ∈ items, ∃ k : LineId, k.val = i.line ∧ (s.line k).state ≠ .idle ∧
         (s.line k).inLane ≠ index? 16 i.inLane, .state),
       (limit.any (fun n => n < s.callers.onAirCount) = true, .busy)] = none →
      ∃ t, exec (.callSetup tag limit gain items) s = .next t ∧
        (∀ i ∈ items, ∀ k : LineId, k.val = i.line →
          t.line k = { s.line k with inLane := index? 16 i.inLane, returnGain := i.returnGain }) ∧
        (∀ k : LineId, (∀ i ∈ items, i.line ≠ k.val) → t.line k = s.line k) ∧
        t = { s.answered e [doneWith tag .callSetup []] with callers := { s.callers with
          lines := t.callers.lines, limit := limit.getD s.callers.limit
          holdGain := gain.getD s.callers.holdGain } })

/-- What the controller takes on its own: a quiet fault drops a line that is ON_AIR and is discarded for any other, an
overload fault, an overload clear or a scope change sets the muted flags again, and an answer timer that reaches 0
ends the call (R100, R110 to R112). The model's choice are: that ANSWER_TIMER_EXPIRY is the whole clock frame, and
nothing when it is not due (notes/assumptions/4.md), that the controller takes its notices from a list
(notes/assumptions/13.md), that a quiet fault of an earlier stay drops a line that is ON_AIR again
(notes/assumptions/38.md), that an overload fault of a line no longer ON_AIR, which is discarded, still makes the
flags be set again (notes/assumptions/37.md), and that the muting reports follow DROPPED (notes/assumptions/15.md). -/
def Obligations.LineEventsDropMuteAndTimeOut : Prop :=
  ∀ (s : State) (k : LineId),
    let l := s.line k
    let idle : Line := { l with state := .idle, callRef := 0, muted := false, answerTimer := 0 }
    let notices := s.rig.monitors.lineNotices
    (.quietFault k ∈ notices → l.state ≠ .onAir → exec (.lineQuietFault k) s =
      .next { s with rig := { s.rig with monitors := { s.rig.monitors with
        lineNotices := notices.erase (.quietFault k) } } }) ∧
    (.quietFault k ∈ notices → l.state = .onAir → ∃ t later, exec (.lineQuietFault k) s = .next t ∧
      t.inbound = s.inbound ∧ t.rig.monitors.lineNotices = notices.erase (.quietFault k) ∧
      t.line k = idle ∧
      (∀ j, j ≠ k → t.line j = { s.line j with muted := (t.line j).muted }) ∧ t.mutedRight ∧
      t.callers.queue = s.callers.queue.filter (· != k) ∧
      (∀ c : Fin 18, cellLine c = some k → (t.rig.cell c).state = .clear) ∧
      t.rig.egress.queue = ((s.rig.egress.urgent (.phoneRelease k l.callRef)).report
        (.callDropped k l.callRef)).queue ++ later ∧ ∀ m ∈ later, m.isMuting) ∧
    (∀ n, notices.find? (fun n => match n with | .quietFault _ => false | _ => true) = some n →
      ∃ t, exec .lineOverloadChange s = .next t ∧ t.mutedRight ∧
        (∀ j, t.line j = { s.line j with muted := (t.line j).muted }) ∧
        t = { s with
          callers := { s.callers with lines := t.callers.lines }
          rig := { s.rig with
            egress := t.rig.egress
            monitors := { s.rig.monitors with lineNotices := notices.erase n } } }) ∧
    (l.state = .answering → l.answerTimer ≤ 1 → ∃ t, exec (.answerTimerExpiry k) s = .next t ∧
      exec .stationClockFrame s = .next t ∧ t.line k = idle ∧
      (∀ j, (s.line j).state = .answering → 1 < (s.line j).answerTimer →
        t.line j = { s.line j with answerTimer := (s.line j).answerTimer - 1 }) ∧
      (∀ j, (s.line j).state ≠ .answering → t.line j = s.line j) ∧
      (.phoneRelease k l.callRef ∈ t.rig.egress.queue ∨ t.rig.egress.requestsDropped = true)) ∧
    (l.state = .answering → 1 < l.answerTimer → exec (.answerTimerExpiry k) s = .next s)

/-! ### Chapter 7: the air delay -/

/-- A frame event of the air delay (R117 to R124, R129): in BYPASS it passes PGM through; in BUILD, STEADY, CATCHUP
and EXIT it reads between two frames of the ring at R, advances R by the step of its state, limited at the target and
at one frame, and writes PGM at W, the old path of a dump crossfade advancing by the same step, also where EXIT ends
in BYPASS; in HELD it gives silence, keeps R and writes, and discards the oldest frame when the ring is full. The
model's choice are: that TARGET_LANDING, BYPASS_REACHED, DELAY_OVERRUN and DUMP_CROSSFADE_END are that whole frame
event, and DELAY_OVERRUN nothing when the ring is not full (notes/assumptions/4.md), and that the reports carry W and
D as they stand after it (notes/assumptions/17.md). -/
def Obligations.DelayFrameMovesTheDelayByItsState : Prop :=
  ∀ s : State, s.rig.delayLaw →
    let d := s.rig.delay
    let pgm := s.taken.pgm
    let pages := s.rig.library.delayRegion.pages
    let start := s.rig.library.delayRegion.start
    let capacity := pages * 32768
    let base := start * 65536
    let length : Int := (d.written : Int) * 4096 - d.readPos
    let goal : Int := (d.target : Int) * 4096
    let frame := fun (j : Int) (left : Bool) =>
      if j = (d.startMark : Int) - 1 then (if left = true then d.bypassFrame.l else d.bypassFrame.r).toInt
      else (s.store.read (base + 2 * (j % (capacity : Int)).toNat + if left = true then 0 else 1)).toInt
    let reading := fun (p : Int) (left : Bool) =>
      frame (p / 4096) left +
        ((frame (p / 4096 + 1) left - frame (p / 4096) left) * (p % 4096) + 2048) / 4096
    let out := fun left : Bool => if d.crossfade = 0 then reading d.readPos left
      else (reading d.oldReadPos left * d.crossfade + reading d.readPos left * (64 - d.crossfade : Int)) / 64
    let lands : Bool := d.state = .build ∧ goal ≤ length + d.buildSlip ∨
      d.state = .catchup ∧ length - d.catchupSlip ≤ goal
    let leaves : Bool := d.state = .exit ∧ length ≤ 4096 + d.catchupSlip
    let step : Int := if lands = true then 4096 + (length - goal)
      else if d.state = .build then 4096 - d.buildSlip
      else if d.state = .steady then 4096 else 4096 + d.catchupSlip
    let written := fun t : State => ∀ a, t.store.read a =
      if a = base + 2 * (d.written % capacity) then pgm.l
      else if a = base + 2 * (d.written % capacity) + 1 then pgm.r else s.store.read a
    (d.state = .bypass → exec .delayFrame s = .next { s with
      completed := { s.completed with dly := pgm }
      rig := { s.rig with delay := { d with bypassFrame := pgm } } }) ∧
    (d.state ≠ .bypass → start + pages ≤ 4096 →
      (d.state ≠ .held → leaves = false → ∃ t, exec .delayFrame s = .next t ∧
        t.completed.dly.l.toInt = out true ∧ t.completed.dly.r.toInt = out false ∧ written t ∧
        (let moved : Delay := { d with
            readPos := d.readPos + step, written := d.written + 1
            oldReadPos := if d.crossfade = 0 then d.oldReadPos else d.oldReadPos + step
            crossfade := d.crossfade - 1, state := if lands = true then .steady else d.state }
         t = { s with
          store := t.store
          completed := { s.completed with dly := t.completed.dly }
          rig := { s.rig with delay := moved, egress := s.rig.egress.delayTold d moved .target } }) ∧
        (lands = true → exec .targetLanding s = .next t) ∧
        (d.crossfade = 1 → exec .dumpCrossfadeEnd s = .next t)) ∧
      (leaves = true → ∃ t, exec .delayFrame s = .next t ∧ exec .bypassReached s = .next t ∧ written t ∧
        (let off : Delay := { d with
            state := .bypass, prior := none, exitFlag := false, crossfade := 0, bypassFrame := pgm
            oldReadPos := if d.crossfade = 0 then d.oldReadPos else d.oldReadPos + length
            written := d.written + 1, readPos := ((d.written : Int) + 1) * 4096 }
         t = { s with
          store := t.store
          completed := { s.completed with dly := pgm }
          rig := { s.rig with
            delay := off, egress := s.rig.egress.delayTold d off .bypassReached } })) ∧
      (d.state = .held → ∃ t, exec .delayFrame s = .next t ∧ written t ∧
        (let full : Bool := (capacity : Int) < d.written + 1 - d.readPos / 4096
         let next : Delay := { d with
            readPos := if full = true then d.readPos + 4096 else d.readPos
            overrunFlag := d.overrunFlag || full, written := d.written + 1 }
         let told := if full = true ∧ d.overrunFlag = false then
            s.rig.egress.report (.delayOverrun (d.written + 1) next.length.toNat) else s.rig.egress
         t = { s with
          store := t.store
          completed := { s.completed with dly := { l := 0, r := 0 } }
          rig := { s.rig with delay := next, egress := told.delayTold d next .alert } } ∧
         (full = true → exec .delayOverrun s = .next t) ∧
         (full = false → exec .delayOverrun s = .next s))))

/-- DELAY_SETUP, DELAY_START, DELAY_EXIT and DELAY_DUMP change the delay record as their rules say for each of
its states, with the reports STATE and SAFE or UNSAFE of what changes (R123 to R128, R130). The model's choice
are: that a kept target is not clamped again (notes/assumptions/22.md), that the reply of DELAY_SETUP stands
before the reports and that of the others after them (notes/assumptions/15.md), and that the reports carry D as
it stands after the event (notes/assumptions/17.md). -/
def Obligations.DelayRequestsChangeTheDelayByItsState : Prop :=
  ∀ (s : State) (e : Egress) (tag : Tag), s.rig.egress.secure 1 = some e →
    let d := s.rig.delay
    let pages := s.rig.library.delayRegion.pages
    let length : Int := (d.written : Int) * 4096 - d.readPos
    let byLength := fun target : Nat => if (target : Int) * 4096 < length then DelayState.catchup
      else if length < (target : Int) * 4096 then .build else .steady
    (∀ target dump build catchup : Option Nat,
      let greatest := if pages = 0 then 4194303 else pages * 32768 - 1
      let goal := match target with
        | none => d.target
        | some n => max 1 (min n greatest)
      let new : Delay := { d with
        target := goal, dumpLength := min (max (dump.getD d.dumpLength) 4800) goal
        buildSlip := (build.map fun n => max 16 (min n 512)).getD d.buildSlip
        catchupSlip := (catchup.map fun n => max 16 (min n 512)).getD d.catchupSlip
        state := if d.state = .build ∨ d.state = .steady ∨ d.state = .catchup then byLength goal
          else d.state }
      exec (.delaySetup tag target dump build catchup) s = .next (s.outcome e tag .delaySetup
        [(target = none ∧ dump = none ∧ build = none ∧ catchup = none, .range)]
        { s with
          inbound := none
          rig := { s.rig with
            delay := new
            egress := (e.answered [doneWith tag .delaySetup
              [new.target, new.dumpLength, new.buildSlip, new.catchupSlip]]).delayTold d new .request } })) ∧
    (let new : Delay := if d.state = .bypass then
        { d with
          state := .build, startMark := d.written, readPos := (d.written : Int) * 4096 - 4096
          prior := none, exitFlag := false, overrunFlag := false, crossfade := 0 }
      else if d.state = .exit then { d with state := byLength d.target }
      else if d.state = .held then { d with exitFlag := false } else d
     exec (.delayStart tag) s = .next (s.outcome e tag .delayStart
      [(d.state = .bypass ∧ (pages = 0 ∨ pages * 32768 ≤ d.target), .state)]
      ((s.answered (e.delayTold d new .request) [doneWith tag .delayStart []]).onRig fun r =>
        { r with delay := new }))) ∧
    (let new : Delay := if d.state = .build ∨ d.state = .steady ∨ d.state = .catchup
      then { d with state := .exit }
      else if d.state = .held then { d with exitFlag := true } else d
     exec (.delayExit tag) s = .next (s.outcome e tag .delayExit
      [(∃ k : LineId, (s.line k).state = .onAir, .busy)]
      ((s.answered (e.delayTold d new .request) [doneWith tag .delayExit []]).onRig fun r =>
        { r with delay := new }))) ∧
    (let amount : Int := min ((d.dumpLength : Int) * 4096) (length - 4096)
     let fades : Bool := d.state ≠ .held ∧ 0 < amount
     let left := length - amount
     let new : Delay := { d with
      readPos := d.readPos + amount
      oldReadPos := if fades = true then d.readPos else d.oldReadPos
      crossfade := if fades = true then 64 else d.crossfade
      state := if (d.state = .steady ∨ d.state = .catchup) ∧ left < (d.target : Int) * 4096 then .build
        else d.state }
     exec (.delayDump tag) s = .next (s.outcome e tag .delayDump [(d.state = .bypass, .state)]
      ((s.answered ((e.report (.delayDumped amount.toNat left.toNat)).delayTold d new .request)
        [doneWith tag .delayDump [amount.toNat / 1073741824, amount.toNat % 1073741824,
          left.toNat / 1073741824, left.toNat % 1073741824]]).onRig fun r => { r with delay := new })))

/-! ### Chapter 8: emergency alerts -/

/-- ALERT_NOTICE checks its fields and is then settled by the first step that settles it (R137 to R143, R48,
R49): a duplicate, an expired notice, one that no record, region or recorder can take, one that a filter ignores
or logs, or one accepted, which takes the lowest FREE record or else the finished one with the smallest arrival
number, a place in the recent-identity list, and a FREE recorder or else that of the youngest cart recording,
which is abandoned (R53). The model's choice are: the codes of the intake results (notes/assumptions/8.md), that
the reports stand before the reply (notes/assumptions/15.md), and that an expired notice is reported with filter
index none (notes/assumptions/32.md). -/
def Obligations.NoticeIntakeEndsAtTheFirstStepThatSettles : Prop :=
  ∀ (s : State) (e : Egress) (tag : Tag) (f : NoticeFields), s.rig.egress.secure 1 = some e →
    let inRange : Prop := 1 ≤ f.originator ∧ f.originator ≤ 15 ∧ f.eventClass ≤ 63 ∧ 1 ≤ f.severity ∧
      f.severity ≤ 3 ∧ f.areas ≠ [] ∧ f.areas.length ≤ 8 ∧ (∀ a ∈ f.areas, a ≤ 65535) ∧
      f.audioLane < 16 ∧ f.declaredLength ≠ 0
    let known : Prop := (f.originator, f.identity) ∈ s.rig.alerts.recent ∨
      ∃ i : RecordId, (s.rig.record i).state ≠ .free ∧ (s.rig.record i).originator = f.originator ∧
        (s.rig.record i).identity = f.identity
    let duration := max 60 (min f.validDuration 86400)
    let expires := if s.clock.timeValid = true then f.issueTime + duration else s.clock.seconds + duration
    let matches' := fun i : Fin 24 =>
      let x := s.rig.alerts.filters[i]
      x.inUse = true ∧ (x.eventClass = none ∨ x.eventClass = some f.eventClass) ∧
        x.minSeverity ≤ f.severity ∧ (x.areas = [] ∨ ∃ a ∈ x.areas, a ∈ f.areas)
    let notice := fun i : Option (Fin 24) => (
      { originator := f.originator, identity := f.identity, eventClass := f.eventClass
        severity := f.severity, filter := i } : NoticeReport)
    let recent := (if 32 ≤ s.rig.alerts.recent.length then s.rig.alerts.recent.drop 1
      else s.rig.alerts.recent) ++ [(f.originator, f.identity)]
    let settled := fun (m : Report) (data : List Nat) (alerts : Alerts) (library : Library) =>
      (s.answered (e.report m) [doneWith tag .alertNotice data]).onRig fun r =>
        { r with alerts := { alerts with recent := recent }, library := library }
    let same := fun (m : Report) (data : List Nat) => settled m data s.rig.alerts s.rig.library
    let record := fun (state : AlertState) (i : Option (Fin 24)) (x : Filter) => (
      { AlertRecord.free with
        state := state, originator := f.originator, identity := f.identity
        eventClass := f.eventClass, severity := f.severity, areas := f.areas, issueTime := f.issueTime
        audioLane := f.audioLane, declaredLength := f.declaredLength, validUntil := expires, filter := i
        action := x.action, confirmWindow := x.confirmWindow, expiryAction := x.expiryAction
        leadIn := x.leadIn, leadOut := x.leadOut
        arrival := if 4294967295 ≤ s.rig.alerts.arrivalCount then 1
          else s.rig.alerts.arrivalCount + 1 } : AlertRecord)
    let holding := fun (n : RecordId) (x : AlertRecord) =>
      { s.rig.alerts with
        records := vset s.rig.alerts.records n x, arrivalCount := x.arrival }
    let allLive : Prop := ∀ i : RecordId, (s.rig.record i).live = true
    let taken := fun n : RecordId =>
      (s.rig.record n).state = .free ∧ (∀ j < n, (s.rig.record j).state ≠ .free) ∨
        (∀ j : RecordId, (s.rig.record j).state ≠ .free) ∧ (s.rig.record n).live = false ∧
          ∀ j : RecordId, j ≠ n → (s.rig.record j).live = false →
            serialGreater (s.rig.record j).arrival (s.rig.record n).arrival = true
    (¬ inRange → exec (.alertNotice tag f) s =
      .next (s.answered e [refusedWith tag .alertNotice .range])) ∧
    (inRange → known → exec (.alertNotice tag f) s = .next (s.answered
      (e.report (.alertDuplicate f.originator f.identity)) [doneWith tag .alertNotice [2]])) ∧
    (inRange → ¬ known → s.clock.timeValid = true → expires ≤ s.clock.seconds →
      exec (.alertNotice tag f) s = .next (same (.alertRejected (notice none) .expired) [3, 0])) ∧
    (inRange → ¬ known → (s.clock.timeValid = true → s.clock.seconds < expires) →
      ((∀ i, ¬ matches' i) →
        let x : Filter := { Filter.unused with
          action := .log, confirmWindow := 120, expiryAction := .drop }
        (allLive → exec (.alertNotice tag f) s =
          .next (same (.alertLogged (notice none) none) [1, 1073741823])) ∧
        ∀ n : RecordId, taken n →
          exec (.alertNotice tag f) s = .next (settled (.alertLogged (notice none) (some n)) [1, n.val]
            (holding n (record .logged none x)) s.rig.library)) ∧
      ∀ i : Fin 24, matches' i → (∀ j < i, ¬ matches' j) →
        let x := s.rig.alerts.filters[i]
        (x.action = .ignore → exec (.alertNotice tag f) s =
          .next (same (.alertRejected (notice (some i)) .filtered) [3, 1])) ∧
        (x.action = .log → allLive → exec (.alertNotice tag f) s =
          .next (same (.alertLogged (notice (some i)) none) [1, 1073741823])) ∧
        (∀ n : RecordId, taken n → x.action = .log → exec (.alertNotice tag f) s =
            .next (settled (.alertLogged (notice (some i)) (some n)) [1, n.val]
              (holding n (record .logged (some i) x)) s.rig.library)) ∧
        (x.action = .auto ∨ x.action = .confirm →
          (allLive → exec (.alertNotice tag f) s =
            .next (same (.alertRejected (notice (some i)) .tableFull) [3, 2])) ∧
          (¬ allLive → s.rig.library.alertRegion.pages = 0 → exec (.alertNotice tag f) s =
            .next (same (.alertRejected (notice (some i)) .noRegion) [3, 3])) ∧
          (¬ allLive → s.rig.library.alertRegion.pages ≠ 0 →
            (∀ k : RecorderId, ∃ j, (s.rig.recorder k).binding = .alert j) →
            exec (.alertNotice tag f) s =
              .next (same (.alertRejected (notice (some i)) .noRecorder) [3, 4])) ∧
          ∀ (n : RecordId) (k : RecorderId) (lane : Fin 16),
            taken n → lane.val = f.audioLane → s.rig.library.alertRegion.pages ≠ 0 →
            let order := (s.rig.library.lastGrant + 1) % 4294967296
            let bound : Library := { s.rig.library with
              recorders := vset s.rig.library.recorders k
                { binding := .alert n, source := .lane lane, position := 0
                  limit := s.rig.library.alertRegion.pages / 16 * 65536, grantOrder := order }
              lastGrant := order }
            ((s.rig.recorder k).binding = .free → (∀ j < k, (s.rig.recorder j).binding ≠ .free) →
              exec (.alertNotice tag f) s =
                .next (settled (.alertAccepted (notice (some i)) n) [0, n.val]
                  (holding n (record .recording (some i) x)) bound)) ∧
            ∀ c : CartId, (s.rig.recorder k).binding = .cart c →
              (∀ j : RecorderId, (s.rig.recorder j).binding ≠ .free) →
              (∀ (j : RecorderId) (b : CartId), j ≠ k → (s.rig.recorder j).binding = .cart b →
                serialGreater (s.rig.recorder k).grantOrder (s.rig.recorder j).grantOrder = true) →
              let abandoned : Cart := { s.rig.cart c with
                state := .defined, length := 0, cueIn := 0, intro := none, segue := none, cueOut := 0 }
              exec (.alertNotice tag f) s = .next ((s.answered
                ((e.report (.recordAbandoned c .alert (s.rig.recorder k).position)).report
                  (.alertAccepted (notice (some i)) n))
                [doneWith tag .alertNotice [0, n.val]]).onRig fun r => { r with
                  alerts := { holding n (record .recording (some i) x) with recent := recent }
                  library := { bound with carts := vset s.rig.library.carts c abandoned } })))

/-- ALERT_AUDIO_END, ALERT_CANCEL, ALERT_CONFIRM, ALERT_DECLINE, ALERT_ABORT and ALERT_FORGET find their record
by its pair or its number, are refused as their rules say, and move it to the state that its own state calls for
(R145, R147, R150, R155 to R157). The model's choice are: that the reports RECORDED, CONFIRMED and DECLINED
stand after the reply (notes/assumptions/15.md), and the flag by which a valid-until reached while the record was
RECORDING stays reached at the end of the recording (R148, notes/assumptions/33.md). -/
def Obligations.AlertRequestsMoveTheirRecord : Prop :=
  ∀ (s : State) (e : Egress) (tag : Tag), s.rig.egress.secure 1 = some e → s.rig.alertLaw →
    (∀ o n : Nat, o = 0 ∨ 15 < o →
      exec (.alertAudioEnd tag o n) s = .next (s.answered e [refusedWith tag .alertAudioEnd .range]) ∧
      exec (.alertCancel tag o n) s = .next (s.answered e [refusedWith tag .alertCancel .range])) ∧
    (∀ o n : Nat, 1 ≤ o → o ≤ 15 →
      (∀ i : RecordId, (s.rig.record i).state ≠ .free → (s.rig.record i).originator = o →
        (s.rig.record i).identity ≠ n) →
      exec (.alertAudioEnd tag o n) s = .next (s.answered e [refusedWith tag .alertAudioEnd .absent]) ∧
      exec (.alertCancel tag o n) s = .next (s.answered e [refusedWith tag .alertCancel .absent])) ∧
    (∀ i : RecordId, (s.rig.record i).state = .free →
      exec (.alertConfirm tag i) s = .next (s.answered e [refusedWith tag .alertConfirm .absent]) ∧
      exec (.alertDecline tag i) s = .next (s.answered e [refusedWith tag .alertDecline .absent]) ∧
      exec (.alertAbort tag i) s = .next (s.answered e [refusedWith tag .alertAbort .absent])) ∧
    ∀ i : RecordId,
      let a := s.rig.record i
      let first : Prop := 1 ≤ a.originator ∧ a.originator ≤ 15 ∧
        ∀ j < i, (s.rig.record j).state ≠ .free → (s.rig.record j).originator = a.originator →
          (s.rig.record j).identity ≠ a.identity
      let freed := fun t : State => ∀ k : RecorderId, t.rig.recorder k =
        if (s.rig.recorder k).binding = .alert i then .free else s.rig.recorder k
      let others := fun t : State => ∀ j : RecordId, j ≠ i → (s.rig.record j).state ≠ .queued →
        t.rig.record j = s.rig.record j
      (a.state ≠ .free → a.state ≠ .recording → first →
        exec (.alertAudioEnd tag a.originator a.identity) s =
          .next (s.answered e [refusedWith tag .alertAudioEnd .state])) ∧
      (a.state = .recording → first → ∃ t later,
        exec (.alertAudioEnd tag a.originator a.identity) s = .next t ∧ freed t ∧ others t ∧
        (e.queue.length < 31 → t.rig.egress.queue = e.queue ++ doneWith tag .alertAudioEnd [] ::
          .report (.alertRecorded i (s.rig.alertPosition i) a.truncated) :: later) ∧
        (t.rig.record i).recordedLength = s.rig.alertPosition i ∧
        (a.validUntilReached = true ∨ a.validUntil ≤ s.clock.seconds →
          (t.rig.record i).state = .expired) ∧
        (a.validUntilReached = false → s.clock.seconds < a.validUntil →
          a.action = .auto ∨ a.confirmedEarly = true →
          (t.rig.record i).state = .queued ∨ (t.rig.record i).state = .airing) ∧
        (a.validUntilReached = false → s.clock.seconds < a.validUntil →
          a.action ≠ .auto → a.confirmedEarly = false →
          t.rig.record i = { a with
            recordedLength := s.rig.alertPosition i, state := .awaiting
            deadline := some (s.clock.seconds + a.confirmWindow) })) ∧
      (a.state ≠ .free → a.live = false → first →
        exec (.alertCancel tag a.originator a.identity) s =
          .next (s.answered e [refusedWith tag .alertCancel .state])) ∧
      (a.live = true → first → ∃ t, exec (.alertCancel tag a.originator a.identity) s = .next t ∧
        t.rig.record i = { a with state := .cancelled } ∧ freed t ∧ others t ∧
        repliesOf t.rig.egress.queue = repliesOf e.queue ++ [doneWith tag .alertCancel []]) ∧
      (a.state ≠ .free → a.state ≠ .recording → a.state ≠ .awaiting →
        exec (.alertConfirm tag i) s = .next (s.answered e [refusedWith tag .alertConfirm .state]) ∧
        exec (.alertDecline tag i) s = .next (s.answered e [refusedWith tag .alertDecline .state])) ∧
      (a.state = .recording → exec (.alertConfirm tag i) s = .next
        (((s.answered e [doneWith tag .alertConfirm []]).onRig (·.setRecord i
          { a with confirmedEarly := true })).report (.alertConfirmed i))) ∧
      (a.state = .awaiting → s.rig.alerts.airing ≠ none → exec (.alertConfirm tag i) s = .next
        (((s.answered e [doneWith tag .alertConfirm []]).onRig fun r =>
          let number := if 4294967295 ≤ r.alerts.queueCount then 1 else r.alerts.queueCount + 1
          { r with alerts := { r.alerts with
            queueCount := number
            records := vset r.alerts.records i
              { a with state := .queued, queueEntry := number } } }).report (.alertConfirmed i))) ∧
      (a.state = .recording ∨ a.state = .awaiting → ∃ t, exec (.alertDecline tag i) s = .next t ∧
        t.rig.record i = { a with state := .declined } ∧ freed t ∧
        (∀ j, j ≠ i → t.rig.record j = s.rig.record j) ∧
        t.rig.egress = (e.answered [doneWith tag .alertDecline []]).report (.alertDeclined i) ∧
        t = { s with inbound := none, rig := t.rig } ∧
        t.rig = { s.rig with egress := t.rig.egress, library := t.rig.library, alerts := t.rig.alerts }) ∧
      (a.state ≠ .free → a.state ≠ .airing →
        exec (.alertAbort tag i) s = .next (s.answered e [refusedWith tag .alertAbort .state])) ∧
      (a.state = .airing → ∃ t, exec (.alertAbort tag i) s = .next t ∧
        t.rig.record i = { a with state := .aborted } ∧ others t ∧
        repliesOf t.rig.egress.queue = repliesOf e.queue ++ [doneWith tag .alertAbort []]) ∧
      exec (.alertForget tag i) s = .next (s.outcome e tag .alertForget [(a.live, .state)]
        ((s.answered e [doneWith tag .alertForget []]).onRig (·.setRecord i .free)))

/-- The start and the end of a run of alerts (R68, R131, R132, R151 to R155, R160, R162): the first alert to air
makes ALERT the owner and holds the delay, or over BYPASS pauses every program deck on air; the next queued alert
airs within the run, the one of greatest severity and among those of equal severity the one that was queued first; and
the end of the run lets the delay out, gives back the air and wakes the paused decks: where no start is then due, each
goes back to the state it was paused from, with no prior state, its flag cleared and a new audible order, the decks in
increasing audible order. -/
def Obligations.AnAlertRunTakesTheAirAndGivesItBack : Prop :=
  ∀ (s : State) (e : Egress) (tag : Tag) (i : RecordId),
    s.rig.egress.secure 1 = some e → s.rig.alertLaw → s.rig.ownerLaw → s.rig.delayLaw →
    let d := s.rig.delay
    ((s.rig.record i).state = .awaiting → s.rig.alerts.airing = none →
      ∃ t, exec (.alertConfirm tag i) s = .next t ∧ (t.rig.record i).state = .airing ∧
        t.rig.alerts.airing = some i ∧ t.rig.airSwitch.runFlag = true ∧ t.rig.airSwitch.owner = .alert ∧
        (d.state ≠ .bypass → d.state ≠ .held → t.rig.delay = { d with
            state := .held, prior := some d.state, exitFlag := d.exitFlag || d.state == .exit
            overrunFlag := false, crossfade := 0 } ∧
          (∀ k : DeckId, k.val < 4 → t.rig.deck k = s.rig.deck k) ∧
          t.rig.alerts.decksPaused = s.rig.alerts.decksPaused) ∧
        (d.state = .bypass → t.rig.delay = d ∧ t.rig.alerts.decksPaused = true ∧
          ∀ k : DeckId, k.val < 4 → t.rig.deck k = if (s.rig.deck k).audible = true
            then { s.rig.deck k with
              state := .paused, pausedForAlert := true
              prior := some (if (s.rig.deck k).state = .fading then .fading else .playing) }
            else s.rig.deck k)) ∧
    ((s.rig.record i).state = .airing → (∀ j : RecordId, (s.rig.record j).state ≠ .queued) →
      ∃ t, exec (.alertAbort tag i) s = .next t ∧ t.rig.alerts.airing = none ∧
        t.rig.alerts.decksPaused = false ∧ (t.rig.deck deckA).state = .empty ∧
        t.rig.airSwitch.runFlag = false ∧
        t.rig.airSwitch.owner = (if s.rig.monitors.acts dlySilence = true ∧
          s.rig.airSwitch.fallbackEnable = true then .fallback else .program) ∧
        (d.state ≠ .held → t.rig.delay = d) ∧
        (d.state = .held → t.rig.delay = { d with
          state := if d.exitFlag = true then .exit
            else if (d.target : Int) * 4096 < d.length then .catchup
            else if d.length < (d.target : Int) * 4096 then .build else .steady
          prior := none, exitFlag := false, overrunFlag := false }) ∧
        (s.rig.alerts.decksPaused = false →
          ∀ k : DeckId, k.val < 4 → t.rig.deck k = s.rig.deck k) ∧
        (s.rig.alerts.decksPaused = true → ∀ k : DeckId, k.val < 4 →
          (t.rig.deck k).pausedForAlert = true → (t.rig.deck k).state ≠ .paused) ∧
        (let es := s.rig.order.entries
         let asleep := fun k : DeckId => (s.rig.deck k).state = .paused ∧
           (s.rig.deck k).pausedForAlert = true
         let woken := fun (k : DeckId) (order : Nat) => { s.rig.deck k with
           state := if (s.rig.deck k).prior = some PriorState.fading then DeckState.fading else .playing
           prior := none, pausedForAlert := false, audibleOrder := order % 4294967296 }
         s.rig.alerts.decksPaused = true →
         (∀ x ∈ es, x.state = .assigned → ∀ k, x.deck = some k →
           (s.rig.deck k).state = .loading ∨ (s.rig.deck k).state = .cued) →
         (s.rig.order.hold = true ∨ (∀ x ∈ es, x.skipPending = false) ∧
           ∀ x, firstNonAiring es = some x → dueIn es x = false) →
         (∀ k : DeckId, k.val < 4 → asleep k →
           (∀ m : DeckId, m.val < 4 → asleep m → m = k) →
           (programDecks.filter fun m => (s.rig.deck m).audible).length < 2 →
           t.rig.deck k = woken k (s.rig.decks.lastAudible + 1)) ∧
         ∀ k m : DeckId, k.val < 4 → m.val < 4 → k ≠ m → asleep k → asleep m →
           serialGreater (s.rig.deck m).audibleOrder (s.rig.deck k).audibleOrder = true →
           (∀ n : DeckId, n.val < 4 → asleep n → n = k ∨ n = m) →
           (∀ n : DeckId, n.val < 4 → (s.rig.deck n).audible = false) →
           t.rig.deck k = woken k (s.rig.decks.lastAudible % 4294967296 + 1) ∧
           t.rig.deck m = woken m (s.rig.decks.lastAudible + 2))) ∧
    (∀ j : RecordId, (s.rig.record i).state = .airing → (s.rig.record j).state = .queued →
      (∀ m : RecordId, (s.rig.record m).state = .queued → m ≠ j →
        (s.rig.record m).severity < (s.rig.record j).severity ∨
        (s.rig.record m).severity = (s.rig.record j).severity ∧
          serialGreater (s.rig.record m).queueEntry (s.rig.record j).queueEntry = true) →
      ∃ t, exec (.alertAbort tag i) s = .next t ∧ t.rig.alerts.airing = some j ∧
        (t.rig.record j).state = .airing ∧ t.rig.airSwitch = s.rig.airSwitch ∧ t.rig.delay = d ∧
        t.rig.alerts.decksPaused = s.rig.alerts.decksPaused)

/-- FILTER_SET writes one entry, with a confirm window of 120 where none is given and clamped where one is, and
FILTER_CLEAR makes one unused; FILTER_SET refuses with RANGE an operand outside its range, and FILTER_CLEAR an index
above 23 (R140, R141). -/
def Obligations.FilterRequestsSetOneEntry : Prop :=
  ∀ (s : State) (e : Egress) (tag : Tag), s.rig.egress.secure 1 = some e →
    (∀ f : FilterFields,
      24 ≤ f.index ∨ 63 < f.eventClass ∧ f.eventClass ≠ 1073741823 ∨ f.minSeverity = 0 ∨
        3 < f.minSeverity ∨ 8 < f.areas.length ∨ (∃ a ∈ f.areas, 65535 < a) ∨ 3 < f.action ∨
        1 < f.expiryAction ∨ (∃ n, f.leadIn = some n ∧ 255 < n) ∨
        (∃ n, f.leadOut = some n ∧ 255 < n) →
      exec (.filterSet tag f) s = .next (s.answered e [refusedWith tag .filterSet .range])) ∧
    (∀ n : Nat, 24 ≤ n →
      exec (.filterClear tag n) s = .next (s.answered e [refusedWith tag .filterClear .range])) ∧
    (∀ (i : Fin 24) (cls : Option (Fin 64)) (severity : Nat) (areas : List Nat)
      (action : AlertAction) (window : Option Nat) (expiry : ExpiryAction) (leadIn leadOut : Option CartId),
      1 ≤ severity → severity ≤ 3 → areas.length ≤ 8 → (∀ a ∈ areas, a ≤ 65535) →
      let new : Filter :=
        { inUse := true, eventClass := cls.map Fin.val, minSeverity := severity, areas := areas
          action := action, confirmWindow := max 10 (min (window.getD 120) 900)
          expiryAction := expiry, leadIn := leadIn, leadOut := leadOut }
      exec (.filterSet tag
        { index := i, eventClass := (cls.map Fin.val).getD 1073741823, minSeverity := severity
          action := action.code, confirmWindow := window, expiryAction := expiry.code
          leadIn := leadIn.map Fin.val, leadOut := leadOut.map Fin.val, areas := areas }) s =
        .next ((s.answered e [doneWith tag .filterSet []]).onRig fun r =>
          { r with alerts := { r.alerts with filters := vset r.alerts.filters i new } })) ∧
    ∀ i : Fin 24,
      let off : Filter := { s.rig.alerts.filters[i] with inUse := false }
      exec (.filterClear tag i) s = .next ((s.answered e [doneWith tag .filterClear []]).onRig fun r =>
        { r with alerts := { r.alerts with filters := vset r.alerts.filters i off } })

/-! ### Chapter 9: the air switch and the monitors -/

/-- A frame event of the Air Switch (R161, R163, R166): with no crossfade AIR is the owner's input; with one it
is the two inputs mixed by the weight after its step; at the span the crossfade ends with the owner's input
alone, and deck F is emptied if FALLBACK has gone out of use. AIR_SETUP takes the given settings and keeps the
others; a changed enable is followed by an evaluation of the owner, and a change of owner begins a crossfade or
turns the one in flight (R162 to R164, R167). On a change of owner to FALLBACK deck F is sent LOAD with the fallback
cart, after it is emptied if it holds another source, and keeps what it plays if that is the fallback cart; with no
cart set, or one that is not READY or not of class SERVICE, NO_FALLBACK is reported with its cause (R165). The
model's choice are: that CROSSFADE_END is the whole frame event that ends the crossfade, and nothing before the span
(notes/assumptions/4.md), and that the reply stands before AIR_EVENT OWNER, and that before deck F's ENDED and
NO_FALLBACK (notes/assumptions/15.md). -/
def Obligations.SwitchFrameMixesAndAirSetupSets : Prop :=
  (∀ s : State,
     let a := s.rig.airSwitch
     let both := fun f : Frame => (match f with
       | .mono x => { l := x, r := x }
       | .stereo l r => { l := l, r := r } : Stereo)
     let input := fun o : AirOwner => match o with
       | .program => s.taken.dly
       | .alert => both s.taken.decks[(4 : Fin 6)]
       | .fallback => both s.taken.decks[(5 : Fin 6)]
     (a.outgoing = none → exec .switchFrame s =
       .next { s with completed := { s.completed with air := input a.owner } }) ∧
     (∀ old, a.outgoing = some old → a.weight + 1 < a.span →
       exec .crossfadeEnd s = .next s ∧
       ∃ t, exec .switchFrame s = .next t ∧
         t.completed.air.l.toInt = ((input old).l.toInt * ((a.span : Int) - (a.weight + 1)) +
           (input a.owner).l.toInt * (a.weight + 1)) / a.span ∧
         t.completed.air.r.toInt = ((input old).r.toInt * ((a.span : Int) - (a.weight + 1)) +
           (input a.owner).r.toInt * (a.weight + 1)) / a.span ∧
         t = { s with
           completed := { s.completed with air := t.completed.air }
           rig := { s.rig with airSwitch := { a with weight := a.weight + 1 } } }) ∧
     (∀ old, a.outgoing = some old → a.span ≤ a.weight + 1 →
       ∃ t, exec .switchFrame s = .next t ∧ exec .crossfadeEnd s = .next t ∧
         t.completed = { s.completed with air := input a.owner } ∧
         t.rig.airSwitch = { a with outgoing := none, weight := a.span } ∧
         (old = .fallback → a.owner ≠ .fallback → (t.rig.deck deckF).state = .empty ∧
           ∀ d : DeckId, d ≠ deckF → t.rig.deck d = s.rig.deck d) ∧
         (old ≠ .fallback ∨ a.owner = .fallback → t.rig.decks = s.rig.decks ∧
           t.rig.egress = s.rig.egress) ∧
         t = { s with completed := t.completed, rig := t.rig } ∧
         t.rig = { s.rig with
           egress := t.rig.egress, decks := t.rig.decks, airSwitch := t.rig.airSwitch })) ∧
  (∀ (s : State) (e : Egress) (tag : Tag) (cart enable fade : Option Nat),
     s.rig.egress.secure 1 = some e →
     let bad : Prop := cart = none ∧ enable = none ∧ fade = none ∨
       (∃ n, cart = some n ∧ 256 ≤ n ∧ n ≠ 1073741823) ∨ (∃ n, enable = some n ∧ 1 < n) ∨
       (∃ n, fade = some n ∧ (n = 0 ∨ 100 < n))
     let a := s.rig.airSwitch
     let set : AirSwitch := { a with
       fallbackCart := match cart with
         | none => a.fallbackCart
         | some n => index? 256 n
       fallbackEnable := (enable.map fun n => n == 1).getD a.fallbackEnable
       fadeLength := (fade.map fun n => n * 48).getD a.fadeLength }
     let owner : AirOwner := if a.runFlag = true then .alert
       else if s.rig.monitors.acts dlySilence = true ∧ set.fallbackEnable = true then .fallback
       else .program
     (bad → exec (.airSetup tag cart enable fade) s =
       .next (s.answered e [refusedWith tag .airSetup .range])) ∧
     (¬ bad → set.fallbackEnable = a.fallbackEnable ∨ owner = a.owner →
       exec (.airSetup tag cart enable fade) s =
         .next ((s.answered e [doneWith tag .airSetup []]).onRig fun r => { r with airSwitch := set })) ∧
     (¬ bad → set.fallbackEnable ≠ a.fallbackEnable → owner ≠ a.owner →
       ∃ t later, exec (.airSetup tag cart enable fade) s = .next t ∧
         t.rig.airSwitch = (if a.outgoing = none
           then { set with owner := owner, outgoing := some a.owner, weight := 0, span := set.fadeLength }
           else if a.weight = 0 then { set with owner := owner, outgoing := none, weight := a.span }
           else { set with
             owner := owner, outgoing := some a.owner, weight := a.span - a.weight }) ∧
         (e.queue.length < 31 → t.rig.egress.queue = e.queue ++ doneWith tag .airSetup [] ::
           .report (.airOwner a.owner owner .setup) :: later) ∧
         (owner = .fallback →
           let told := (e.answered [doneWith tag .airSetup []]).report (.airOwner a.owner owner .setup)
           let f := s.rig.deck deckF
           let stays : Prop := f.state ≠ .empty ∧ ∃ c, set.fallbackCart = some c ∧ f.source = .cart c
           let cleared : Deck := if f.state = .empty then f
             else { Deck.reset with audibleOrder := f.audibleOrder }
           let cut := if f.state = .playing ∨ f.state = .fading ∨ f.state = .paused
             then told.report (.deckEnded deckF f.source .cut) else told
           (stays → t.rig.deck deckF = f ∧ t.rig.egress = told) ∧
           (set.fallbackCart = none →
             t.rig.deck deckF = cleared ∧ t.rig.egress = cut.report (.airNoFallback .noCart)) ∧
           ∀ c, set.fallbackCart = some c → ¬ stays →
             let x := s.rig.cart c
             (x.state ≠ .ready → t.rig.deck deckF = cleared ∧
               t.rig.egress = cut.report (.airNoFallback .notReady)) ∧
             (x.state = .ready → x.cls = .program → t.rig.deck deckF = cleared ∧
               t.rig.egress = cut.report (.airNoFallback .wrongClass)) ∧
             (x.state = .ready → x.cls = .service → t.rig.egress = cut ∧
               t.rig.deck deckF = { Deck.reset with
                 state := .loading, source := .cart c, form := x.form, cueIn := x.cueIn
                 playEnd := x.cueOut, position := x.cueIn, gain := 16384, loop := true
                 audibleOrder := f.audibleOrder })) ∧
         (∀ d : DeckId, d ≠ deckF → t.rig.deck d = s.rig.deck d) ∧
         t = { s with inbound := none, rig := t.rig } ∧
         t.rig = { s.rig with
           egress := t.rig.egress, decks := t.rig.decks, airSwitch := t.rig.airSwitch }))

/-- A frame event of the Monitor block raises every instance's peaks by what its point completed at the frame
before; at the 480th the block ends: a block that the rules discard leaves the instance as it stands, and every
other is counted by the tables of R170 and R171 (R169 to R171). A change of state is reported by MONITOR_EVENT with the
instance, both states and the greater peak (R171), and then a change of whether the instance acts is handed on (R173):
a quiet fault, an overload fault or an overload clear to the caller lines, and the DLY-silence instance's to the Air
Switch, whose OWNER report follows. The model's choice are: that MONITOR_BLOCK_END
is that whole frame event, and nothing before the 480th (notes/assumptions/4.md), and that the persistence stops
at the fault count and how a discarded block is marked (notes/assumptions/14.md), that what is handed to the caller
lines waits in a list (notes/assumptions/13.md), and that MONITOR_EVENT carries no line for a point instance
(notes/assumptions/8.md). -/
def Obligations.MonitorFrameMeasuresAndCountsBlocks : Prop :=
  ∀ (s : State) (c : Fin 18),
    let x := s.rig.cell c
    let m := s.rig.monitors.settings[cellSetting c]
    let point := if c.val < 2 then s.taken.pgm else if c.val < 4 then s.taken.dly else s.taken.air
    let sample := fun k : LineId => (match (s.line k).inLane with
      | some lane => s.taken.lanes[lane]
      | none => 0 : Sample)
    let left := max x.peakL (match cellLine c with
      | none => point.l.toInt.natAbs
      | some k => (sample k).toInt.natAbs)
    let right := max x.peakR (match cellLine c with
      | none => point.r.toInt.natAbs
      | some _ => 0)
    let spoilt : Bool := (c.val = 2 ∨ c.val = 3) ∧ s.rig.airSwitch.owner = .alert ∨
      ∃ k, cellLine c = some k ∧ (s.line k).state ≠ .onAir
    let n := x.persistence + 1
    let quiet : Bool := max left right < m.threshold
    let restoring : MonitorState × Nat × Nat :=
      if m.mode = .latched then (.fault, x.persistence, x.restoreCount)
      else if m.restore * 100 ≤ x.restoreCount + 1 then (.clear, 0, 0)
      else (.fault, x.persistence, x.restoreCount + 1)
    let counted : MonitorState × Nat × Nat :=
      if (cellSetting c).val % 2 = 0 then
        (if quiet = true then
          (if x.state = .fault then (.fault, x.persistence, 0)
           else if m.fault * 100 ≤ n then (.fault, m.fault * 100, 0)
           else if m.warn * 100 ≤ n then (.warning, n, x.restoreCount)
           else (x.state, n, x.restoreCount))
         else if x.state = .fault then restoring else (.clear, 0, x.restoreCount))
      else
        (if quiet = false then
          (if x.state = .fault then (.fault, x.persistence, 0)
           else if m.hold ≤ n then (.fault, n, 0) else (x.state, n, x.restoreCount))
         else if x.state = .fault then restoring else (x.state, 0, x.restoreCount))
    (s.rig.monitors.phase + 1 < 480 → exec .monitorBlockEnd s = .next s ∧
      ∃ t, exec .monitorFrame s = .next t ∧
        t.rig.cell c =
          { x with peakL := left, peakR := right, discard := x.discard || spoilt } ∧
        t = { s with rig := { s.rig with monitors := { s.rig.monitors with
          cells := t.rig.monitors.cells, phase := s.rig.monitors.phase + 1 } } }) ∧
    (480 ≤ s.rig.monitors.phase + 1 → ∃ t, exec .monitorFrame s = .next t ∧
      exec .monitorBlockEnd s = .next t ∧ t.rig.monitors.phase = 0 ∧
      t.rig.monitors.settings = s.rig.monitors.settings ∧
      (t.rig.cell c).peakL = 0 ∧ (t.rig.cell c).peakR = 0 ∧ (t.rig.cell c).discard = false ∧
      ((t.rig.cell c).state, (t.rig.cell c).persistence, (t.rig.cell c).restoreCount) =
        (if x.discard = true ∨ spoilt = true ∨ m.mode = .off
          then (x.state, x.persistence, x.restoreCount) else counted) ∧
      (let new := (t.rig.cell c).state
       let event : Report :=
         .monitorState (cellSetting c) (cellLine c) x.state new (max left right)
       let told := if new = x.state then s.rig.egress else s.rig.egress.report event
       let acts := fun st : MonitorState => st = .fault ∧ (m.mode = .latched ∨ m.mode = .auto)
       let notices := t.rig.monitors.lineNotices
       let before := s.rig.monitors.lineNotices
       (∀ b : Fin 18, b ≠ c → (s.rig.cell b).discard = true ∨
         (s.rig.monitors.settings[cellSetting b]).mode = .off ∨
         ∃ k, cellLine b = some k ∧ (s.line k).state ≠ .onAir) →
       (c ≠ dlySilence → t.rig.egress = told ∧ t.rig.airSwitch = s.rig.airSwitch ∧
         t.rig.decks = s.rig.decks) ∧
       (cellLine c = none → notices = before) ∧
       (∀ k, c = quietCell k →
         (acts new → ¬ acts x.state → notices = before ++ [.quietFault k]) ∧
         (¬ acts new ∨ acts x.state → notices = before)) ∧
       (∀ k, c = overloadCell k →
         (acts new → ¬ acts x.state → notices = before ++ [.overloadFault k]) ∧
         (¬ acts new → acts x.state → notices = before ++ [.overloadClear k]) ∧
         ((acts new ↔ acts x.state) → notices = before)) ∧
       (c = dlySilence →
         let a := s.rig.airSwitch
         let owner : AirOwner := if a.runFlag = true then .alert
           else if acts new ∧ a.fallbackEnable = true then .fallback else .program
         ((acts new ↔ acts x.state) ∨ owner = a.owner → t.rig.egress = told ∧ t.rig.airSwitch = a) ∧
         (¬ (acts new ↔ acts x.state) → owner ≠ a.owner → t.rig.airSwitch.owner = owner ∧
           (s.rig.egress.queue.length + s.rig.egress.reserved < 31 →
             ∃ later, t.rig.egress.queue = s.rig.egress.queue ++ .report event ::
               .report (.airOwner a.owner owner (if acts new then .dlyFault else .dlyClear)) :: later)))))

/-- MONITOR_SET takes the given values of one setting and keeps the others, raises the fault time to the warn
time, and clears the setting's instances when the mode becomes OFF; MONITOR_CLEAR returns the named instances to
CLEAR, which gives the air back from FALLBACK (R172 to R175). The model's choice are: that a fault time above 255 s,
which no check refuses, is taken as given (notes/assumptions/21.md), and that what is handed to the caller lines waits
in a list, in which a change of the LINE-overload scope stands last (notes/assumptions/13.md). -/
def Obligations.MonitorRequestsSetAndClear : Prop :=
  ∀ (s : State) (e : Egress) (tag : Tag), s.rig.egress.secure 1 = some e →
    (∀ (n : Nat) (f : MonitorFields), 8 ≤ n → exec (.monitorSet tag n f) s =
      .next (s.answered e [refusedWith tag .monitorSet .range])) ∧
    ∀ i : Fin 8,
      let m := s.rig.monitors.settings[i]
      let ofOverload : Bool := i.val % 2 = 1
      (∀ f : MonitorFields,
        let bad : Prop := f.mode = none ∧ f.threshold = none ∧ f.warn = none ∧ f.fault = none ∧
            f.hold = none ∧ f.restore = none ∧ f.scope = none ∨
          ofOverload = true ∧ (f.warn ≠ none ∨ f.fault ≠ none) ∨ ofOverload = false ∧ f.hold ≠ none ∨
          i.val ≠ 7 ∧ f.scope ≠ none ∨ (∃ n, f.mode = some n ∧ 3 < n) ∨
          (∃ n, f.threshold = some n ∧ 8388607 < n) ∨ (∃ n, f.warn = some n ∧ (n = 0 ∨ 255 < n)) ∨
          (∃ n, f.hold = some n ∧ (n = 0 ∨ 100 < n)) ∨
          (∃ n, f.restore = some n ∧ (n = 0 ∨ 255 < n)) ∨ (∃ n, f.scope = some n ∧ 1 < n)
        let new : MonitorSetting :=
          { mode := (f.mode.bind monitorMode?).getD m.mode, threshold := f.threshold.getD m.threshold
            warn := f.warn.getD m.warn
            fault := max (f.fault.getD m.fault) (f.warn.getD m.warn)
            hold := f.hold.getD m.hold, restore := f.restore.getD m.restore
            scope := (f.scope.bind scope?).getD m.scope }
        (bad → exec (.monitorSet tag i f) s =
          .next (s.answered e [refusedWith tag .monitorSet .range])) ∧
        (¬ bad → ∃ t, exec (.monitorSet tag i f) s = .next t ∧
          t.rig.monitors.settings = vset s.rig.monitors.settings i new ∧
          (∀ c : Fin 18, t.rig.cell c =
            if cellSetting c = i ∧ new.mode = .off ∧ m.mode ≠ .off then
              { s.rig.cell c with
                state := .clear, persistence := 0, restoreCount := 0, peakL := 0, peakR := 0 }
            else s.rig.cell c) ∧
          t.rig.monitors.phase = s.rig.monitors.phase ∧
          (new.scope ≠ m.scope → t.rig.monitors.lineNotices.getLast? = some .scopeChange) ∧
          repliesOf t.rig.egress.queue = repliesOf e.queue ++ [doneWith tag .monitorSet
            [new.mode.code, new.threshold, new.warn, new.fault, new.hold, new.restore, new.scope.code]] ∧
          t = { s with inbound := none, rig := t.rig } ∧
          t.rig = { s.rig with
            egress := t.rig.egress, decks := t.rig.decks, airSwitch := t.rig.airSwitch
            monitors := t.rig.monitors })) ∧
      (∀ line : Nat, i.val < 6 ∧ line ≠ 1073741823 ∨ 6 ≤ i.val ∧ 6 < line →
        exec (.monitorClear tag i line) s =
          .next (s.answered e [refusedWith tag .monitorClear .range])) ∧
      ∀ line : Nat, i.val < 6 ∧ line = 1073741823 ∨ 6 ≤ i.val ∧ line ≤ 6 →
        ∃ t, exec (.monitorClear tag i line) s = .next t ∧
          t.rig.monitors.settings = s.rig.monitors.settings ∧
          (∀ c : Fin 18, t.rig.cell c =
            if cellSetting c = i ∧ (i.val < 6 ∨ line = 6 ∨ (cellLine c).map Fin.val = some line) then
              { s.rig.cell c with state := .clear, persistence := 0, restoreCount := 0 }
            else s.rig.cell c) ∧
          (i = 2 → s.rig.ownerLaw →
            t.rig.airSwitch.owner = if s.rig.airSwitch.runFlag = true then .alert else .program) ∧
          repliesOf t.rig.egress.queue = repliesOf e.queue ++ [doneWith tag .monitorClear []] ∧
          t = { s with inbound := none, rig := t.rig } ∧
          t.rig = { s.rig with
            egress := t.rig.egress, decks := t.rig.decks, airSwitch := t.rig.airSwitch
            monitors := t.rig.monitors }

/-! ### Chapter 10: the transmitter link -/

/-- A frame event of the Link controller gathers one AIR frame; the frame that fills the block sends it live on
the active port and quiet on the other, and the counts go on (R180 to R182, R202). A port whose heartbeat timer
runs out is DOWN and hands the air to the other port if that is UP, and the timer of a preferred port that
stands by takes the air back at the hold (R184, R186, R187). Each change is reported, HEALTH before CHANGEOVER before
BOTH_DOWN (R186) before what the new port's site status brings (R188). The model's choice are: that LINK_BLOCK_COMPLETE,
HEARTBEAT_EXPIRY and REVERTIVE_RETURN are that whole frame event, and nothing when they are not due
(notes/assumptions/4.md), and the order of its effects: the block, port A's timer, port B's timer, the revert
timer (notes/assumptions/23.md). -/
def Obligations.LinkFrameSendsBlocksAndCountsTimers : Prop :=
  (∀ s : State,
     let l := s.link
     let x := s.taken.air
     let peak := max l.peak (max x.l.toInt.natAbs x.r.toInt.natAbs)
     let word := fun n : Nat => BitVec.ofNat 32 n
     let block := fun (owner originator identity delay latency : Nat) (safe dead : Bool)
         (frames : List Stereo) =>
       let head := [word l.counter,
         word (owner * 536870912 + delay * 67108864 + (if safe = true then 33554432 else 0) +
           (if dead = true then 16777216 else 0) + l.blockLength * 65536),
         word originator, word identity, word latency]
       head ++ [head.foldl (· + ·) 0] ++
         frames.flatMap fun y => [y.l.signExtend 32, y.r.signExtend 32]
     let airing := s.rig.alerts.airing.map s.rig.record
     let live := block s.rig.airSwitch.owner.code ((airing.map AlertRecord.originator).getD 0)
       ((airing.map AlertRecord.identity).getD 0) s.rig.delay.state.code
       (4 + l.blockLength + (s.rig.delay.length / 4096).toNat) s.rig.delay.safe
       (s.rig.monitors.acts airSilence) (l.gathered ++ [x])
     let quiet := block 7 0 0 0 0 false false (List.replicate l.blockLength { l := 0, r := 0 })
     ∃ t, exec .linkFrame s = .next t ∧
       t = { s with link := t.link, rig := { s.rig with egress := t.rig.egress } } ∧
       t.link.preferred = l.preferred ∧ t.link.nextLength = l.nextLength ∧
       t.link.timeoutMs = l.timeoutMs ∧ t.link.lagLimit = l.lagLimit ∧
       (l.phase + 1 < l.blockLength → exec .linkBlockComplete s = .next s ∧
         t.link.gathered = l.gathered ++ [x] ∧ t.link.phase = l.phase + 1 ∧ t.link.peak = peak ∧
         t.link.lastPeak = l.lastPeak ∧ t.link.counter = l.counter ∧
         t.link.blockLength = l.blockLength ∧ t.link.sentA = l.sentA ∧ t.link.sentB = l.sentB) ∧
       (l.blockLength ≤ l.phase + 1 → exec .linkBlockComplete s = .next t ∧
         t.link.gathered = [] ∧ t.link.phase = 0 ∧ t.link.peak = 0 ∧ t.link.lastPeak = peak ∧
         t.link.counter = (l.counter + 1) % 4294967296 ∧ t.link.blockLength = l.nextLength ∧
         t.link.sentA = (if l.active = .a then live else quiet) ∧
         t.link.sentB = (if l.active = .b then live else quiet))) ∧
  (∀ s : State,
     let l := s.link
     let counts := fun p : Port => (l.port p).health ≠ .down ∧ 1 < (l.port p).heartbeat
     let threshold := (s.rig.monitors.settings[(4 : Fin 8)]).threshold
     let taken : Port → Port → PortCause → List Report := fun old new cause =>
       (if l.lagLimit < l.lagFrom (l.port new).acknowledged then [.linkHealth new .up .lagging]
         else []) ++ [.linkChangeover old new cause l.counter] ++
         l.siteReports (l.port new).site (l.port new).acknowledged threshold
     ∃ t, exec .linkFrame s = .next t ∧
       (∀ p : Port, (l.port p).health = .down → (t.link.port p) = l.port p ∧
         exec (.heartbeatExpiry p) s = .next s) ∧
       (∀ p : Port, counts p → (t.link.port p).heartbeat = (l.port p).heartbeat - 1 ∧
         (t.link.port p).health ≠ .down ∧ exec (.heartbeatExpiry p) s = .next s) ∧
       (∀ p : Port, (l.port p).health ≠ .down → (l.port p).heartbeat ≤ 1 →
         exec (.heartbeatExpiry p) s = .next t ∧ (t.link.port p).health = .down ∧
         (t.link.port p).heartbeat = 0 ∧
         (l.active = p → counts (otherPort p) → (l.port (otherPort p)).health = .up →
           t.link.active = otherPort p)) ∧
       (∀ p : Port, (l.port p).health ≠ .down → (l.port p).heartbeat ≤ 1 →
         l.phase + 1 < l.blockLength →
         let q := otherPort p
         let down : Bool := (l.port q).health = .down
         counts q ∨ down = true → (l.active = p → (l.port q).health ≠ .lagging) →
         let reports : List Report := [.linkHealth p (l.port p).health .down] ++
           (if l.active = p ∧ (l.port q).health = .up then taken p q .portDown else []) ++
           (if down = true then [.linkBothDown] else [])
         t.rig.egress = reports.foldl Egress.report s.rig.egress) ∧
       (l.revertive = true → l.preferred ≠ l.active → (l.port l.preferred).health = .up →
         counts l.preferred → (counts l.active ∨ (l.port l.active).health = .down) →
         (l.revertTimer + 1 < l.revertHold * 48000 →
           t.link.revertTimer = l.revertTimer + 1 ∧ t.link.active = l.active ∧
           exec .revertiveReturn s = .next s) ∧
         (l.revertHold * 48000 ≤ l.revertTimer + 1 → t.link.revertTimer = 0 ∧
           t.link.active = l.preferred ∧ exec .revertiveReturn s = .next t ∧
           (l.phase + 1 < l.blockLength →
             let reports : List Report :=
               (if (l.port l.active).health = .lagging then [.linkHealth l.active .lagging .up] else []) ++
               taken l.active l.preferred .revert
             t.rig.egress = reports.foldl Egress.report s.rig.egress))))

/-- SITE_REPORT (R183 to R186, R188, R202): a report whose check or codes fail counts as discarded and does nothing
else; an accepted one sets the port's record and timer, moves its health by the table, and on the active port tests
the lag and carries the site's state into the site status and the mismatch flag. Its reports are HEALTH for each change
of health, CHANGEOVER where the port takes the air from one that is DOWN, SITE for each value that differs and
SITE_MISMATCH where a mismatch begins (R184, R186, R188). -/
def Obligations.SiteReportsMoveHealthAndSite : Prop :=
  ∀ (s : State) (p : Port) (w0 w1 w2 : Word32),
    let x := s.link.port p
    let carrier := w1.toNat / 1073741824
    let power := w1.toNat / 268435456 % 4
    let good : Prop := w2 = w0 + w1 ∧ (carrier = 1 ∨ carrier = 2) ∧ (power = 1 ∨ power = 2)
    let count := fun n : Nat => if 4294967295 ≤ n then 4294967295 else n + 1
    let site : SiteStatus :=
      { carrier := some (if carrier = 1 then .off else .on)
        power := some (if power = 1 then .mains else .standby)
        silence := some (w1.toNat.testBit 27) }
    let ahead := (s.link.counter + 8589934591 - w0.toNat) % 4294967296
    let lag := if 2147483648 ≤ ahead then 0 else ahead
    let threshold := (s.rig.monitors.settings[(4 : Fin 8)]).threshold
    let rises : Bool := x.health = .proving ∧ 3 ≤ x.proving + 1
    let takes : Bool := rises = true ∧ s.link.active ≠ p ∧
      (s.link.port s.link.active).health = .down
    let carries : Bool := s.link.active = p ∨ takes = true
    let reports : List Report :=
      (if x.health = .down then [.linkHealth p .down .proving]
        else if rises = true then [.linkHealth p .proving .up] else []) ++
      (if carries = true ∧ (rises = true ∨ x.health = .up) ∧ s.link.lagLimit < lag
          then [.linkHealth p .up .lagging]
        else if carries = true ∧ x.health = .lagging ∧ 2 * lag ≤ s.link.lagLimit
          then [.linkHealth p .lagging .up]
        else []) ++
      (if takes = true then [.linkChangeover s.link.active p .portUp s.link.counter] else []) ++
      (if carries = true then s.link.siteReports site w0.toNat threshold else [])
    (¬ good → ∃ t, exec (.siteReport p w0 w1 w2) s = .next t ∧ t = { s with link := t.link } ∧
      t.link.port p = { x with discarded := count x.discarded } ∧
      t.link.port (otherPort p) = s.link.port (otherPort p) ∧
      t.link = { s.link with portA := t.link.portA, portB := t.link.portB }) ∧
    (good → ∃ t, exec (.siteReport p w0 w1 w2) s = .next t ∧
      t = { s with link := t.link, rig := { s.rig with egress := t.rig.egress } } ∧
      t.link.port p = { x with
        acknowledged := w0.toNat, site := site, taken := count x.taken
        heartbeat := s.link.timeoutMs * 48, health := (t.link.port p).health
        proving := if x.health = .down then 1 else if x.health = .proving then x.proving + 1
          else x.proving } ∧
      (x.health = .down → (t.link.port p).health = .proving) ∧
      (x.health = .proving → x.proving + 1 < 3 → (t.link.port p).health = .proving) ∧
      (x.health = .proving → 3 ≤ x.proving + 1 →
        (t.link.port p).health = .up ∨ (t.link.port p).health = .lagging) ∧
      (x.health = .up → (t.link.port p).health =
        if s.link.active = p ∧ s.link.lagLimit < lag then .lagging else .up) ∧
      (x.health = .lagging → (t.link.port p).health =
        if s.link.active = p ∧ 2 * lag ≤ s.link.lagLimit then .up else .lagging) ∧
      t.link.active = (if x.health = .proving ∧ 3 ≤ x.proving + 1 ∧ s.link.active ≠ p ∧
        (s.link.port s.link.active).health = .down then p else s.link.active) ∧
      (t.link.active = p → t.link.site = site ∧
        t.link.mismatch = (w1.toNat.testBit 27 &&
          decide ((s.rig.monitors.settings[(4 : Fin 8)]).threshold ≤ s.link.lastPeak))) ∧
      (t.link.active ≠ p → t.link.site = s.link.site ∧ t.link.mismatch = s.link.mismatch ∧
        t.link.port (otherPort p) = s.link.port (otherPort p)) ∧
      t.rig.egress = reports.foldl Egress.report s.rig.egress)

/-- LINK_SETUP takes the given settings and keeps the others, limits a running heartbeat timer to a new timeout and
tests the lag against a new limit; LINK_SELECT moves the air to a port that is not DOWN, or to any with the force
flag, and keeps the preferred port (R185, R186, R189, R190). HEALTH and CHANGEOVER are reported, and what the new
port's site status brings (R188). The model's choice are: that a force flag above 1 is refused with RANGE
(notes/assumptions/16.md), that a LAGGING port that ceases to be active becomes UP without starting a changeover, so
that a forced selection holds (notes/assumptions/25.md), and that the reports stand before the reply of LINK_SELECT
and after that of LINK_SETUP (notes/assumptions/15.md). -/
def Obligations.LinkRequestsSetAndSelect : Prop :=
  ∀ (s : State) (e : Egress) (tag : Tag), s.rig.egress.secure 1 = some e →
    let l := s.link
    (∀ f : LinkFields,
      let bad : Prop := f.blockLength = none ∧ f.timeoutMs = none ∧ f.lagLimit = none ∧
          f.revertive = none ∧ f.revertHold = none ∧ f.preferred = none ∨
        (∃ n, f.blockLength = some n ∧ n ≠ 48 ∧ n ≠ 96 ∧ n ≠ 192) ∨
        (∃ n, f.timeoutMs = some n ∧ (n < 250 ∨ 10000 < n)) ∨
        (∃ n, f.lagLimit = some n ∧ (n < 10 ∨ 10000 < n)) ∨ (∃ n, f.revertive = some n ∧ 1 < n) ∨
        (∃ n, f.revertHold = some n ∧ (n < 10 ∨ 600 < n)) ∨ (∃ n, f.preferred = some n ∧ 1 < n)
      let revertive := (f.revertive.map fun n => n == 1).getD l.revertive
      let preferred := (f.preferred.map fun n => if n = 0 then Port.a else Port.b).getD l.preferred
      let timed := fun x : PortRecord => (match f.timeoutMs with
        | none => x
        | some n => if x.health = .down then x
            else { x with heartbeat := min x.heartbeat (n * 48) } : PortRecord)
      let set : Link := { l with
        nextLength := f.blockLength.getD l.nextLength, timeoutMs := f.timeoutMs.getD l.timeoutMs
        lagLimit := f.lagLimit.getD l.lagLimit, revertive := revertive
        revertHold := f.revertHold.getD l.revertHold, preferred := preferred
        revertTimer := if revertive = l.revertive ∧ preferred = l.preferred then l.revertTimer else 0
        portA := timed l.portA, portB := timed l.portB }
      let ahead := (l.counter + 8589934591 - (l.port l.active).acknowledged % 4294967296) % 4294967296
      let lag := if 2147483648 ≤ ahead then 0 else ahead
      let tested := fun (q : Port) (x : PortRecord) => { x with
        health := if q ≠ l.active then x.health
          else if x.health = .up ∧ set.lagLimit < lag then .lagging
          else if x.health = .lagging ∧ 2 * lag ≤ set.lagLimit then .up else x.health }
      (bad → exec (.linkSetup tag f) s = .next (s.answered e [refusedWith tag .linkSetup .range])) ∧
      (¬ bad → f.lagLimit = none → exec (.linkSetup tag f) s =
        .next { s.answered e [doneWith tag .linkSetup []] with link := set }) ∧
      (¬ bad → f.lagLimit ≠ none → ∃ t, exec (.linkSetup tag f) s = .next t ∧
        t.link = { set with portA := tested .a set.portA, portB := tested .b set.portB } ∧
        repliesOf t.rig.egress.queue = repliesOf e.queue ++ [doneWith tag .linkSetup []] ∧
        (let h := (set.port l.active).health
         let reports : List Report :=
           if h = .up ∧ set.lagLimit < lag then [.linkHealth l.active .up .lagging]
           else if h = .lagging ∧ 2 * lag ≤ set.lagLimit then [.linkHealth l.active .lagging .up] else []
         t.rig.egress = reports.foldl Egress.report (e.answered [doneWith tag .linkSetup []])) ∧
        t = { s with
          inbound := none, link := t.link, rig := { s.rig with egress := t.rig.egress } })) ∧
    (∀ port force : Nat, 1 < port ∨ 1 < force → exec (.linkSelect tag port force) s =
      .next (s.answered e [refusedWith tag .linkSelect .range])) ∧
    ∀ (p : Port) (force : Nat), force ≤ 1 →
      (p = l.active → exec (.linkSelect tag p.code force) s =
        .next (s.answered e [doneWith tag .linkSelect []])) ∧
      (p ≠ l.active → (l.port p).health = .down → force = 0 → exec (.linkSelect tag p.code force) s =
        .next (s.answered e [refusedWith tag .linkSelect .state])) ∧
      (p ≠ l.active → (l.port p).health ≠ .down ∨ force = 1 →
        ∃ t, exec (.linkSelect tag p.code force) s = .next t ∧ t.link.active = p ∧
          (t.link.port l.active).health = (if (l.port l.active).health = .lagging then .up
            else (l.port l.active).health) ∧
          ((l.port p).health ≠ .up → (l.port p).health ≠ .lagging → t.link.port p = l.port p) ∧
          (let lag := l.lagFrom (l.port p).acknowledged
           let reports : List Report :=
            (if (l.port l.active).health = .lagging then [.linkHealth l.active .lagging .up] else []) ++
            (if (l.port p).health = .up ∧ l.lagLimit < lag then [.linkHealth p .up .lagging]
              else if (l.port p).health = .lagging ∧ 2 * lag ≤ l.lagLimit
                then [.linkHealth p .lagging .up] else []) ++
            [.linkChangeover l.active p .select l.counter] ++
            l.siteReports (l.port p).site (l.port p).acknowledged
              (s.rig.monitors.settings[(4 : Fin 8)]).threshold
           t.rig.egress = (reports.foldl Egress.report e).answered [doneWith tag .linkSelect []]) ∧
          repliesOf t.rig.egress.queue = repliesOf e.queue ++ [doneWith tag .linkSelect []] ∧
          t = { s with
            inbound := none, link := t.link, rig := { s.rig with egress := t.rig.egress } } ∧
          t.link = { l with
            active := p, site := t.link.site, mismatch := t.link.mismatch
            revertTimer := t.link.revertTimer, portA := t.link.portA, portB := t.link.portB })

/-! ### What holds at power-on and after every step -/

/-- The part right after power-on or a release of the reset pin meets every law of its blocks (R15, R35, R37, R39,
R48, R55, R75, R95, R103, R116, R136, R160, R168, R179, R197). -/
def Obligations.ResetMeetsEveryLaw : Prop := State.reset.lawful

/-- Every step keeps the sample store in its one form and the egress queue within its 32 places, with nothing left
secured and the head never sent past its end (R37, R197). That the store is a list of the words written, addresses
strictly rising, is the model's choice (notes/assumptions/1.md), as are the places kept secured during one event
(notes/assumptions/26.md). -/
def Obligations.EveryStepKeepsStoreAndQueueInForm : Prop :=
  ∀ s t : State, step s = .next t →
    (s.storeLaw → t.storeLaw) ∧ (s.egressLaw → t.egressLaw)

/-- Every step keeps the delay's law (R116): in BYPASS D is 0, and in every other state D is from one frame to the
capacity, and its further clauses on the state, the target and the flags. -/
def Obligations.EveryStepKeepsTheDelayLaw : Prop :=
  ∀ s t : State, step s = .next t → s.rig.delayLaw → t.rig.delayLaw

/-- Every step keeps the alerts and the air in agreement (R42, R48, R151, R152, R160 to R166): the airing record is
the one record AIRING, nothing waits while none airs, a recorder is bound exactly while its target records, and the
owner is the one that the run flag, the DLY-silence monitor and the fallback enable call for. -/
def Obligations.EveryStepKeepsAlertsAndOwnerInAgreement : Prop :=
  ∀ s t : State, step s = .next t →
    (s.rig.alertLaw → t.rig.alertLaw) ∧ (s.rig.ownerLaw → t.rig.ownerLaw)

/-- Every step keeps at most two program decks on air and the running order in form (R67, R75, R76, R78). -/
def Obligations.EveryStepKeepsTwoDecksAndTheOrderInForm : Prop :=
  ∀ s t : State, step s = .next t →
    (s.audibleLaw → t.audibleLaw) ∧ (s.rig.order.law → t.rig.order.law)

/-- Every step keeps the caller lines' laws (R96, R103, R106): the caller queue holds exactly the lines in HOLD, each
once, and the lines in ON_AIR never exceed the limit. -/
def Obligations.EveryStepKeepsTheCallerLines : Prop :=
  ∀ s t : State, step s = .next t → s.callers.law → t.callers.law

/-- Every step keeps the other blocks' laws: the lock machine and the clock (R3 to R7, R12), the routes and
their ramps (R17, R20, R23), the regions and extents in states in which a cart is RECORDING exactly while a
recorder is bound to it (R39, R40, R44, R48), the recent identities (R136, R138), the monitors (R169, R172) and
the link (R180, R184, R185, R187). The model's choice in these laws are: the settle count 0 in LOCKED
(notes/assumptions/11.md), the flag by which a gate keeps its target (notes/assumptions/9.md), and the flag that says
whether the receiver hands on the frame's word (notes/assumptions/6.md). -/
def Obligations.EveryStepKeepsTheOtherBlocksInForm : Prop :=
  ∀ s t : State, step s = .next t →
    (s.clockLaw → t.clockLaw) ∧ (s.mixLaw → t.mixLaw) ∧
    (s.rig.alertLaw → s.rig.library.extentLaw → t.rig.library.extentLaw) ∧
    (s.rig.alerts.recentLaw → t.rig.alerts.recentLaw) ∧
    (s.rig.monitors.law → t.rig.monitors.law) ∧ (s.link.law → t.link.law)
end

