-- ==== Sys2Proof/Laws/State.lean ====
section
/-!
SUPPORT. One lemma per field per update: what each named update leaves as it was, and what it sets.
-/

namespace Sys2Proof.Machine

@[simp] theorem Rig.report_library (r : Rig) (m : Report) : (r.report m).library = r.library := rfl
@[simp] theorem Rig.report_decks (r : Rig) (m : Report) : (r.report m).decks = r.decks := rfl
@[simp] theorem Rig.report_order (r : Rig) (m : Report) : (r.report m).order = r.order := rfl
@[simp] theorem Rig.report_delay (r : Rig) (m : Report) : (r.report m).delay = r.delay := rfl
@[simp] theorem Rig.report_alerts (r : Rig) (m : Report) : (r.report m).alerts = r.alerts := rfl
@[simp] theorem Rig.report_airSwitch (r : Rig) (m : Report) : (r.report m).airSwitch = r.airSwitch := rfl
@[simp] theorem Rig.report_monitors (r : Rig) (m : Report) : (r.report m).monitors = r.monitors := rfl

@[simp] theorem Rig.reply_library (r : Rig) (tag : Tag) (k : RequestKind) (st : Status) (d : List Nat) : (r.reply tag k st d).library = r.library := rfl
@[simp] theorem Rig.reply_decks (r : Rig) (tag : Tag) (k : RequestKind) (st : Status) (d : List Nat) : (r.reply tag k st d).decks = r.decks := rfl
@[simp] theorem Rig.reply_order (r : Rig) (tag : Tag) (k : RequestKind) (st : Status) (d : List Nat) : (r.reply tag k st d).order = r.order := rfl
@[simp] theorem Rig.reply_delay (r : Rig) (tag : Tag) (k : RequestKind) (st : Status) (d : List Nat) : (r.reply tag k st d).delay = r.delay := rfl
@[simp] theorem Rig.reply_alerts (r : Rig) (tag : Tag) (k : RequestKind) (st : Status) (d : List Nat) : (r.reply tag k st d).alerts = r.alerts := rfl
@[simp] theorem Rig.reply_airSwitch (r : Rig) (tag : Tag) (k : RequestKind) (st : Status) (d : List Nat) : (r.reply tag k st d).airSwitch = r.airSwitch := rfl
@[simp] theorem Rig.reply_monitors (r : Rig) (tag : Tag) (k : RequestKind) (st : Status) (d : List Nat) : (r.reply tag k st d).monitors = r.monitors := rfl

@[simp] theorem Rig.command_library (r : Rig) (m : Outbound) : (r.command m).library = r.library := rfl
@[simp] theorem Rig.command_decks (r : Rig) (m : Outbound) : (r.command m).decks = r.decks := rfl
@[simp] theorem Rig.command_order (r : Rig) (m : Outbound) : (r.command m).order = r.order := rfl
@[simp] theorem Rig.command_delay (r : Rig) (m : Outbound) : (r.command m).delay = r.delay := rfl
@[simp] theorem Rig.command_alerts (r : Rig) (m : Outbound) : (r.command m).alerts = r.alerts := rfl
@[simp] theorem Rig.command_airSwitch (r : Rig) (m : Outbound) : (r.command m).airSwitch = r.airSwitch := rfl
@[simp] theorem Rig.command_monitors (r : Rig) (m : Outbound) : (r.command m).monitors = r.monitors := rfl

@[simp] theorem Rig.requestCommand_library (r : Rig) (m : Outbound) : (r.requestCommand m).library = r.library := rfl
@[simp] theorem Rig.requestCommand_decks (r : Rig) (m : Outbound) : (r.requestCommand m).decks = r.decks := rfl
@[simp] theorem Rig.requestCommand_order (r : Rig) (m : Outbound) : (r.requestCommand m).order = r.order := rfl
@[simp] theorem Rig.requestCommand_delay (r : Rig) (m : Outbound) : (r.requestCommand m).delay = r.delay := rfl
@[simp] theorem Rig.requestCommand_alerts (r : Rig) (m : Outbound) : (r.requestCommand m).alerts = r.alerts := rfl
@[simp] theorem Rig.requestCommand_airSwitch (r : Rig) (m : Outbound) : (r.requestCommand m).airSwitch = r.airSwitch := rfl
@[simp] theorem Rig.requestCommand_monitors (r : Rig) (m : Outbound) : (r.requestCommand m).monitors = r.monitors := rfl

@[simp] theorem Rig.setDeck_egress (r : Rig) (d : DeckId) (x : Deck) : (r.setDeck d x).egress = r.egress := rfl
@[simp] theorem Rig.setDeck_library (r : Rig) (d : DeckId) (x : Deck) : (r.setDeck d x).library = r.library := rfl
@[simp] theorem Rig.setDeck_order (r : Rig) (d : DeckId) (x : Deck) : (r.setDeck d x).order = r.order := rfl
@[simp] theorem Rig.setDeck_delay (r : Rig) (d : DeckId) (x : Deck) : (r.setDeck d x).delay = r.delay := rfl
@[simp] theorem Rig.setDeck_alerts (r : Rig) (d : DeckId) (x : Deck) : (r.setDeck d x).alerts = r.alerts := rfl
@[simp] theorem Rig.setDeck_airSwitch (r : Rig) (d : DeckId) (x : Deck) : (r.setDeck d x).airSwitch = r.airSwitch := rfl
@[simp] theorem Rig.setDeck_monitors (r : Rig) (d : DeckId) (x : Deck) : (r.setDeck d x).monitors = r.monitors := rfl

@[simp] theorem Rig.setCart_egress (r : Rig) (c : CartId) (x : Cart) : (r.setCart c x).egress = r.egress := rfl
@[simp] theorem Rig.setCart_decks (r : Rig) (c : CartId) (x : Cart) : (r.setCart c x).decks = r.decks := rfl
@[simp] theorem Rig.setCart_order (r : Rig) (c : CartId) (x : Cart) : (r.setCart c x).order = r.order := rfl
@[simp] theorem Rig.setCart_delay (r : Rig) (c : CartId) (x : Cart) : (r.setCart c x).delay = r.delay := rfl
@[simp] theorem Rig.setCart_alerts (r : Rig) (c : CartId) (x : Cart) : (r.setCart c x).alerts = r.alerts := rfl
@[simp] theorem Rig.setCart_airSwitch (r : Rig) (c : CartId) (x : Cart) : (r.setCart c x).airSwitch = r.airSwitch := rfl
@[simp] theorem Rig.setCart_monitors (r : Rig) (c : CartId) (x : Cart) : (r.setCart c x).monitors = r.monitors := rfl

@[simp] theorem Rig.setRecorder_egress (r : Rig) (k : RecorderId) (x : Recorder) : (r.setRecorder k x).egress = r.egress := rfl
@[simp] theorem Rig.setRecorder_decks (r : Rig) (k : RecorderId) (x : Recorder) : (r.setRecorder k x).decks = r.decks := rfl
@[simp] theorem Rig.setRecorder_order (r : Rig) (k : RecorderId) (x : Recorder) : (r.setRecorder k x).order = r.order := rfl
@[simp] theorem Rig.setRecorder_delay (r : Rig) (k : RecorderId) (x : Recorder) : (r.setRecorder k x).delay = r.delay := rfl
@[simp] theorem Rig.setRecorder_alerts (r : Rig) (k : RecorderId) (x : Recorder) : (r.setRecorder k x).alerts = r.alerts := rfl
@[simp] theorem Rig.setRecorder_airSwitch (r : Rig) (k : RecorderId) (x : Recorder) : (r.setRecorder k x).airSwitch = r.airSwitch := rfl
@[simp] theorem Rig.setRecorder_monitors (r : Rig) (k : RecorderId) (x : Recorder) : (r.setRecorder k x).monitors = r.monitors := rfl

@[simp] theorem Rig.setRecord_egress (r : Rig) (i : RecordId) (x : AlertRecord) : (r.setRecord i x).egress = r.egress := rfl
@[simp] theorem Rig.setRecord_library (r : Rig) (i : RecordId) (x : AlertRecord) : (r.setRecord i x).library = r.library := rfl
@[simp] theorem Rig.setRecord_decks (r : Rig) (i : RecordId) (x : AlertRecord) : (r.setRecord i x).decks = r.decks := rfl
@[simp] theorem Rig.setRecord_order (r : Rig) (i : RecordId) (x : AlertRecord) : (r.setRecord i x).order = r.order := rfl
@[simp] theorem Rig.setRecord_delay (r : Rig) (i : RecordId) (x : AlertRecord) : (r.setRecord i x).delay = r.delay := rfl
@[simp] theorem Rig.setRecord_airSwitch (r : Rig) (i : RecordId) (x : AlertRecord) : (r.setRecord i x).airSwitch = r.airSwitch := rfl
@[simp] theorem Rig.setRecord_monitors (r : Rig) (i : RecordId) (x : AlertRecord) : (r.setRecord i x).monitors = r.monitors := rfl

@[simp] theorem Rig.setEntries_egress (r : Rig) (es : List Entry) : (r.setEntries es).egress = r.egress := rfl
@[simp] theorem Rig.setEntries_library (r : Rig) (es : List Entry) : (r.setEntries es).library = r.library := rfl
@[simp] theorem Rig.setEntries_decks (r : Rig) (es : List Entry) : (r.setEntries es).decks = r.decks := rfl
@[simp] theorem Rig.setEntries_delay (r : Rig) (es : List Entry) : (r.setEntries es).delay = r.delay := rfl
@[simp] theorem Rig.setEntries_alerts (r : Rig) (es : List Entry) : (r.setEntries es).alerts = r.alerts := rfl
@[simp] theorem Rig.setEntries_airSwitch (r : Rig) (es : List Entry) : (r.setEntries es).airSwitch = r.airSwitch := rfl
@[simp] theorem Rig.setEntries_monitors (r : Rig) (es : List Entry) : (r.setEntries es).monitors = r.monitors := rfl

@[simp] theorem Rig.setCell_egress (r : Rig) (c : Fin 18) (x : MonitorCell) : (r.setCell c x).egress = r.egress := rfl
@[simp] theorem Rig.setCell_library (r : Rig) (c : Fin 18) (x : MonitorCell) : (r.setCell c x).library = r.library := rfl
@[simp] theorem Rig.setCell_decks (r : Rig) (c : Fin 18) (x : MonitorCell) : (r.setCell c x).decks = r.decks := rfl
@[simp] theorem Rig.setCell_order (r : Rig) (c : Fin 18) (x : MonitorCell) : (r.setCell c x).order = r.order := rfl
@[simp] theorem Rig.setCell_delay (r : Rig) (c : Fin 18) (x : MonitorCell) : (r.setCell c x).delay = r.delay := rfl
@[simp] theorem Rig.setCell_alerts (r : Rig) (c : Fin 18) (x : MonitorCell) : (r.setCell c x).alerts = r.alerts := rfl
@[simp] theorem Rig.setCell_airSwitch (r : Rig) (c : Fin 18) (x : MonitorCell) : (r.setCell c x).airSwitch = r.airSwitch := rfl

@[simp] theorem Rig.notify_egress (r : Rig) (n : LineNotice) : (r.notify n).egress = r.egress := rfl
@[simp] theorem Rig.notify_library (r : Rig) (n : LineNotice) : (r.notify n).library = r.library := rfl
@[simp] theorem Rig.notify_decks (r : Rig) (n : LineNotice) : (r.notify n).decks = r.decks := rfl
@[simp] theorem Rig.notify_order (r : Rig) (n : LineNotice) : (r.notify n).order = r.order := rfl
@[simp] theorem Rig.notify_delay (r : Rig) (n : LineNotice) : (r.notify n).delay = r.delay := rfl
@[simp] theorem Rig.notify_alerts (r : Rig) (n : LineNotice) : (r.notify n).alerts = r.alerts := rfl
@[simp] theorem Rig.notify_airSwitch (r : Rig) (n : LineNotice) : (r.notify n).airSwitch = r.airSwitch := rfl

@[simp] theorem Rig.setFilter_egress (r : Rig) (i : Fin 24) (f : Filter) : (r.setFilter i f).egress = r.egress := rfl
@[simp] theorem Rig.setFilter_library (r : Rig) (i : Fin 24) (f : Filter) : (r.setFilter i f).library = r.library := rfl
@[simp] theorem Rig.setFilter_decks (r : Rig) (i : Fin 24) (f : Filter) : (r.setFilter i f).decks = r.decks := rfl
@[simp] theorem Rig.setFilter_order (r : Rig) (i : Fin 24) (f : Filter) : (r.setFilter i f).order = r.order := rfl
@[simp] theorem Rig.setFilter_delay (r : Rig) (i : Fin 24) (f : Filter) : (r.setFilter i f).delay = r.delay := rfl
@[simp] theorem Rig.setFilter_airSwitch (r : Rig) (i : Fin 24) (f : Filter) : (r.setFilter i f).airSwitch = r.airSwitch := rfl
@[simp] theorem Rig.setFilter_monitors (r : Rig) (i : Fin 24) (f : Filter) : (r.setFilter i f).monitors = r.monitors := rfl

@[simp] theorem Rig.setHold_egress (r : Rig) (b : Bool) : (r.setHold b).egress = r.egress := rfl
@[simp] theorem Rig.setHold_library (r : Rig) (b : Bool) : (r.setHold b).library = r.library := rfl
@[simp] theorem Rig.setHold_decks (r : Rig) (b : Bool) : (r.setHold b).decks = r.decks := rfl
@[simp] theorem Rig.setHold_delay (r : Rig) (b : Bool) : (r.setHold b).delay = r.delay := rfl
@[simp] theorem Rig.setHold_alerts (r : Rig) (b : Bool) : (r.setHold b).alerts = r.alerts := rfl
@[simp] theorem Rig.setHold_airSwitch (r : Rig) (b : Bool) : (r.setHold b).airSwitch = r.airSwitch := rfl
@[simp] theorem Rig.setHold_monitors (r : Rig) (b : Bool) : (r.setHold b).monitors = r.monitors := rfl

@[simp] theorem Rig.setAlertState_egress (r : Rig) (i : RecordId) (st : AlertState) : (r.setAlertState i st).egress = r.egress := rfl
@[simp] theorem Rig.setAlertState_library (r : Rig) (i : RecordId) (st : AlertState) : (r.setAlertState i st).library = r.library := rfl
@[simp] theorem Rig.setAlertState_decks (r : Rig) (i : RecordId) (st : AlertState) : (r.setAlertState i st).decks = r.decks := rfl
@[simp] theorem Rig.setAlertState_order (r : Rig) (i : RecordId) (st : AlertState) : (r.setAlertState i st).order = r.order := rfl
@[simp] theorem Rig.setAlertState_delay (r : Rig) (i : RecordId) (st : AlertState) : (r.setAlertState i st).delay = r.delay := rfl
@[simp] theorem Rig.setAlertState_airSwitch (r : Rig) (i : RecordId) (st : AlertState) : (r.setAlertState i st).airSwitch = r.airSwitch := rfl
@[simp] theorem Rig.setAlertState_monitors (r : Rig) (i : RecordId) (st : AlertState) : (r.setAlertState i st).monitors = r.monitors := rfl

@[simp] theorem Rig.unloadDeck_egress (r : Rig) (d : DeckId) : (r.unloadDeck d).egress = r.egress := rfl
@[simp] theorem Rig.unloadDeck_library (r : Rig) (d : DeckId) : (r.unloadDeck d).library = r.library := rfl
@[simp] theorem Rig.unloadDeck_order (r : Rig) (d : DeckId) : (r.unloadDeck d).order = r.order := rfl
@[simp] theorem Rig.unloadDeck_delay (r : Rig) (d : DeckId) : (r.unloadDeck d).delay = r.delay := rfl
@[simp] theorem Rig.unloadDeck_alerts (r : Rig) (d : DeckId) : (r.unloadDeck d).alerts = r.alerts := rfl
@[simp] theorem Rig.unloadDeck_airSwitch (r : Rig) (d : DeckId) : (r.unloadDeck d).airSwitch = r.airSwitch := rfl
@[simp] theorem Rig.unloadDeck_monitors (r : Rig) (d : DeckId) : (r.unloadDeck d).monitors = r.monitors := rfl

@[simp] theorem Rig.updateEntry_egress (r : Rig) (tag : Nat) (f : Entry → Entry) : (r.updateEntry tag f).egress = r.egress := rfl
@[simp] theorem Rig.updateEntry_library (r : Rig) (tag : Nat) (f : Entry → Entry) : (r.updateEntry tag f).library = r.library := rfl
@[simp] theorem Rig.updateEntry_decks (r : Rig) (tag : Nat) (f : Entry → Entry) : (r.updateEntry tag f).decks = r.decks := rfl
@[simp] theorem Rig.updateEntry_delay (r : Rig) (tag : Nat) (f : Entry → Entry) : (r.updateEntry tag f).delay = r.delay := rfl
@[simp] theorem Rig.updateEntry_alerts (r : Rig) (tag : Nat) (f : Entry → Entry) : (r.updateEntry tag f).alerts = r.alerts := rfl
@[simp] theorem Rig.updateEntry_airSwitch (r : Rig) (tag : Nat) (f : Entry → Entry) : (r.updateEntry tag f).airSwitch = r.airSwitch := rfl
@[simp] theorem Rig.updateEntry_monitors (r : Rig) (tag : Nat) (f : Entry → Entry) : (r.updateEntry tag f).monitors = r.monitors := rfl

@[simp] theorem Rig.makeAudible_egress (r : Rig) (d : DeckId) (f : Deck → Nat → Deck) : (r.makeAudible d f).egress = r.egress := rfl
@[simp] theorem Rig.makeAudible_library (r : Rig) (d : DeckId) (f : Deck → Nat → Deck) : (r.makeAudible d f).library = r.library := rfl
@[simp] theorem Rig.makeAudible_order (r : Rig) (d : DeckId) (f : Deck → Nat → Deck) : (r.makeAudible d f).order = r.order := rfl
@[simp] theorem Rig.makeAudible_delay (r : Rig) (d : DeckId) (f : Deck → Nat → Deck) : (r.makeAudible d f).delay = r.delay := rfl
@[simp] theorem Rig.makeAudible_alerts (r : Rig) (d : DeckId) (f : Deck → Nat → Deck) : (r.makeAudible d f).alerts = r.alerts := rfl
@[simp] theorem Rig.makeAudible_airSwitch (r : Rig) (d : DeckId) (f : Deck → Nat → Deck) : (r.makeAudible d f).airSwitch = r.airSwitch := rfl
@[simp] theorem Rig.makeAudible_monitors (r : Rig) (d : DeckId) (f : Deck → Nat → Deck) : (r.makeAudible d f).monitors = r.monitors := rfl

@[simp] theorem Rig.finishDeck_library (r : Rig) (d : DeckId) (c : EndCause) : (r.finishDeck d c).library = r.library := rfl
@[simp] theorem Rig.finishDeck_order (r : Rig) (d : DeckId) (c : EndCause) : (r.finishDeck d c).order = r.order := rfl
@[simp] theorem Rig.finishDeck_delay (r : Rig) (d : DeckId) (c : EndCause) : (r.finishDeck d c).delay = r.delay := rfl
@[simp] theorem Rig.finishDeck_alerts (r : Rig) (d : DeckId) (c : EndCause) : (r.finishDeck d c).alerts = r.alerts := rfl
@[simp] theorem Rig.finishDeck_airSwitch (r : Rig) (d : DeckId) (c : EndCause) : (r.finishDeck d c).airSwitch = r.airSwitch := rfl
@[simp] theorem Rig.finishDeck_monitors (r : Rig) (d : DeckId) (c : EndCause) : (r.finishDeck d c).monitors = r.monitors := rfl

@[simp] theorem Rig.bindRecorder_egress (r : Rig) (k : RecorderId) (b : Binding) (src : RecordSource) (n : Nat) : (r.bindRecorder k b src n).egress = r.egress := rfl
@[simp] theorem Rig.bindRecorder_decks (r : Rig) (k : RecorderId) (b : Binding) (src : RecordSource) (n : Nat) : (r.bindRecorder k b src n).decks = r.decks := rfl
@[simp] theorem Rig.bindRecorder_order (r : Rig) (k : RecorderId) (b : Binding) (src : RecordSource) (n : Nat) : (r.bindRecorder k b src n).order = r.order := rfl
@[simp] theorem Rig.bindRecorder_delay (r : Rig) (k : RecorderId) (b : Binding) (src : RecordSource) (n : Nat) : (r.bindRecorder k b src n).delay = r.delay := rfl
@[simp] theorem Rig.bindRecorder_alerts (r : Rig) (k : RecorderId) (b : Binding) (src : RecordSource) (n : Nat) : (r.bindRecorder k b src n).alerts = r.alerts := rfl
@[simp] theorem Rig.bindRecorder_airSwitch (r : Rig) (k : RecorderId) (b : Binding) (src : RecordSource) (n : Nat) : (r.bindRecorder k b src n).airSwitch = r.airSwitch := rfl
@[simp] theorem Rig.bindRecorder_monitors (r : Rig) (k : RecorderId) (b : Binding) (src : RecordSource) (n : Nat) : (r.bindRecorder k b src n).monitors = r.monitors := rfl

@[simp] theorem State.onRig_trunk (s : State) (f : Rig → Rig) : (s.onRig f).trunk = s.trunk := rfl
@[simp] theorem State.onRig_clock (s : State) (f : Rig → Rig) : (s.onRig f).clock = s.clock := rfl
@[simp] theorem State.onRig_inbound (s : State) (f : Rig → Rig) : (s.onRig f).inbound = s.inbound := rfl
@[simp] theorem State.onRig_outMap (s : State) (f : Rig → Rig) : (s.onRig f).outMap = s.outMap := rfl
@[simp] theorem State.onRig_outFrame (s : State) (f : Rig → Rig) : (s.onRig f).outFrame = s.outFrame := rfl
@[simp] theorem State.onRig_mix (s : State) (f : Rig → Rig) : (s.onRig f).mix = s.mix := rfl
@[simp] theorem State.onRig_store (s : State) (f : Rig → Rig) : (s.onRig f).store = s.store := rfl
@[simp] theorem State.onRig_callers (s : State) (f : Rig → Rig) : (s.onRig f).callers = s.callers := rfl
@[simp] theorem State.onRig_link (s : State) (f : Rig → Rig) : (s.onRig f).link = s.link := rfl
@[simp] theorem State.onRig_completed (s : State) (f : Rig → Rig) : (s.onRig f).completed = s.completed := rfl
@[simp] theorem State.onRig_taken (s : State) (f : Rig → Rig) : (s.onRig f).taken = s.taken := rfl
@[simp] theorem State.onRig_pending (s : State) (f : Rig → Rig) : (s.onRig f).pending = s.pending := rfl

@[simp] theorem State.onRig_rig (s : State) (f : Rig → Rig) : (s.onRig f).rig = f s.rig := rfl

@[simp] theorem State.report_trunk (s : State) (m : Report) : (s.report m).trunk = s.trunk := rfl
@[simp] theorem State.report_clock (s : State) (m : Report) : (s.report m).clock = s.clock := rfl
@[simp] theorem State.report_inbound (s : State) (m : Report) : (s.report m).inbound = s.inbound := rfl
@[simp] theorem State.report_outMap (s : State) (m : Report) : (s.report m).outMap = s.outMap := rfl
@[simp] theorem State.report_outFrame (s : State) (m : Report) : (s.report m).outFrame = s.outFrame := rfl
@[simp] theorem State.report_mix (s : State) (m : Report) : (s.report m).mix = s.mix := rfl
@[simp] theorem State.report_store (s : State) (m : Report) : (s.report m).store = s.store := rfl
@[simp] theorem State.report_callers (s : State) (m : Report) : (s.report m).callers = s.callers := rfl
@[simp] theorem State.report_link (s : State) (m : Report) : (s.report m).link = s.link := rfl
@[simp] theorem State.report_completed (s : State) (m : Report) : (s.report m).completed = s.completed := rfl
@[simp] theorem State.report_taken (s : State) (m : Report) : (s.report m).taken = s.taken := rfl
@[simp] theorem State.report_pending (s : State) (m : Report) : (s.report m).pending = s.pending := rfl

@[simp] theorem State.report_rig (s : State) (m : Report) : (s.report m).rig = s.rig.report m := rfl

@[simp] theorem State.reply_trunk (s : State) (tag : Tag) (k : RequestKind) (x : Status) (d : List Nat) : (s.reply tag k x d).trunk = s.trunk := rfl
@[simp] theorem State.reply_clock (s : State) (tag : Tag) (k : RequestKind) (x : Status) (d : List Nat) : (s.reply tag k x d).clock = s.clock := rfl
@[simp] theorem State.reply_inbound (s : State) (tag : Tag) (k : RequestKind) (x : Status) (d : List Nat) : (s.reply tag k x d).inbound = s.inbound := rfl
@[simp] theorem State.reply_outMap (s : State) (tag : Tag) (k : RequestKind) (x : Status) (d : List Nat) : (s.reply tag k x d).outMap = s.outMap := rfl
@[simp] theorem State.reply_outFrame (s : State) (tag : Tag) (k : RequestKind) (x : Status) (d : List Nat) : (s.reply tag k x d).outFrame = s.outFrame := rfl
@[simp] theorem State.reply_mix (s : State) (tag : Tag) (k : RequestKind) (x : Status) (d : List Nat) : (s.reply tag k x d).mix = s.mix := rfl
@[simp] theorem State.reply_store (s : State) (tag : Tag) (k : RequestKind) (x : Status) (d : List Nat) : (s.reply tag k x d).store = s.store := rfl
@[simp] theorem State.reply_callers (s : State) (tag : Tag) (k : RequestKind) (x : Status) (d : List Nat) : (s.reply tag k x d).callers = s.callers := rfl
@[simp] theorem State.reply_link (s : State) (tag : Tag) (k : RequestKind) (x : Status) (d : List Nat) : (s.reply tag k x d).link = s.link := rfl
@[simp] theorem State.reply_completed (s : State) (tag : Tag) (k : RequestKind) (x : Status) (d : List Nat) : (s.reply tag k x d).completed = s.completed := rfl
@[simp] theorem State.reply_taken (s : State) (tag : Tag) (k : RequestKind) (x : Status) (d : List Nat) : (s.reply tag k x d).taken = s.taken := rfl
@[simp] theorem State.reply_pending (s : State) (tag : Tag) (k : RequestKind) (x : Status) (d : List Nat) : (s.reply tag k x d).pending = s.pending := rfl

@[simp] theorem State.reply_rig (s : State) (tag : Tag) (k : RequestKind) (x : Status) (d : List Nat) :
    (s.reply tag k x d).rig = s.rig.reply tag k x d := rfl

@[simp] theorem State.release_trunk (s : State) : (s.release).trunk = s.trunk := rfl
@[simp] theorem State.release_clock (s : State) : (s.release).clock = s.clock := rfl
@[simp] theorem State.release_inbound (s : State) : (s.release).inbound = s.inbound := rfl
@[simp] theorem State.release_outMap (s : State) : (s.release).outMap = s.outMap := rfl
@[simp] theorem State.release_outFrame (s : State) : (s.release).outFrame = s.outFrame := rfl
@[simp] theorem State.release_mix (s : State) : (s.release).mix = s.mix := rfl
@[simp] theorem State.release_store (s : State) : (s.release).store = s.store := rfl
@[simp] theorem State.release_callers (s : State) : (s.release).callers = s.callers := rfl
@[simp] theorem State.release_link (s : State) : (s.release).link = s.link := rfl
@[simp] theorem State.release_completed (s : State) : (s.release).completed = s.completed := rfl
@[simp] theorem State.release_taken (s : State) : (s.release).taken = s.taken := rfl
@[simp] theorem State.release_pending (s : State) : (s.release).pending = s.pending := rfl

@[simp] theorem State.setLine_trunk (s : State) (k : LineId) (x : Line) : (s.setLine k x).trunk = s.trunk := rfl
@[simp] theorem State.setLine_clock (s : State) (k : LineId) (x : Line) : (s.setLine k x).clock = s.clock := rfl
@[simp] theorem State.setLine_inbound (s : State) (k : LineId) (x : Line) : (s.setLine k x).inbound = s.inbound := rfl
@[simp] theorem State.setLine_outMap (s : State) (k : LineId) (x : Line) : (s.setLine k x).outMap = s.outMap := rfl
@[simp] theorem State.setLine_outFrame (s : State) (k : LineId) (x : Line) : (s.setLine k x).outFrame = s.outFrame := rfl
@[simp] theorem State.setLine_mix (s : State) (k : LineId) (x : Line) : (s.setLine k x).mix = s.mix := rfl
@[simp] theorem State.setLine_store (s : State) (k : LineId) (x : Line) : (s.setLine k x).store = s.store := rfl
@[simp] theorem State.setLine_link (s : State) (k : LineId) (x : Line) : (s.setLine k x).link = s.link := rfl
@[simp] theorem State.setLine_rig (s : State) (k : LineId) (x : Line) : (s.setLine k x).rig = s.rig := rfl
@[simp] theorem State.setLine_completed (s : State) (k : LineId) (x : Line) : (s.setLine k x).completed = s.completed := rfl
@[simp] theorem State.setLine_taken (s : State) (k : LineId) (x : Line) : (s.setLine k x).taken = s.taken := rfl
@[simp] theorem State.setLine_pending (s : State) (k : LineId) (x : Line) : (s.setLine k x).pending = s.pending := rfl

@[simp] theorem State.setQueue_trunk (s : State) (q : List LineId) : (s.setQueue q).trunk = s.trunk := rfl
@[simp] theorem State.setQueue_clock (s : State) (q : List LineId) : (s.setQueue q).clock = s.clock := rfl
@[simp] theorem State.setQueue_inbound (s : State) (q : List LineId) : (s.setQueue q).inbound = s.inbound := rfl
@[simp] theorem State.setQueue_outMap (s : State) (q : List LineId) : (s.setQueue q).outMap = s.outMap := rfl
@[simp] theorem State.setQueue_outFrame (s : State) (q : List LineId) : (s.setQueue q).outFrame = s.outFrame := rfl
@[simp] theorem State.setQueue_mix (s : State) (q : List LineId) : (s.setQueue q).mix = s.mix := rfl
@[simp] theorem State.setQueue_store (s : State) (q : List LineId) : (s.setQueue q).store = s.store := rfl
@[simp] theorem State.setQueue_link (s : State) (q : List LineId) : (s.setQueue q).link = s.link := rfl
@[simp] theorem State.setQueue_rig (s : State) (q : List LineId) : (s.setQueue q).rig = s.rig := rfl
@[simp] theorem State.setQueue_completed (s : State) (q : List LineId) : (s.setQueue q).completed = s.completed := rfl
@[simp] theorem State.setQueue_taken (s : State) (q : List LineId) : (s.setQueue q).taken = s.taken := rfl
@[simp] theorem State.setQueue_pending (s : State) (q : List LineId) : (s.setQueue q).pending = s.pending := rfl

@[simp] theorem State.setRoute_trunk (s : State) (i : RouteId) (x : Route) : (s.setRoute i x).trunk = s.trunk := rfl
@[simp] theorem State.setRoute_clock (s : State) (i : RouteId) (x : Route) : (s.setRoute i x).clock = s.clock := rfl
@[simp] theorem State.setRoute_inbound (s : State) (i : RouteId) (x : Route) : (s.setRoute i x).inbound = s.inbound := rfl
@[simp] theorem State.setRoute_outMap (s : State) (i : RouteId) (x : Route) : (s.setRoute i x).outMap = s.outMap := rfl
@[simp] theorem State.setRoute_outFrame (s : State) (i : RouteId) (x : Route) : (s.setRoute i x).outFrame = s.outFrame := rfl
@[simp] theorem State.setRoute_store (s : State) (i : RouteId) (x : Route) : (s.setRoute i x).store = s.store := rfl
@[simp] theorem State.setRoute_callers (s : State) (i : RouteId) (x : Route) : (s.setRoute i x).callers = s.callers := rfl
@[simp] theorem State.setRoute_link (s : State) (i : RouteId) (x : Route) : (s.setRoute i x).link = s.link := rfl
@[simp] theorem State.setRoute_rig (s : State) (i : RouteId) (x : Route) : (s.setRoute i x).rig = s.rig := rfl
@[simp] theorem State.setRoute_completed (s : State) (i : RouteId) (x : Route) : (s.setRoute i x).completed = s.completed := rfl
@[simp] theorem State.setRoute_taken (s : State) (i : RouteId) (x : Route) : (s.setRoute i x).taken = s.taken := rfl
@[simp] theorem State.setRoute_pending (s : State) (i : RouteId) (x : Route) : (s.setRoute i x).pending = s.pending := rfl

@[simp] theorem State.setNotices_trunk (s : State) (ns : List LineNotice) : (s.setNotices ns).trunk = s.trunk := rfl
@[simp] theorem State.setNotices_clock (s : State) (ns : List LineNotice) : (s.setNotices ns).clock = s.clock := rfl
@[simp] theorem State.setNotices_inbound (s : State) (ns : List LineNotice) : (s.setNotices ns).inbound = s.inbound := rfl
@[simp] theorem State.setNotices_outMap (s : State) (ns : List LineNotice) : (s.setNotices ns).outMap = s.outMap := rfl
@[simp] theorem State.setNotices_outFrame (s : State) (ns : List LineNotice) : (s.setNotices ns).outFrame = s.outFrame := rfl
@[simp] theorem State.setNotices_mix (s : State) (ns : List LineNotice) : (s.setNotices ns).mix = s.mix := rfl
@[simp] theorem State.setNotices_store (s : State) (ns : List LineNotice) : (s.setNotices ns).store = s.store := rfl
@[simp] theorem State.setNotices_callers (s : State) (ns : List LineNotice) : (s.setNotices ns).callers = s.callers := rfl
@[simp] theorem State.setNotices_link (s : State) (ns : List LineNotice) : (s.setNotices ns).link = s.link := rfl
@[simp] theorem State.setNotices_completed (s : State) (ns : List LineNotice) : (s.setNotices ns).completed = s.completed := rfl
@[simp] theorem State.setNotices_taken (s : State) (ns : List LineNotice) : (s.setNotices ns).taken = s.taken := rfl
@[simp] theorem State.setNotices_pending (s : State) (ns : List LineNotice) : (s.setNotices ns).pending = s.pending := rfl

@[simp] theorem State.tellMonitors_trunk (s : State) (k : LineId) : (s.tellMonitors k).trunk = s.trunk := rfl
@[simp] theorem State.tellMonitors_clock (s : State) (k : LineId) : (s.tellMonitors k).clock = s.clock := rfl
@[simp] theorem State.tellMonitors_inbound (s : State) (k : LineId) : (s.tellMonitors k).inbound = s.inbound := rfl
@[simp] theorem State.tellMonitors_outMap (s : State) (k : LineId) : (s.tellMonitors k).outMap = s.outMap := rfl
@[simp] theorem State.tellMonitors_outFrame (s : State) (k : LineId) : (s.tellMonitors k).outFrame = s.outFrame := rfl
@[simp] theorem State.tellMonitors_mix (s : State) (k : LineId) : (s.tellMonitors k).mix = s.mix := rfl
@[simp] theorem State.tellMonitors_store (s : State) (k : LineId) : (s.tellMonitors k).store = s.store := rfl
@[simp] theorem State.tellMonitors_callers (s : State) (k : LineId) : (s.tellMonitors k).callers = s.callers := rfl
@[simp] theorem State.tellMonitors_link (s : State) (k : LineId) : (s.tellMonitors k).link = s.link := rfl
@[simp] theorem State.tellMonitors_completed (s : State) (k : LineId) : (s.tellMonitors k).completed = s.completed := rfl
@[simp] theorem State.tellMonitors_taken (s : State) (k : LineId) : (s.tellMonitors k).taken = s.taken := rfl
@[simp] theorem State.tellMonitors_pending (s : State) (k : LineId) : (s.tellMonitors k).pending = s.pending := rfl

@[simp] theorem State.putDeck_trunk (s : State) (d : DeckId) (f : Frame) : (s.putDeck d f).trunk = s.trunk := rfl
@[simp] theorem State.putDeck_clock (s : State) (d : DeckId) (f : Frame) : (s.putDeck d f).clock = s.clock := rfl
@[simp] theorem State.putDeck_inbound (s : State) (d : DeckId) (f : Frame) : (s.putDeck d f).inbound = s.inbound := rfl
@[simp] theorem State.putDeck_outMap (s : State) (d : DeckId) (f : Frame) : (s.putDeck d f).outMap = s.outMap := rfl
@[simp] theorem State.putDeck_outFrame (s : State) (d : DeckId) (f : Frame) : (s.putDeck d f).outFrame = s.outFrame := rfl
@[simp] theorem State.putDeck_mix (s : State) (d : DeckId) (f : Frame) : (s.putDeck d f).mix = s.mix := rfl
@[simp] theorem State.putDeck_store (s : State) (d : DeckId) (f : Frame) : (s.putDeck d f).store = s.store := rfl
@[simp] theorem State.putDeck_callers (s : State) (d : DeckId) (f : Frame) : (s.putDeck d f).callers = s.callers := rfl
@[simp] theorem State.putDeck_link (s : State) (d : DeckId) (f : Frame) : (s.putDeck d f).link = s.link := rfl
@[simp] theorem State.putDeck_rig (s : State) (d : DeckId) (f : Frame) : (s.putDeck d f).rig = s.rig := rfl
@[simp] theorem State.putDeck_taken (s : State) (d : DeckId) (f : Frame) : (s.putDeck d f).taken = s.taken := rfl
@[simp] theorem State.putDeck_pending (s : State) (d : DeckId) (f : Frame) : (s.putDeck d f).pending = s.pending := rfl

@[simp] theorem State.putDly_trunk (s : State) (x : Stereo) : (s.putDly x).trunk = s.trunk := rfl
@[simp] theorem State.putDly_clock (s : State) (x : Stereo) : (s.putDly x).clock = s.clock := rfl
@[simp] theorem State.putDly_inbound (s : State) (x : Stereo) : (s.putDly x).inbound = s.inbound := rfl
@[simp] theorem State.putDly_outMap (s : State) (x : Stereo) : (s.putDly x).outMap = s.outMap := rfl
@[simp] theorem State.putDly_outFrame (s : State) (x : Stereo) : (s.putDly x).outFrame = s.outFrame := rfl
@[simp] theorem State.putDly_mix (s : State) (x : Stereo) : (s.putDly x).mix = s.mix := rfl
@[simp] theorem State.putDly_store (s : State) (x : Stereo) : (s.putDly x).store = s.store := rfl
@[simp] theorem State.putDly_callers (s : State) (x : Stereo) : (s.putDly x).callers = s.callers := rfl
@[simp] theorem State.putDly_link (s : State) (x : Stereo) : (s.putDly x).link = s.link := rfl
@[simp] theorem State.putDly_rig (s : State) (x : Stereo) : (s.putDly x).rig = s.rig := rfl
@[simp] theorem State.putDly_taken (s : State) (x : Stereo) : (s.putDly x).taken = s.taken := rfl
@[simp] theorem State.putDly_pending (s : State) (x : Stereo) : (s.putDly x).pending = s.pending := rfl

@[simp] theorem State.handLanes_trunk (s : State) (v : Vector Sample 16) : (s.handLanes v).trunk = s.trunk := rfl
@[simp] theorem State.handLanes_clock (s : State) (v : Vector Sample 16) : (s.handLanes v).clock = s.clock := rfl
@[simp] theorem State.handLanes_inbound (s : State) (v : Vector Sample 16) : (s.handLanes v).inbound = s.inbound := rfl
@[simp] theorem State.handLanes_outMap (s : State) (v : Vector Sample 16) : (s.handLanes v).outMap = s.outMap := rfl
@[simp] theorem State.handLanes_outFrame (s : State) (v : Vector Sample 16) : (s.handLanes v).outFrame = s.outFrame := rfl
@[simp] theorem State.handLanes_mix (s : State) (v : Vector Sample 16) : (s.handLanes v).mix = s.mix := rfl
@[simp] theorem State.handLanes_store (s : State) (v : Vector Sample 16) : (s.handLanes v).store = s.store := rfl
@[simp] theorem State.handLanes_callers (s : State) (v : Vector Sample 16) : (s.handLanes v).callers = s.callers := rfl
@[simp] theorem State.handLanes_link (s : State) (v : Vector Sample 16) : (s.handLanes v).link = s.link := rfl
@[simp] theorem State.handLanes_rig (s : State) (v : Vector Sample 16) : (s.handLanes v).rig = s.rig := rfl
@[simp] theorem State.handLanes_taken (s : State) (v : Vector Sample 16) : (s.handLanes v).taken = s.taken := rfl
@[simp] theorem State.handLanes_pending (s : State) (v : Vector Sample 16) : (s.handLanes v).pending = s.pending := rfl

@[simp] theorem State.withPending_trunk (s : State) (q : List Instr) : (s.withPending q).trunk = s.trunk := rfl
@[simp] theorem State.withPending_clock (s : State) (q : List Instr) : (s.withPending q).clock = s.clock := rfl
@[simp] theorem State.withPending_inbound (s : State) (q : List Instr) : (s.withPending q).inbound = s.inbound := rfl
@[simp] theorem State.withPending_outMap (s : State) (q : List Instr) : (s.withPending q).outMap = s.outMap := rfl
@[simp] theorem State.withPending_outFrame (s : State) (q : List Instr) : (s.withPending q).outFrame = s.outFrame := rfl
@[simp] theorem State.withPending_mix (s : State) (q : List Instr) : (s.withPending q).mix = s.mix := rfl
@[simp] theorem State.withPending_store (s : State) (q : List Instr) : (s.withPending q).store = s.store := rfl
@[simp] theorem State.withPending_callers (s : State) (q : List Instr) : (s.withPending q).callers = s.callers := rfl
@[simp] theorem State.withPending_link (s : State) (q : List Instr) : (s.withPending q).link = s.link := rfl
@[simp] theorem State.withPending_rig (s : State) (q : List Instr) : (s.withPending q).rig = s.rig := rfl
@[simp] theorem State.withPending_completed (s : State) (q : List Instr) : (s.withPending q).completed = s.completed := rfl
@[simp] theorem State.withPending_taken (s : State) (q : List Instr) : (s.withPending q).taken = s.taken := rfl

@[simp] theorem State.withPending_pending (s : State) (q : List Instr) : (s.withPending q).pending = q := rfl

@[simp] theorem State.setQueue_lines (s : State) (q : List LineId) :
    (s.setQueue q).callers.lines = s.callers.lines := rfl
@[simp] theorem State.setQueue_queue (s : State) (q : List LineId) : (s.setQueue q).callers.queue = q := rfl
@[simp] theorem State.setLine_queue (s : State) (k : LineId) (x : Line) :
    (s.setLine k x).callers.queue = s.callers.queue := rfl

/-! ### The deck outputs at RESTART (R36, R74) -/

@[simp] theorem Outputs.decksSilent_lanes (o : Outputs) : o.decksSilent.lanes = o.lanes := rfl
@[simp] theorem Outputs.decksSilent_pgm (o : Outputs) : o.decksSilent.pgm = o.pgm := rfl
@[simp] theorem Outputs.decksSilent_cue (o : Outputs) : o.decksSilent.cue = o.cue := rfl
@[simp] theorem Outputs.decksSilent_scr (o : Outputs) : o.decksSilent.scr = o.scr := rfl
@[simp] theorem Outputs.decksSilent_returns (o : Outputs) : o.decksSilent.returns = o.returns := rfl
@[simp] theorem Outputs.decksSilent_holdFeed (o : Outputs) : o.decksSilent.holdFeed = o.holdFeed := rfl
@[simp] theorem Outputs.decksSilent_dly (o : Outputs) : o.decksSilent.dly = o.dly := rfl
@[simp] theorem Outputs.decksSilent_air (o : Outputs) : o.decksSilent.air = o.air := rfl
@[simp] theorem Outputs.decksSilent_decks (o : Outputs) :
    o.decksSilent.decks = Vector.replicate 6 (.mono 0) := rfl

end Sys2Proof.Machine
end

