-- ==== Sys2Proof/Laws/Ops.lean ====
section
/-!
SUPPORT. What each shared operation can do, said once: tables, the sample store, the egress queue, the checks
of a request and its taking, the comparison of alert deadlines, and the delay where BYPASS is reached.
-/

namespace Sys2Proof.Machine

/-! ### Tables -/

theorem vset_same {α : Type} {n : Nat} (v : Vector α n) (i : Fin n) (x : α) :
    (vset v i x)[i] = x := by simp [vset]

theorem vset_other {α : Type} {n : Nat} (v : Vector α n) (i j : Fin n) (x : α) (h : i ≠ j) :
    (vset v i x)[j] = v[j] := by
  have : i.val ≠ j.val := fun e => h (Fin.ext e)
  simp [vset, this]

theorem vset_get {α : Type} {n : Nat} (v : Vector α n) (i j : Fin n) (x : α) :
    (vset v i x)[j] = if i = j then x else v[j] := by
  split
  · rename_i h
    subst h
    exact vset_same v i x
  · rename_i h
    exact vset_other v i j x h

/-- The same with the index as a number, the form that `simp` brings an index to. -/
@[simp] theorem vset_getElem {α : Type} {n : Nat} (v : Vector α n) (i : Fin n) (x : α) (j : Nat)
    (h : j < n) : (vset v i x)[j] = if i.val = j then x else v[j] := by
  simp [vset, Vector.getElem_set]

@[simp] theorem vmap_getElem {α β : Type} {n : Nat} (f : α → β) (v : Vector α n) (j : Nat)
    (h : j < n) : (vmap f v)[j] = f v[j] := by
  simp [vmap]

@[simp] theorem vtable_getElem {α : Type} {n : Nat} (f : Fin n → α) (j : Nat) (h : j < n) :
    (vtable n f)[j] = f ⟨j, h⟩ := by
  simp [vtable]

theorem vmap_get {α β : Type} {n : Nat} (f : α → β) (v : Vector α n) (i : Fin n) :
    (vmap f v)[i] = f v[i] := by
  simp [vmap]

theorem vtable_get {α : Type} {n : Nat} (f : Fin n → α) (i : Fin n) :
    (vtable n f)[i] = f i := by
  simp [vtable]

/-! ### Indexes -/

theorem index?_eq_some {n k : Nat} {i : Fin n} : index? n k = some i ↔ k = i.val := by
  unfold index?
  split
  · constructor
    · intro h; cases h; rfl
    · intro h; subst h; rfl
  · rename_i h
    constructor
    · intro e; cases e
    · intro e; exact absurd (e ▸ i.isLt) h

theorem index?_eq_none {n k : Nat} : index? n k = none ↔ n ≤ k := by
  unfold index?
  split <;> simp <;> omega

@[simp] theorem index?_val {n : Nat} (i : Fin n) : index? n i.val = some i := index?_eq_some.mpr rfl

/-! ### The sample store -/

theorem cellsRead_write (cs : List StoreCell) (a b : Nat) (v : Sample) :
    cellsRead (cellsWrite cs a v) b = if b = a then some v else cellsRead cs b := by
  induction cs with
  | nil => simp [cellsWrite, cellsRead]
  | cons c cs ih =>
    obtain ⟨k, w⟩ := c
    simp only [cellsWrite]
    split
    · simp only [cellsRead]
    · split
      · rename_i h
        subst h
        simp only [cellsRead]
        split <;> rfl
      · rename_i h
        simp only [cellsRead, ih]
        by_cases hb : b = k
        · simp [hb, Ne.symm h]
        · simp [hb]

/-- The least address that may follow: the form of a rising list with a bound below it. -/
theorem cellsRising_cons (a : Nat) (v : Sample) (cs : List StoreCell) :
    cellsRising ((a, v) :: cs) = true ↔
      (∀ c, cs.head? = some c → a < c.1) ∧ cellsRising cs = true := by
  cases cs with
  | nil => simp [cellsRising]
  | cons c cs => simp [cellsRising]

theorem cellsWrite_head (cs : List StoreCell) (a : Nat) (v : Sample) (c : StoreCell)
    (h : (cellsWrite cs a v).head? = some c) :
    c.1 = a ∨ ∃ d, cs.head? = some d ∧ c.1 = d.1 := by
  cases cs with
  | nil => simp [cellsWrite] at h; exact .inl (by rw [← h])
  | cons d cs =>
    obtain ⟨k, w⟩ := d
    simp only [cellsWrite] at h
    split at h
    · simp at h; exact .inl (by rw [← h])
    · split at h
      · simp at h; exact .inl (by rw [← h])
      · simp at h; exact .inr ⟨_, rfl, by rw [← h]⟩

theorem cellsWrite_rising (cs : List StoreCell) (a : Nat) (v : Sample) (h : cellsRising cs = true) :
    cellsRising (cellsWrite cs a v) = true := by
  induction cs with
  | nil => rfl
  | cons c cs ih =>
    obtain ⟨k, w⟩ := c
    have hk := (cellsRising_cons k w cs).mp h
    simp only [cellsWrite]
    split
    · rename_i hlt
      exact (cellsRising_cons _ _ _).mpr ⟨by simpa using hlt, h⟩
    · split
      · rename_i he
        subst he
        exact (cellsRising_cons _ _ _).mpr hk
      · rename_i hge hne
        refine (cellsRising_cons _ _ _).mpr ⟨fun c hc => ?_, ih hk.2⟩
        rcases cellsWrite_head cs a v c hc with he | ⟨d, hd, he⟩
        · omega
        · rw [he]; exact hk.1 d hd

theorem Store.read_write (st : Store) (a b : Nat) (v : Sample) :
    (st.write a v).read b = if b = a then v else st.read b := by
  simp only [Store.read, Store.write, cellsRead_write]
  split <;> rfl

theorem Store.write_wf (st : Store) (a : Nat) (v : Sample) (h : st.wf = true) :
    (st.write a v).wf = true := cellsWrite_rising _ _ _ h

theorem Store.writeFrame_wf (st : Store) (start p : Nat) (f : Frame) (h : st.wf = true) :
    (st.writeFrame start p f).wf = true := by
  cases f with
  | mono s => exact Store.write_wf _ _ _ h
  | stereo l r => exact Store.write_wf _ _ _ (Store.write_wf _ _ _ h)

theorem State.reset_store_wf : State.reset.store.wf = true := rfl

@[simp] theorem Store.write_powerOns (st : Store) (a : Nat) (v : Sample) :
    (st.write a v).powerOns = st.powerOns := rfl

/-! ### Checks -/

@[simp] theorem require_some {α : Type} (x : Status) (a : α) : require x (some a) = .ok a := rfl
@[simp] theorem require_none {α : Type} (x : Status) : require x (none : Option α) = .error x := rfl
@[simp] theorem refuse_false (x : Status) : refuse x false = .ok () := rfl
@[simp] theorem refuse_true (x : Status) : refuse x true = .error x := rfl

@[simp] theorem ok_bind {α β : Type} (a : α) (f : α → Except Status β) :
    (Except.ok a >>= f) = f a := rfl
@[simp] theorem error_bind {α β : Type} (x : Status) (f : α → Except Status β) :
    (Except.error x >>= f) = .error x := rfl
@[simp] theorem pure_ok {α : Type} (a : α) : (pure a : Except Status α) = .ok a := rfl

theorem require_ok {α : Type} {x : Status} {o : Option α} {a : α} (h : require x o = .ok a) :
    o = some a := by
  cases o with
  | none => cases h
  | some b => cases h; rfl

theorem refuse_ok {x : Status} {b : Bool} {u : Unit} (h : refuse x b = .ok u) : b = false := by
  cases b with
  | false => rfl
  | true => cases h

@[simp] theorem State.judged_ok {α : Type} (s : State) (tag : Tag) (k : RequestKind) (a : α)
    (f : α → State) : s.judged tag k (.ok a) f = f a := rfl

@[simp] theorem State.judged_error {α : Type} (s : State) (tag : Tag) (k : RequestKind) (x : Status)
    (f : α → State) : s.judged tag k (.error x) f = s.reply tag k x [] := rfl

@[simp] theorem Rig.judged_ok {α : Type} (r : Rig) (tag : Tag) (k : RequestKind) (a : α)
    (f : α → Rig) : r.judged tag k (.ok a) f = f a := rfl

@[simp] theorem Rig.judged_error {α : Type} (r : Rig) (tag : Tag) (k : RequestKind) (x : Status)
    (f : α → Rig) : r.judged tag k (.error x) f = r.reply tag k x [] := rfl

theorem whenDue_due {b : Bool} (s : State) (f : State → Answer) (h : b = true) :
    whenDue b s f = f s := by simp [whenDue, h]

theorem whenDue_not {b : Bool} (s : State) (f : State → Answer) (h : b = false) :
    whenDue b s f = .next s := by simp [whenDue, h]

/-! ### The egress queue -/

theorem Egress.report_room (e : Egress) (m : Report) (h : e.queue.length + e.reserved < 32) :
    e.report m = { e with queue := e.queue ++ [.report m] } := by simp [Egress.report, h]

theorem Egress.report_full (e : Egress) (m : Report) (h : 32 ≤ e.queue.length + e.reserved) :
    e.report m = { e with reportsDropped := true } := by
  simp [Egress.report, Nat.not_lt.mpr h]

@[simp] theorem Egress.report_reserved (e : Egress) (m : Report) :
    (e.report m).reserved = e.reserved := by
  unfold Egress.report; split <;> rfl

@[simp] theorem Egress.report_sent (e : Egress) (m : Report) : (e.report m).sent = e.sent := by
  unfold Egress.report; split <;> rfl

theorem Egress.urgent_room (e : Egress) (m : Outbound) (h : e.queue.length + e.reserved < 32) :
    e.urgent m = { e with queue := e.queue ++ [m] } := by simp [Egress.urgent, h]

/-- What is given up is the last report of the list. -/
theorem dropYoungestReport_some {q kept : List Outbound} (h : dropYoungestReport q = some kept) :
    ∃ before m after, q = before ++ m :: after ∧ kept = before ++ after ∧ m.isReport = true ∧
      ∀ x ∈ after, x.isReport = false := by
  induction q generalizing kept with
  | nil => cases h
  | cons m rest ih =>
    simp only [dropYoungestReport] at h
    split at h
    · rename_i k hk
      cases h
      obtain ⟨before, x, after, rfl, rfl, hx⟩ := ih hk
      exact ⟨m :: before, x, after, rfl, rfl, hx⟩
    · rename_i hn
      split at h
      · rename_i hm
        cases h
        refine ⟨[], m, rest, rfl, rfl, hm, ?_⟩
        clear ih
        induction rest with
        | nil => simp
        | cons y ys ihy =>
          simp only [dropYoungestReport] at hn
          split at hn
          · cases hn
          · rename_i hys
            split at hn
            · cases hn
            · rename_i hy
              simp only [List.mem_cons, forall_eq_or_imp]
              exact ⟨by simpa using hy, ihy hys⟩
      · cases h

theorem dropYoungestReport_length {q kept : List Outbound} (h : dropYoungestReport q = some kept) :
    kept.length + 1 = q.length := by
  induction q generalizing kept with
  | nil => cases h
  | cons m rest ih =>
    simp only [dropYoungestReport] at h
    split at h
    · rename_i k hk
      cases h
      simp [ih hk]
    · split at h
      · cases h; rfl
      · cases h

theorem Egress.evicted_length {e : Egress} {kept : List Outbound} (h : e.evicted = some kept) :
    kept.length + 1 = e.queue.length := by
  unfold Egress.evicted at h
  split at h
  · exact dropYoungestReport_length h
  · split at h
    · cases h
    · rename_i head rest hq
      rw [Option.map_eq_some_iff] at h
      obtain ⟨k, hk, rfl⟩ := h
      simp [hq, dropYoungestReport_length hk]

theorem Egress.evict_spec {n : Nat} {e e' : Egress} (h : e.evict n = some e') :
    e'.queue.length + n = e.queue.length ∧ e'.sent = e.sent ∧ e'.reserved = e.reserved ∧
      e'.reportsDropped = e.reportsDropped ∧ e'.requestsDropped = e.requestsDropped := by
  induction n generalizing e with
  | zero => cases h; simp
  | succ n ih =>
    simp only [Egress.evict] at h
    split at h
    · rename_i kept hk
      obtain ⟨h1, h2⟩ := ih h
      exact ⟨by have := Egress.evicted_length hk; simp at h1; omega, h2⟩
    · cases h

/-- Room is secured without touching the flags or the word in progress, and leaves the places free. -/
theorem Egress.secure_spec {e e' : Egress} {n : Nat} (h : e.secure n = some e') :
    e'.reserved = n ∧ e'.sent = e.sent ∧ e'.reportsDropped = e.reportsDropped ∧
      e'.requestsDropped = e.requestsDropped ∧ (n ≤ 32 → e'.queue.length + n ≤ 32) := by
  unfold Egress.secure at h
  rw [Option.map_eq_some_iff] at h
  obtain ⟨k, hk, rfl⟩ := h
  obtain ⟨h1, h2, h3, h4, h5⟩ := Egress.evict_spec hk
  exact ⟨rfl, h2, h4, h5, fun hn => by simp; omega⟩

theorem Egress.secure_room (e : Egress) (n : Nat) (h : e.queue.length + n ≤ 32) :
    e.secure n = some { e with reserved := n } := by
  simp [Egress.secure, Nat.sub_eq_zero_of_le h, Egress.evict]

/-! ### Alert deadlines -/

/-- A comparison with a new value of station seconds changes the egress queue and the alerts alone, and of the records
only the one compared. -/
theorem Rig.testDeadlines_spec (r : Rig) (now : Nat) (i : RecordId) :
    r.testDeadlines now i = { r with
      egress := (r.testDeadlines now i).egress, alerts := (r.testDeadlines now i).alerts } ∧
      ∀ j, j ≠ i → (r.testDeadlines now i).record j = r.record j := by
  unfold Rig.testDeadlines
  simp only
  repeat' split
  all_goals
    refine ⟨rfl, fun j hj => ?_⟩
    try rfl
    try exact vset_other _ _ _ _ (Ne.symm hj)

/-- At the end of its recording a record is EXPIRED, QUEUED or AWAITING. -/
theorem Rig.placeRecorded_state (r : Rig) (i : RecordId) (now : Nat) :
    ((r.placeRecorded i now).record i).state = .expired ∨
      ((r.placeRecorded i now).record i).state = .queued ∨
      ((r.placeRecorded i now).record i).state = .awaiting := by
  unfold Rig.placeRecorded
  simp only
  repeat' split
  · exact .inl (congrArg AlertRecord.state (vset_same _ i _))
  · exact .inr (.inl (congrArg AlertRecord.state (vset_same _ i _)))
  · exact .inr (.inr (congrArg AlertRecord.state (vset_same _ i _)))

/-! ### Taking a request -/

/-- With room, a request is carried out with its message closed and its places secured. -/
theorem State.take_room {s : State} {n : Nat} {e : Egress} (f : State → State)
    (h : s.rig.egress.secure n = some e) :
    s.take n f = (f { s with inbound := none, rig := { s.rig with egress := e } }).release := by
  unfold State.take
  rw [h]

/-- Without room, nothing changes but the closed message and the flag. -/
theorem State.take_full {s : State} {n : Nat} (f : State → State)
    (h : s.rig.egress.secure n = none) :
    s.take n f = { s with
      inbound := none
      rig := { s.rig with egress := { s.rig.egress with requestsDropped := true } } } := by
  unfold State.take
  rw [h]

theorem State.takeOnRig_room {s : State} {e : Egress} (f : Rig → Rig)
    (h : s.rig.egress.secure 1 = some e) :
    s.takeOnRig f =
      { s with
        inbound := none
        rig := { f { s.rig with egress := e } with
          egress := { (f { s.rig with egress := e }).egress with reserved := 0 } } } := by
  unfold State.takeOnRig
  rw [State.take_room _ h]
  rfl

/-- Reports queued in order change the egress queue alone. -/
theorem Rig.reports_eq (r : Rig) (ms : List Report) :
    r.reports ms = { r with egress := ms.foldl Egress.report r.egress } := by
  induction ms generalizing r with
  | nil => rfl
  | cons m rest ih => simp [Rig.reports, ih, Rig.report]

/-! ### The delay where BYPASS is reached (R121, R129, R130) -/

/-- The step limited at one frame is D itself (R121). -/
theorem Delay.step_of_leaves {d : Delay} (h : d.leaves = true) : d.step = d.length := by
  have hs : d.state = .exit := by
    unfold Delay.leaves at h
    simp_all
  have hl : d.lands = false := by
    unfold Delay.lands
    simp [hs]
  unfold Delay.step
  simp [hl, h]

@[simp] theorem Delay.bypassed_state (d : Delay) (x : Stereo) : (d.bypassed x).state = .bypass := rfl
@[simp] theorem Delay.bypassed_crossfade (d : Delay) (x : Stereo) : (d.bypassed x).crossfade = 0 := rfl
@[simp] theorem Delay.bypassed_written (d : Delay) (x : Stereo) : (d.bypassed x).written = d.written + 1 := rfl

@[simp] theorem Delay.bypassed_length (d : Delay) (x : Stereo) : (d.bypassed x).length = 0 :=
  Int.sub_self _

/-- The record where BYPASS is reached, whole. -/
theorem Delay.bypassed_of_leaves {d : Delay} (x : Stereo) (h : d.leaves = true) :
    d.bypassed x = { d with
      state := .bypass, prior := none, exitFlag := false, crossfade := 0, bypassFrame := x
      oldReadPos := if 0 < d.crossfade then d.oldReadPos + d.length else d.oldReadPos
      written := d.written + 1, readPos := ((d.written + 1 : Nat) : Int) * 4096 } := by
  simp only [Delay.bypassed, Delay.moved, Delay.step_of_leaves h]

/-! ### The muted flags after a call (R112) -/

@[simp] theorem State.remuteAfter_onAir (s : State) : s.remuteAfter .onAir = s.remute := rfl

theorem State.remuteAfter_other (s : State) {left : LineState} (h : left ≠ .onAir) :
    s.remuteAfter left = s := if_neg h

end Sys2Proof.Machine
end

