-- ==== Sys2Proof/Laws/PerInstr.lean ====
section
/-!
SUPPORT. Statements made of every command: the fields of a request that can be sent are at most 63, each
of at most 30 bits (R194, R201), so that its message spells them whole.
-/

namespace Sys2Proof.Laws

open Sys2Proof.Machine

/-- Every field of a request that can be sent is a 30-bit payload, and a header can count them. -/
def FieldsFit.Statement (i : Instr) : Prop :=
  i.wellFormed = true → ∀ k tag fs, encodeRequest i = some (k, tag, fs) →
    fs.length ≤ 63 ∧ ∀ f ∈ fs, fitsWord f = true

/-! ### Fields -/

theorem fitsWord_iff (v : Nat) : fitsWord v = true ↔ v < 1073741824 := by simp [fitsWord]

theorem fitsWide_iff (v : Nat) : fitsWide v = true ↔ v < 4294967296 := by simp [fitsWide]

theorem optionalField_fits {v : Option Nat} (h : fitsOption fitsWord v = true) :
    optionalField v < 1073741824 := by
  cases v with
  | none => decide
  | some v => exact (fitsWord_iff v).mp h

theorem wide_fits {v : Nat} (h : v < 4294967296) : ∀ f ∈ wide v, f < 1073741824 := by
  simp only [wide, List.mem_cons, List.not_mem_nil, or_false, forall_eq_or_imp, forall_eq]
  omega

@[simp] theorem wide_length (v : Nat) : (wide v).length = 2 := rfl

theorem optionalWide_fits {v : Option Nat} (h : fitsOption fitsWide v = true) :
    ∀ f ∈ optionalWide v, f < 1073741824 := by
  cases v with
  | none => decide
  | some v => exact wide_fits ((fitsWide_iff v).mp h)

@[simp] theorem optionalWide_length (v : Option Nat) : (optionalWide v).length = 2 := rfl

theorem presence_lt (vs : List (Option Nat)) : presence vs < 2 ^ vs.length := by
  induction vs with
  | nil => decide
  | cons v vs ih =>
    simp only [presence, List.length_cons, Nat.pow_succ]
    split <;> omega

theorem presence_fits (vs : List (Option Nat)) (h : vs.length ≤ 7) : presence vs < 1073741824 :=
  Nat.lt_of_lt_of_le (presence_lt vs)
    (Nat.le_trans (Nat.pow_le_pow_right (by decide) h) (by decide))

@[simp] theorem pairFields_length (is : List (Nat × Nat)) : (pairFields is).length = 2 * is.length := by
  induction is with
  | nil => rfl
  | cons i is ih => simp [pairFields, ih]; omega

theorem pairFields_fits {is : List (Nat × Nat)}
    (h : ∀ i ∈ is, i.1 < 1073741824 ∧ i.2 < 1073741824) : ∀ f ∈ pairFields is, f < 1073741824 := by
  induction is with
  | nil => simp [pairFields]
  | cons i is ih =>
    simp only [pairFields, List.mem_cons]
    rintro f (rfl | rfl | hf)
    · exact (h _ (by simp)).1
    · exact (h _ (by simp)).2
    · exact ih (fun j hj => h j (by simp [hj])) f hf

@[simp] theorem lineFieldsOf_length (is : List LineFields) :
    (lineFieldsOf is).length = 3 * is.length := by
  induction is with
  | nil => rfl
  | cons i is ih => simp [lineFieldsOf, ih]; omega

theorem lineFieldsOf_fits {is : List LineFields} (h : ∀ i ∈ is, i.wellFormed = true) :
    ∀ f ∈ lineFieldsOf is, f < 1073741824 := by
  induction is with
  | nil => simp [lineFieldsOf]
  | cons i is ih =>
    have hi := h i (by simp)
    simp only [LineFields.wellFormed, Bool.and_eq_true, fitsWord_iff] at hi
    simp only [lineFieldsOf, List.mem_cons]
    rintro f (rfl | rfl | rfl | hf)
    · exact hi.1.1
    · exact hi.1.2
    · exact hi.2
    · exact ih (fun j hj => h j (by simp [hj])) f hf

theorem entryFields_fit {e : EntryFields} (h : e.wellFormed = true) :
    (EntryFields.fields e).length = 9 ∧ ∀ f ∈ EntryFields.fields e, f < 1073741824 := by
  simp only [EntryFields.wellFormed, Bool.and_eq_true, fitsWord_iff] at h
  obtain ⟨⟨⟨⟨⟨⟨h1, h2⟩, h3⟩, h4⟩, h5⟩, h6⟩, h7⟩ := h
  refine ⟨rfl, fun f hf => ?_⟩
  simp only [EntryFields.fields, List.mem_append, List.mem_cons, List.not_mem_nil, or_false] at hf
  rcases hf with (rfl | rfl | rfl | rfl | rfl | rfl | rfl) | hf
  · exact presence_fits _ (by simp)
  · exact h1
  · exact h2
  · exact h3
  · exact optionalField_fits h4
  · exact optionalField_fits h5
  · exact optionalField_fits h6
  · exact optionalWide_fits h7 f hf

/-! ### The requests whose fields are numbers alone -/

theorem FieldsFit.plain {i : Instr} {k : RequestKind} {tag : Tag} {fs : List Nat}
    (he : encodeRequest i = some (k, tag, fs)) (hl : fs.length ≤ 63)
    (hf : i.wellFormed = true → ∀ f ∈ fs, f < 1073741824) : FieldsFit.Statement i := by
  intro h k' tag' fs' he'
  rw [he] at he'
  cases he'
  exact ⟨hl, fun f hm => (fitsWord_iff f).mpr (hf h f hm)⟩

theorem FieldsFit.words {i : Instr} {k : RequestKind} {tag : Tag} {fs : List Nat}
    (he : encodeRequest i = some (k, tag, fs)) (hl : fs.length ≤ 63)
    (hw : i.wellFormed = fs.all fitsWord) : FieldsFit.Statement i :=
  FieldsFit.plain he hl fun h f hf => (fitsWord_iff f).mp (List.all_eq_true.mp (hw ▸ h) f hf)

theorem FieldsFit.zero {i : Instr} {k : RequestKind} {tag : Tag}
    (he : encodeRequest i = some (k, tag, [])) : FieldsFit.Statement i :=
  FieldsFit.plain he (Nat.zero_le _) fun _ _ hf => absurd hf List.not_mem_nil

theorem FieldsFit.one {i : Instr} {k : RequestKind} {tag : Tag} {v : Nat}
    (he : encodeRequest i = some (k, tag, [v])) (hw : i.wellFormed = fitsWord v) :
    FieldsFit.Statement i :=
  FieldsFit.words he (Nat.le_add_left 1 62) (by simp [hw])

theorem FieldsFit.two {i : Instr} {k : RequestKind} {tag : Tag} {v w : Nat}
    (he : encodeRequest i = some (k, tag, [v, w]))
    (hw : i.wellFormed = (fitsWord v && fitsWord w)) : FieldsFit.Statement i :=
  FieldsFit.words he (Nat.le_add_left 2 61) (by simp [hw])

theorem FieldsFit.event {i : Instr} (he : encodeRequest i = none) : FieldsFit.Statement i := by
  intro _ k tag fs h
  rw [he] at h
  cases h

theorem FieldsFit.powerOn :
    FieldsFit.Statement .powerOn :=
  FieldsFit.event rfl

theorem FieldsFit.activitySeen :
    FieldsFit.Statement .activitySeen :=
  FieldsFit.event rfl

theorem FieldsFit.activityCeases :
    FieldsFit.Statement .activityCeases :=
  FieldsFit.event rfl

theorem FieldsFit.alignmentFound :
    FieldsFit.Statement .alignmentFound :=
  FieldsFit.event rfl

theorem FieldsFit.alignedFrame (lanes : Vector Sample 16) :
    FieldsFit.Statement (.alignedFrame lanes) :=
  FieldsFit.event rfl

theorem FieldsFit.failedPosition :
    FieldsFit.Statement .failedPosition :=
  FieldsFit.event rfl

theorem FieldsFit.settlingFailure :
    FieldsFit.Statement .settlingFailure :=
  FieldsFit.event rfl

theorem FieldsFit.lockEvent :
    FieldsFit.Statement .lockEvent :=
  FieldsFit.event rfl

theorem FieldsFit.frameLoss :
    FieldsFit.Statement .frameLoss :=
  FieldsFit.event rfl

theorem FieldsFit.stationClockFrame :
    FieldsFit.Statement .stationClockFrame :=
  FieldsFit.event rfl

theorem FieldsFit.secondAdvance :
    FieldsFit.Statement .secondAdvance :=
  FieldsFit.event rfl

theorem FieldsFit.timeReached (entryTag : Nat) :
    FieldsFit.Statement (.timeReached entryTag) :=
  FieldsFit.event rfl

theorem FieldsFit.validityExpiry (record : RecordId) :
    FieldsFit.Statement (.validityExpiry record) :=
  FieldsFit.event rfl

theorem FieldsFit.windowExpiry (record : RecordId) :
    FieldsFit.Statement (.windowExpiry record) :=
  FieldsFit.event rfl

theorem FieldsFit.mixFrame :
    FieldsFit.Statement .mixFrame :=
  FieldsFit.event rfl

theorem FieldsFit.routeRampEnd (route : RouteId) :
    FieldsFit.Statement (.routeRampEnd route) :=
  FieldsFit.event rfl

theorem FieldsFit.gateRampEnd (route : RouteId) :
    FieldsFit.Statement (.gateRampEnd route) :=
  FieldsFit.event rfl

theorem FieldsFit.voiceHoldExpiry :
    FieldsFit.Statement .voiceHoldExpiry :=
  FieldsFit.event rfl

theorem FieldsFit.transmitFrame :
    FieldsFit.Statement .transmitFrame :=
  FieldsFit.event rfl

theorem FieldsFit.deckFrame (deck : DeckId) :
    FieldsFit.Statement (.deckFrame deck) :=
  FieldsFit.event rfl

theorem FieldsFit.prefetchComplete (deck : DeckId) :
    FieldsFit.Statement (.prefetchComplete deck) :=
  FieldsFit.event rfl

theorem FieldsFit.autoFadeStart (deck : DeckId) :
    FieldsFit.Statement (.autoFadeStart deck) :=
  FieldsFit.event rfl

theorem FieldsFit.segueEvent (deck : DeckId) :
    FieldsFit.Statement (.segueEvent deck) :=
  FieldsFit.event rfl

theorem FieldsFit.playEnd (deck : DeckId) :
    FieldsFit.Statement (.playEnd deck) :=
  FieldsFit.event rfl

theorem FieldsFit.fadeEnd (deck : DeckId) :
    FieldsFit.Statement (.fadeEnd deck) :=
  FieldsFit.event rfl

theorem FieldsFit.recorderFrame (recorder : RecorderId) :
    FieldsFit.Statement (.recorderFrame recorder) :=
  FieldsFit.event rfl

theorem FieldsFit.cartRecordingFull (recorder : RecorderId) :
    FieldsFit.Statement (.cartRecordingFull recorder) :=
  FieldsFit.event rfl

theorem FieldsFit.alertDeclaredLength (recorder : RecorderId) :
    FieldsFit.Statement (.alertDeclaredLength recorder) :=
  FieldsFit.event rfl

theorem FieldsFit.alertSlotFull (recorder : RecorderId) :
    FieldsFit.Statement (.alertSlotFull recorder) :=
  FieldsFit.event rfl

theorem FieldsFit.delayFrame :
    FieldsFit.Statement .delayFrame :=
  FieldsFit.event rfl

theorem FieldsFit.targetLanding :
    FieldsFit.Statement .targetLanding :=
  FieldsFit.event rfl

theorem FieldsFit.bypassReached :
    FieldsFit.Statement .bypassReached :=
  FieldsFit.event rfl

theorem FieldsFit.delayOverrun :
    FieldsFit.Statement .delayOverrun :=
  FieldsFit.event rfl

theorem FieldsFit.dumpCrossfadeEnd :
    FieldsFit.Statement .dumpCrossfadeEnd :=
  FieldsFit.event rfl

theorem FieldsFit.switchFrame :
    FieldsFit.Statement .switchFrame :=
  FieldsFit.event rfl

theorem FieldsFit.crossfadeEnd :
    FieldsFit.Statement .crossfadeEnd :=
  FieldsFit.event rfl

theorem FieldsFit.monitorFrame :
    FieldsFit.Statement .monitorFrame :=
  FieldsFit.event rfl

theorem FieldsFit.monitorBlockEnd :
    FieldsFit.Statement .monitorBlockEnd :=
  FieldsFit.event rfl

theorem FieldsFit.lineQuietFault (line : LineId) :
    FieldsFit.Statement (.lineQuietFault line) :=
  FieldsFit.event rfl

theorem FieldsFit.lineOverloadChange :
    FieldsFit.Statement .lineOverloadChange :=
  FieldsFit.event rfl

theorem FieldsFit.answerTimerExpiry (line : LineId) :
    FieldsFit.Statement (.answerTimerExpiry line) :=
  FieldsFit.event rfl

theorem FieldsFit.linkFrame :
    FieldsFit.Statement .linkFrame :=
  FieldsFit.event rfl

theorem FieldsFit.linkBlockComplete :
    FieldsFit.Statement .linkBlockComplete :=
  FieldsFit.event rfl

theorem FieldsFit.siteReport (port : Port) (word0 word1 word2 : Word32) :
    FieldsFit.Statement (.siteReport port word0 word1 word2) :=
  FieldsFit.event rfl

theorem FieldsFit.heartbeatExpiry (port : Port) :
    FieldsFit.Statement (.heartbeatExpiry port) :=
  FieldsFit.event rfl

theorem FieldsFit.revertiveReturn :
    FieldsFit.Statement .revertiveReturn :=
  FieldsFit.event rfl

theorem FieldsFit.serviceWord (word : Word32) :
    FieldsFit.Statement (.serviceWord word) :=
  FieldsFit.event rfl

theorem FieldsFit.badMessage (payload : BitVec 30) :
    FieldsFit.Statement (.badMessage payload) :=
  FieldsFit.event rfl

theorem FieldsFit.statusRead (tag : Tag) :
    FieldsFit.Statement (.statusRead tag) :=
  FieldsFit.zero rfl

theorem FieldsFit.timeSet (tag : Tag) (seconds : Nat) :
    FieldsFit.Statement (.timeSet tag seconds) :=
  FieldsFit.one rfl rfl

theorem FieldsFit.restart (tag : Tag) :
    FieldsFit.Statement (.restart tag) :=
  FieldsFit.zero rfl

theorem FieldsFit.routeSet (tag : Tag) (index sourceKind sourceNumber destination gain exponent voice duckable : Nat) :
    FieldsFit.Statement (.routeSet tag index sourceKind sourceNumber destination gain exponent voice duckable) :=
  FieldsFit.words rfl (Nat.le_add_left 8 55) rfl

theorem FieldsFit.routeGain (tag : Tag) (index gain exponent : Nat) :
    FieldsFit.Statement (.routeGain tag index gain exponent) :=
  FieldsFit.words rfl (Nat.le_add_left 3 60) rfl

theorem FieldsFit.routeClear (tag : Tag) (index exponent : Nat) :
    FieldsFit.Statement (.routeClear tag index exponent) :=
  FieldsFit.words rfl (Nat.le_add_left 2 61) rfl

theorem FieldsFit.routeRead (tag : Tag) (index : Nat) :
    FieldsFit.Statement (.routeRead tag index) :=
  FieldsFit.one rfl rfl

theorem FieldsFit.duckSet (tag : Tag) (depth attack release threshold hold : Nat) :
    FieldsFit.Statement (.duckSet tag depth attack release threshold hold) :=
  FieldsFit.words rfl (Nat.le_add_left 5 58) rfl

theorem FieldsFit.outmapSet (tag : Tag) (items : List (Nat × Nat)) :
    FieldsFit.Statement (.outmapSet tag items) := by
  intro h k tag' fs he
  simp only [Instr.wellFormed, Bool.and_eq_true, List.all_eq_true, decide_eq_true_eq,
    fitsWord_iff] at h
  cases he
  refine ⟨by simp; omega, fun f hf => (fitsWord_iff f).mpr ?_⟩
  rcases List.mem_cons.mp hf with rfl | hf
  · omega
  · exact pairFields_fits h.1 f hf

theorem FieldsFit.regionSet (tag : Tag) (region startPage pageCount : Nat) :
    FieldsFit.Statement (.regionSet tag region startPage pageCount) :=
  FieldsFit.words rfl (Nat.le_add_left 3 60) rfl

theorem FieldsFit.cartDefine (tag : Tag) (cart startPage pageCount form cls : Nat) :
    FieldsFit.Statement (.cartDefine tag cart startPage pageCount form cls) :=
  FieldsFit.words rfl (Nat.le_add_left 5 58) rfl

theorem FieldsFit.cartDelete (tag : Tag) (cart : Nat) :
    FieldsFit.Statement (.cartDelete tag cart) :=
  FieldsFit.one rfl rfl

theorem FieldsFit.cartMarks (tag : Tag) (cart cueIn cueOut : Nat) (intro segue : Option Nat) :
    FieldsFit.Statement (.cartMarks tag cart cueIn cueOut intro segue) := by
  refine FieldsFit.plain rfl (by simp) fun h f hf => ?_
  simp only [Instr.wellFormed, Bool.and_eq_true, fitsWord_iff, fitsWide_iff] at h
  obtain ⟨⟨⟨⟨h1, h2⟩, h3⟩, h4⟩, h5⟩ := h
  simp only [List.mem_append, List.mem_cons, List.cons_append] at hf
  rcases hf with rfl | rfl | ((hf | hf) | hf) | hf
  · exact presence_fits _ (by simp)
  · exact h1
  · exact wide_fits h2 f hf
  · exact wide_fits h3 f hf
  · exact optionalWide_fits h4 f hf
  · exact optionalWide_fits h5 f hf

theorem FieldsFit.cartRecord (tag : Tag) (cart sourceKind sourceNumber : Nat) :
    FieldsFit.Statement (.cartRecord tag cart sourceKind sourceNumber) :=
  FieldsFit.words rfl (Nat.le_add_left 3 60) rfl

theorem FieldsFit.cartRecordStop (tag : Tag) (cart : Nat) :
    FieldsFit.Statement (.cartRecordStop tag cart) :=
  FieldsFit.one rfl rfl

theorem FieldsFit.cartRead (tag : Tag) (cart : Nat) :
    FieldsFit.Statement (.cartRead tag cart) :=
  FieldsFit.one rfl rfl

theorem FieldsFit.deckStart (tag : Tag) (deck : Nat) :
    FieldsFit.Statement (.deckStart tag deck) :=
  FieldsFit.one rfl rfl

theorem FieldsFit.deckFade (tag : Tag) (deck : Nat) :
    FieldsFit.Statement (.deckFade tag deck) :=
  FieldsFit.one rfl rfl

theorem FieldsFit.deckCut (tag : Tag) (deck : Nat) :
    FieldsFit.Statement (.deckCut tag deck) :=
  FieldsFit.one rfl rfl

theorem FieldsFit.deckPause (tag : Tag) (deck : Nat) :
    FieldsFit.Statement (.deckPause tag deck) :=
  FieldsFit.one rfl rfl

theorem FieldsFit.deckResume (tag : Tag) (deck : Nat) :
    FieldsFit.Statement (.deckResume tag deck) :=
  FieldsFit.one rfl rfl

theorem FieldsFit.deckRead (tag : Tag) (deck : Nat) :
    FieldsFit.Statement (.deckRead tag deck) :=
  FieldsFit.one rfl rfl

theorem FieldsFit.orderAppend (tag : Tag) (entry : EntryFields) :
    FieldsFit.Statement (.orderAppend tag entry) :=
  FieldsFit.plain rfl (by simp [EntryFields.fields]) fun h => (entryFields_fit h).2

theorem FieldsFit.orderInsert (tag : Tag) (entry : EntryFields) (before : Nat) :
    FieldsFit.Statement (.orderInsert tag entry before) := by
  refine FieldsFit.plain rfl (by simp [EntryFields.fields]) fun h f hf => ?_
  simp only [Instr.wellFormed, Bool.and_eq_true, fitsWord_iff] at h
  rcases List.mem_append.mp hf with hf | hf
  · exact (entryFields_fit h.1).2 f hf
  · rw [List.mem_singleton.mp hf]; exact h.2

theorem FieldsFit.orderRemove (tag : Tag) (entryTag : Nat) :
    FieldsFit.Statement (.orderRemove tag entryTag) :=
  FieldsFit.one rfl rfl

theorem FieldsFit.orderClear (tag : Tag) :
    FieldsFit.Statement (.orderClear tag) :=
  FieldsFit.zero rfl

theorem FieldsFit.orderNext (tag : Tag) :
    FieldsFit.Statement (.orderNext tag) :=
  FieldsFit.zero rfl

theorem FieldsFit.orderHold (tag : Tag) :
    FieldsFit.Statement (.orderHold tag) :=
  FieldsFit.zero rfl

theorem FieldsFit.orderRun (tag : Tag) :
    FieldsFit.Statement (.orderRun tag) :=
  FieldsFit.zero rfl

theorem FieldsFit.orderRead (tag : Tag) (position : Nat) :
    FieldsFit.Statement (.orderRead tag position) :=
  FieldsFit.one rfl rfl

theorem FieldsFit.callAnswer (tag : Tag) (line : Nat) :
    FieldsFit.Statement (.callAnswer tag line) :=
  FieldsFit.one rfl rfl

theorem FieldsFit.callReady (tag : Tag) (line : Nat) :
    FieldsFit.Statement (.callReady tag line) :=
  FieldsFit.one rfl rfl

theorem FieldsFit.callTake (tag : Tag) (line : Nat) :
    FieldsFit.Statement (.callTake tag line) :=
  FieldsFit.one rfl rfl

theorem FieldsFit.callPark (tag : Tag) (line : Nat) :
    FieldsFit.Statement (.callPark tag line) :=
  FieldsFit.one rfl rfl

theorem FieldsFit.callDrop (tag : Tag) (line : Nat) :
    FieldsFit.Statement (.callDrop tag line) :=
  FieldsFit.one rfl rfl

theorem FieldsFit.callSetup (tag : Tag) (limit holdGain : Option Nat) (items : List LineFields) :
    FieldsFit.Statement (.callSetup tag limit holdGain items) := by
  intro h k tag' fs he
  simp only [Instr.wellFormed, Bool.and_eq_true, List.all_eq_true, decide_eq_true_eq] at h
  obtain ⟨⟨⟨h1, h2⟩, h3⟩, h4⟩ := h
  cases he
  refine ⟨by simp; omega, fun f hf => (fitsWord_iff f).mpr ?_⟩
  simp only [List.mem_append, List.mem_cons, List.not_mem_nil, or_false] at hf
  rcases hf with (rfl | rfl | rfl | rfl) | hf
  · exact presence_fits _ (by simp)
  · exact optionalField_fits h1
  · exact optionalField_fits h2
  · omega
  · exact lineFieldsOf_fits h3 f hf

theorem FieldsFit.lineRead (tag : Tag) (line : Nat) :
    FieldsFit.Statement (.lineRead tag line) :=
  FieldsFit.one rfl rfl

theorem FieldsFit.lineRing (tag : Tag) (line callRef : Nat) :
    FieldsFit.Statement (.lineRing tag line callRef) :=
  FieldsFit.two rfl rfl

theorem FieldsFit.lineConnected (tag : Tag) (line callRef : Nat) :
    FieldsFit.Statement (.lineConnected tag line callRef) :=
  FieldsFit.two rfl rfl

theorem FieldsFit.lineHangup (tag : Tag) (line callRef : Nat) :
    FieldsFit.Statement (.lineHangup tag line callRef) :=
  FieldsFit.two rfl rfl

theorem FieldsFit.delaySetup (tag : Tag) (target dumpLength buildSlip catchupSlip : Option Nat) :
    FieldsFit.Statement (.delaySetup tag target dumpLength buildSlip catchupSlip) := by
  refine FieldsFit.plain rfl (by simp) fun h f hf => ?_
  simp only [Instr.wellFormed, Bool.and_eq_true] at h
  simp only [List.mem_cons, List.not_mem_nil, or_false] at hf
  repeat' rcases hf with rfl | hf
  all_goals first
    | exact presence_fits _ (by simp)
    | exact optionalField_fits (by tauto)

theorem FieldsFit.delayStart (tag : Tag) :
    FieldsFit.Statement (.delayStart tag) :=
  FieldsFit.zero rfl

theorem FieldsFit.delayExit (tag : Tag) :
    FieldsFit.Statement (.delayExit tag) :=
  FieldsFit.zero rfl

theorem FieldsFit.delayDump (tag : Tag) :
    FieldsFit.Statement (.delayDump tag) :=
  FieldsFit.zero rfl

theorem FieldsFit.delayRead (tag : Tag) :
    FieldsFit.Statement (.delayRead tag) :=
  FieldsFit.zero rfl

theorem FieldsFit.alertNotice (tag : Tag) (notice : NoticeFields) :
    FieldsFit.Statement (.alertNotice tag notice) := by
  intro h k tag' fs he
  simp only [Instr.wellFormed, NoticeFields.wellFormed, Bool.and_eq_true, List.all_eq_true,
    decide_eq_true_eq, fitsWord_iff, fitsWide_iff] at h
  obtain ⟨⟨⟨⟨⟨⟨⟨⟨⟨h1, h2⟩, h3⟩, h4⟩, h5⟩, h6⟩, h7⟩, h8⟩, h9⟩, h10⟩ := h
  cases he
  refine ⟨by simp [NoticeFields.fields]; omega, fun f hf => (fitsWord_iff f).mpr ?_⟩
  simp only [NoticeFields.fields, List.mem_append, List.mem_cons, List.not_mem_nil, or_false] at hf
  rcases hf with ((rfl | rfl | rfl | rfl | rfl | rfl | rfl) | hf) | rfl | hf
  all_goals first
    | assumption
    | exact wide_fits h8 f hf
    | exact h9 f hf
    | omega

theorem FieldsFit.alertAudioEnd (tag : Tag) (originator identity : Nat) :
    FieldsFit.Statement (.alertAudioEnd tag originator identity) :=
  FieldsFit.two rfl rfl

theorem FieldsFit.alertCancel (tag : Tag) (originator identity : Nat) :
    FieldsFit.Statement (.alertCancel tag originator identity) :=
  FieldsFit.two rfl rfl

theorem FieldsFit.alertConfirm (tag : Tag) (record : Nat) :
    FieldsFit.Statement (.alertConfirm tag record) :=
  FieldsFit.one rfl rfl

theorem FieldsFit.alertDecline (tag : Tag) (record : Nat) :
    FieldsFit.Statement (.alertDecline tag record) :=
  FieldsFit.one rfl rfl

theorem FieldsFit.alertAbort (tag : Tag) (record : Nat) :
    FieldsFit.Statement (.alertAbort tag record) :=
  FieldsFit.one rfl rfl

theorem FieldsFit.alertForget (tag : Tag) (record : Nat) :
    FieldsFit.Statement (.alertForget tag record) :=
  FieldsFit.one rfl rfl

theorem FieldsFit.alertRead (tag : Tag) (record : Nat) :
    FieldsFit.Statement (.alertRead tag record) :=
  FieldsFit.one rfl rfl

theorem FieldsFit.filterSet (tag : Tag) (filter : FilterFields) :
    FieldsFit.Statement (.filterSet tag filter) := by
  intro h k tag' fs he
  simp only [Instr.wellFormed, FilterFields.wellFormed, Bool.and_eq_true, List.all_eq_true,
    decide_eq_true_eq, fitsWord_iff] at h
  obtain ⟨⟨⟨⟨⟨⟨⟨⟨⟨h1, h2⟩, h3⟩, h4⟩, h5⟩, h6⟩, h7⟩, h8⟩, h9⟩, h10⟩ := h
  cases he
  refine ⟨by simp [FilterFields.fields]; omega, fun f hf => (fitsWord_iff f).mpr ?_⟩
  simp only [FilterFields.fields, List.mem_append, List.mem_cons, List.not_mem_nil, or_false] at hf
  rcases hf with (rfl | rfl | rfl | rfl | rfl | rfl | rfl | rfl | rfl | rfl) | hf
  all_goals first
    | assumption
    | exact presence_fits _ (by simp)
    | exact optionalField_fits (by assumption)
    | exact h9 f hf
    | omega

theorem FieldsFit.filterClear (tag : Tag) (index : Nat) :
    FieldsFit.Statement (.filterClear tag index) :=
  FieldsFit.one rfl rfl

theorem FieldsFit.airSetup (tag : Tag) (cart enable fadeMs : Option Nat) :
    FieldsFit.Statement (.airSetup tag cart enable fadeMs) := by
  refine FieldsFit.plain rfl (by simp) fun h f hf => ?_
  simp only [Instr.wellFormed, Bool.and_eq_true] at h
  simp only [List.mem_cons, List.not_mem_nil, or_false] at hf
  repeat' rcases hf with rfl | hf
  all_goals first
    | exact presence_fits _ (by simp)
    | exact optionalField_fits (by tauto)

theorem FieldsFit.monitorSet (tag : Tag) (setting : Nat) (fields : MonitorFields) :
    FieldsFit.Statement (.monitorSet tag setting fields) := by
  refine FieldsFit.plain rfl (by simp [MonitorFields.fields]) fun h f hf => ?_
  simp only [Instr.wellFormed, MonitorFields.wellFormed, Bool.and_eq_true, fitsWord_iff] at h
  simp only [MonitorFields.fields, List.mem_cons, List.not_mem_nil, or_false] at hf
  repeat' rcases hf with rfl | hf
  all_goals first
    | exact presence_fits _ (by simp)
    | exact optionalField_fits (by tauto)
    | tauto

theorem FieldsFit.monitorClear (tag : Tag) (setting line : Nat) :
    FieldsFit.Statement (.monitorClear tag setting line) :=
  FieldsFit.two rfl rfl

theorem FieldsFit.monitorRead (tag : Tag) (setting line : Nat) :
    FieldsFit.Statement (.monitorRead tag setting line) :=
  FieldsFit.two rfl rfl

theorem FieldsFit.linkSetup (tag : Tag) (fields : LinkFields) :
    FieldsFit.Statement (.linkSetup tag fields) := by
  refine FieldsFit.plain rfl (by simp [LinkFields.fields]) fun h f hf => ?_
  simp only [Instr.wellFormed, LinkFields.wellFormed, Bool.and_eq_true] at h
  simp only [LinkFields.fields, List.mem_cons, List.not_mem_nil, or_false] at hf
  repeat' rcases hf with rfl | hf
  all_goals first
    | exact presence_fits _ (by simp)
    | exact optionalField_fits (by tauto)

theorem FieldsFit.linkSelect (tag : Tag) (port force : Nat) :
    FieldsFit.Statement (.linkSelect tag port force) :=
  FieldsFit.two rfl rfl

theorem FieldsFit.linkRead (tag : Tag) :
    FieldsFit.Statement (.linkRead tag) :=
  FieldsFit.zero rfl

end Sys2Proof.Laws
end

