-- ==== Sys2Proof/Tests/Slice0.lean ====
section
/-!
SUPPORT. Tests: the commands that cannot be sent, single steps of the manual's worked examples, and, for every
statement that has hypotheses, states and operands that meet them.
-/

namespace Sys2Proof.Tests

open Sys2Proof Sys2Proof.Machine

/-! ### Helpers -/

/-- The state after a command that is carried out. -/
def after (c : Instr) (s : State) : State :=
  match exec c s with
  | .next t => t
  | .fault _ => s
  | .refused _ => s

/-- Power-on with the rig changed. -/
def rigged (f : Rig → Rig) : State := State.reset.onRig f

/-- The receiver in LOCKED at an aligned frame. -/
def locked : State :=
  { State.reset with
    trunk := { Trunk.reset with lock := .locked, handsWord := true }
    clock := { Clock.reset with source := .trunk, seconds := 10000, frameCount := 12000 } }

/-- The status of the last reply queued. -/
def lastStatus (s : State) : Option Status :=
  match s.rig.egress.queue.getLast? with
  | some (.reply _ _ _ st _) => some st
  | _ => none

/-! ### Commands that cannot be sent: every check refuses an ill-formed term -/

/-- A value one above a one-word field, and one above a wide field. -/
def big : Nat := 1073741824
def huge : Nat := 4294967296

def plainEntry : EntryFields :=
  { tag := 1, cart := 0, mode := 0, startTime := none, gain := none, fadeMs := none, segueOverride := none }

theorem test_illFormed_clockAndMix : ([
    .timeReached big,
    .timeSet 0 big,
    .routeSet 0 big 0 0 0 0 0 0 0,
    .routeSet 0 0 big 0 0 0 0 0 0,
    .routeSet 0 0 0 big 0 0 0 0 0,
    .routeSet 0 0 0 0 big 0 0 0 0,
    .routeSet 0 0 0 0 0 big 0 0 0,
    .routeSet 0 0 0 0 0 0 big 0 0,
    .routeSet 0 0 0 0 0 0 0 big 0,
    .routeSet 0 0 0 0 0 0 0 0 big,
    .routeGain 0 big 0 0,
    .routeGain 0 0 big 0,
    .routeGain 0 0 0 big,
    .routeClear 0 big 0,
    .routeClear 0 0 big,
    .routeRead 0 big,
    .duckSet 0 big 0 0 0 0,
    .duckSet 0 0 big 0 0 0,
    .duckSet 0 0 0 big 0 0,
    .duckSet 0 0 0 0 big 0,
    .duckSet 0 0 0 0 0 big,
    .outmapSet 0 [(big, 0)],
    .outmapSet 0 [(0, big)],
    .outmapSet 0 (List.replicate 32 (0, 0))] : List Instr).all (fun i => !i.wellFormed) = true := by
  decide

theorem test_illFormed_storeAndDecks : ([
    .regionSet 0 big 0 0,
    .regionSet 0 0 big 0,
    .regionSet 0 0 0 big,
    .cartDefine 0 big 0 0 0 0,
    .cartDefine 0 0 big 0 0 0,
    .cartDefine 0 0 0 big 0 0,
    .cartDefine 0 0 0 0 big 0,
    .cartDefine 0 0 0 0 0 big,
    .cartDelete 0 big,
    .cartMarks 0 big 0 0 none none,
    .cartMarks 0 0 huge 0 none none,
    .cartMarks 0 0 0 huge none none,
    .cartMarks 0 0 0 0 (some huge) none,
    .cartMarks 0 0 0 0 none (some huge),
    .cartRecord 0 big 0 0,
    .cartRecord 0 0 big 0,
    .cartRecord 0 0 0 big,
    .cartRecordStop 0 big,
    .cartRead 0 big,
    .deckStart 0 big,
    .deckFade 0 big,
    .deckCut 0 big,
    .deckPause 0 big,
    .deckResume 0 big,
    .deckRead 0 big] : List Instr).all (fun i => !i.wellFormed) = true := by
  decide

theorem test_illFormed_order : ([
    .orderAppend 0 { tag := big, cart := 0, mode := 0, startTime := none, gain := none, fadeMs := none, segueOverride := none },
    .orderAppend 0 { tag := 0, cart := big, mode := 0, startTime := none, gain := none, fadeMs := none, segueOverride := none },
    .orderAppend 0 { tag := 0, cart := 0, mode := big, startTime := none, gain := none, fadeMs := none, segueOverride := none },
    .orderAppend 0 { tag := 0, cart := 0, mode := 0, startTime := (some big), gain := none, fadeMs := none, segueOverride := none },
    .orderAppend 0 { tag := 0, cart := 0, mode := 0, startTime := none, gain := (some big), fadeMs := none, segueOverride := none },
    .orderAppend 0 { tag := 0, cart := 0, mode := 0, startTime := none, gain := none, fadeMs := (some big), segueOverride := none },
    .orderAppend 0 { tag := 0, cart := 0, mode := 0, startTime := none, gain := none, fadeMs := none, segueOverride := (some huge) },
    .orderInsert 0 { tag := big, cart := 0, mode := 0, startTime := none, gain := none, fadeMs := none, segueOverride := none } 0,
    .orderInsert 0 plainEntry big,
    .orderRemove 0 big,
    .orderRead 0 big] : List Instr).all (fun i => !i.wellFormed) = true := by
  decide

theorem test_illFormed_calls : ([
    .callAnswer 0 big,
    .callReady 0 big,
    .callTake 0 big,
    .callPark 0 big,
    .callDrop 0 big,
    .lineRead 0 big,
    .lineRing 0 big 0,
    .lineRing 0 0 big,
    .lineConnected 0 big 0,
    .lineConnected 0 0 big,
    .lineHangup 0 big 0,
    .lineHangup 0 0 big,
    .callSetup 0 (some big) none [],
    .callSetup 0 none (some big) [],
    .callSetup 0 none none [⟨big, 0, 0⟩],
    .callSetup 0 none none [⟨0, big, 0⟩],
    .callSetup 0 none none [⟨0, 0, big⟩],
    .callSetup 0 none none (List.replicate 20 ⟨0, 0, 0⟩),
    .delaySetup 0 (some big) none none none,
    .delaySetup 0 none (some big) none none,
    .delaySetup 0 none none (some big) none,
    .delaySetup 0 none none none (some big)] : List Instr).all (fun i => !i.wellFormed) = true := by
  decide

theorem test_illFormed_alerts : ([
    .alertNotice 0 ⟨big, 0, 0, 0, 0, 0, 0, 0, []⟩,
    .alertNotice 0 ⟨0, big, 0, 0, 0, 0, 0, 0, []⟩,
    .alertNotice 0 ⟨0, 0, big, 0, 0, 0, 0, 0, []⟩,
    .alertNotice 0 ⟨0, 0, 0, big, 0, 0, 0, 0, []⟩,
    .alertNotice 0 ⟨0, 0, 0, 0, big, 0, 0, 0, []⟩,
    .alertNotice 0 ⟨0, 0, 0, 0, 0, big, 0, 0, []⟩,
    .alertNotice 0 ⟨0, 0, 0, 0, 0, 0, big, 0, []⟩,
    .alertNotice 0 ⟨0, 0, 0, 0, 0, 0, 0, huge, []⟩,
    .alertNotice 0 ⟨0, 0, 0, 0, 0, 0, 0, 0, [big]⟩,
    .alertNotice 0 ⟨0, 0, 0, 0, 0, 0, 0, 0, (List.replicate 54 0)⟩,
    .filterSet 0 ⟨big, 0, 0, 0, none, 0, none, none, []⟩,
    .filterSet 0 ⟨0, big, 0, 0, none, 0, none, none, []⟩,
    .filterSet 0 ⟨0, 0, big, 0, none, 0, none, none, []⟩,
    .filterSet 0 ⟨0, 0, 0, big, none, 0, none, none, []⟩,
    .filterSet 0 ⟨0, 0, 0, 0, some big, 0, none, none, []⟩,
    .filterSet 0 ⟨0, 0, 0, 0, none, big, none, none, []⟩,
    .filterSet 0 ⟨0, 0, 0, 0, none, 0, some big, none, []⟩,
    .filterSet 0 ⟨0, 0, 0, 0, none, 0, none, some big, []⟩,
    .filterSet 0 ⟨0, 0, 0, 0, none, 0, none, none, [big]⟩,
    .filterSet 0 ⟨0, 0, 0, 0, none, 0, none, none, List.replicate 54 0⟩,
    .alertAudioEnd 0 big 0,
    .alertAudioEnd 0 0 big,
    .alertCancel 0 big 0,
    .alertCancel 0 0 big,
    .alertConfirm 0 big,
    .alertDecline 0 big,
    .alertAbort 0 big,
    .alertForget 0 big,
    .alertRead 0 big,
    .filterClear 0 big] : List Instr).all (fun i => !i.wellFormed) = true := by
  decide

theorem test_illFormed_airAndLink : ([
    .airSetup 0 (some big) none none,
    .airSetup 0 none (some big) none,
    .airSetup 0 none none (some big),
    .monitorSet 0 big ⟨none, none, none, none, none, none, none⟩,
    .monitorSet 0 0 ⟨some big, none, none, none, none, none, none⟩,
    .monitorSet 0 0 ⟨none, some big, none, none, none, none, none⟩,
    .monitorSet 0 0 ⟨none, none, some big, none, none, none, none⟩,
    .monitorSet 0 0 ⟨none, none, none, some big, none, none, none⟩,
    .monitorSet 0 0 ⟨none, none, none, none, some big, none, none⟩,
    .monitorSet 0 0 ⟨none, none, none, none, none, some big, none⟩,
    .monitorSet 0 0 ⟨none, none, none, none, none, none, some big⟩,
    .monitorClear 0 big 0,
    .monitorClear 0 0 big,
    .monitorRead 0 big 0,
    .monitorRead 0 0 big,
    .linkSetup 0 ⟨some big, none, none, none, none, none⟩,
    .linkSetup 0 ⟨none, some big, none, none, none, none⟩,
    .linkSetup 0 ⟨none, none, some big, none, none, none⟩,
    .linkSetup 0 ⟨none, none, none, some big, none, none⟩,
    .linkSetup 0 ⟨none, none, none, none, some big, none⟩,
    .linkSetup 0 ⟨none, none, none, none, none, some big⟩,
    .linkSelect 0 big 0,
    .linkSelect 0 0 big] : List Instr).all (fun i => !i.wellFormed) = true := by
  decide

/-- A request at the top of every field can be sent: it is its owner that refuses it. -/
theorem test_wellFormed_top : (Instr.routeGain 255 1073741823 1073741823 1073741823).wellFormed = true := by
  decide

/-! ### Chapter 1, the worked examples of R11, R13 and the outage -/

theorem test_outmapSet : (after (.outmapSet 0 [(8, 2), (9, 3), (10, 8)]) State.reset).outMap[(8 : Fin 16)] = .pgmL ∧
    (after (.outmapSet 0 [(8, 2), (9, 3), (10, 8)]) State.reset).outMap[(10 : Fin 16)] = .scr := by decide

theorem test_timeSet : (after (.timeSet 6 81000) { State.reset with
      clock := { Clock.reset with seconds := 7212, frameCount := 31550 } }).clock =
    { Clock.reset with seconds := 81000, timeValid := true } := by decide

theorem test_failedPosition_third :
    (after .failedPosition { locked with trunk := { locked.trunk with failureCount := 2 } }).trunk.lock = .noSignal ∧
    (after .failedPosition { locked with trunk := { locked.trunk with failureCount := 2 } }).clock.source = .crystal := by
  decide

/-- The outage's step 6: LOCKED again after 104,802 frames of holdover. -/
theorem test_alignedFrame_last :
    let s : State := { State.reset with
      trunk := { Trunk.reset with lock := .settling, settleCount := 4799 }
      clock := { Clock.reset with holdover := 104802 } }
    let t := after (.alignedFrame (Vector.replicate 16 0)) s
    t.trunk.lock = .locked ∧ t.clock.source = .trunk ∧
      t.rig.egress.queue = [.report (.trunkLocked 104802)] := by decide

theorem test_stationClockFrame : (after .stationClockFrame { State.reset with
      clock := { Clock.reset with frameCount := 47999, seconds := 10001, holdover := 83999 } }).clock =
    { Clock.reset with frameCount := 0, seconds := 10002, holdover := 84000 } := by decide

/-! ### Chapter 2, the worked terms and sequences -/

/-- The worked terms of R21 and the saturation table of R22. -/
theorem test_scaled : scaled 1000000 12000 = 732422 ∧ scaled (-1000000) 12000 = -732422 ∧
    scaled (-8388608) 65535 = -33553920 ∧ scaled 1 8192 = 1 ∧ scaled (-1) 8192 = 0 := by decide

theorem test_saturate : (saturate 9000000).toInt = 8388607 ∧ (saturate (-8388609)).toInt = -8388608 ∧
    (saturate (-650000)).toInt = -650000 := by decide

/-- The table of R29: an exponent of 20 is clamped. -/
theorem test_routeSet :
    let r := (after (.routeSet 0 12 2 1 0 16384 20 0 1) State.reset).mix.routes[(12 : RouteId)]
    r.source = .deck 1 ∧ r.current = 0 ∧ r.target = 16384 ∧ r.exponent = 12 ∧ r.step = 4 ∧
      r.remaining = 4096 := by decide

/-- An in-use route on unity gain with its gate open. -/
def unity (source : RouteSource) (destination : Bus) (gain : Nat) : Route :=
  { Route.free with
    inUse := true, source := source, destination := destination, target := gain, current := gain
    gateFactor := 16384, gateOpen := true }

/-- Power-on with one route entry set. -/
def withRoute (i : RouteId) (r : Route) (s : State) : State :=
  { s with mix := { s.mix with routes := vset s.mix.routes i r } }

/-- The retarget of the worked sequence after R23: −535.75 is truncated toward zero. -/
theorem test_routeGain :
    let r := (after (.routeGain 0 5 4001 2) (withRoute 5 { unity (.lane 0) .pgm 6144 with
      target := 16384, exponent := 3, step := 2048, remaining := 5 } .reset)).mix.routes[(5 : RouteId)]
    r.step = -535 ∧ r.remaining = 4 ∧ r.current = 6144 ∧ r.target = 4001 := by decide

/-- Its last frame sets the target exactly. -/
theorem test_mixFrame_rampEnd :
    let r := (after .mixFrame (withRoute 5 { unity (.lane 0) .pgm 4539 with
      target := 4001, step := -535, remaining := 1 } .reset)).mix.routes[(5 : RouteId)]
    r.current = 4001 ∧ r.remaining = 0 ∧ r.step = -535 := by decide

theorem test_routeClear :
    let r := (after (.routeClear 0 7 2) (withRoute 7 (unity (.lane 0) .pgm 10000) .reset)).mix.routes[(7 : RouteId)]
    r.clearing = true ∧ r.target = 0 ∧ r.step = -2500 ∧ r.remaining = 4 := by decide

/-- The fourth frame event of that example frees the entry. -/
theorem test_routeRampEnd :
    let t := after (.routeRampEnd 7) (withRoute 7 { unity (.lane 0) .pgm 2500 with
      clearing := true, target := 0, exponent := 2, step := -2500, remaining := 1 } .reset)
    t.mix.routes[(7 : RouteId)] = .free ∧ t.rig.egress.queue = [.report (.routeFreed 7)] := by decide

/-- Power-on with what the blocks completed at the frame before changed. -/
def taking (o : Outputs) (s : State) : State := { s with taken := o }

/-- The voice-over's frame event u + 24,001: the voice closes and the release begins. -/
theorem test_voiceHoldExpiry :
    let m := (after .voiceHoldExpiry { State.reset with
      mix := { Mix.reset with duckFactor := 8192, sinceVoice := 24000 } }).mix
    m.sinceVoice = 24001 ∧ m.duckFactor = 8200 := by decide

/-- The voice-over's frame event t: the attack begins. -/
theorem test_mixFrame_voice :
    let m := (after .mixFrame (taking { Outputs.reset with lanes := Vector.replicate 16 200000 }
      (withRoute 0 { unity (.lane 0) .pgm 16384 with voice := true } .reset))).mix
    m.sinceVoice = 0 ∧ m.duckFactor = 16320 := by decide

/-- The four routes of the returns worked case, L1 and L2 on air on lanes 1 and 2, L3 in HOLD. -/
def phoneIn : State :=
  let lanes : Vector Sample 16 := #v[0, 200000, -50000, 0, 0, 0, 0, 0, 0, 0, 0, 0, 0, 0, 0, 0]
  let line := fun (st : LineState) (x : Fin 16) =>
    { Line.reset with state := st, callRef := 1, inLane := some x }
  taking { Outputs.reset with
      lanes := lanes, decks := vset Outputs.reset.decks 0 (.stereo 1000000 600000) }
    (withRoute 0 (unity (.line 1) .pgm 16384) (withRoute 1 (unity (.line 2) .pgm 16384)
      (withRoute 2 (unity (.deck 0) .pgm 8192) (withRoute 3 (unity (.lane 0) .pgm 16384)
        (((State.reset.setLine 1 (line .onAir 1)).setLine 2 (line .onAir 2)).setLine 3 (line .hold 3))))))

theorem test_mixFrame_buses :
    let o := (after .mixFrame phoneIn).completed
    o.pgm.l.toInt = 650000 ∧ o.pgm.r.toInt = 450000 ∧ o.holdFeed.toInt = 275000 := by decide

theorem test_mixFrame_returns :
    let o := (after .mixFrame phoneIn).completed
    (o.returns[(1 : LineId)]).toInt = 350000 ∧ (o.returns[(2 : LineId)]).toInt = 600000 ∧
      (o.returns[(3 : LineId)]).toInt = 275000 ∧ (o.returns[(0 : LineId)]).toInt = 0 := by decide

/-- R114 and R199: a restart ends the calls, and tells PHONE behind its reply. -/
theorem test_restart :
    let t := after (.restart 7) phoneIn
    t.line 1 = { phoneIn.line 1 with state := .idle, callRef := 0 } ∧
      t.rig.egress.queue = [doneWith 7 .restart [], .phoneRelease 1 1, .phoneRelease 2 1, .phoneRelease 3 1] := by
  decide

/-- R36 and R74: after a restart the deck routes have silence to mix at once, while the lanes stay. -/
theorem test_restart_silencesDecks :
    let s := { phoneIn with completed := phoneIn.taken }
    (after (.restart 7) s).taken = { s.taken with decks := Outputs.reset.decks } ∧
      (after (.restart 7) s).completed = { s.completed with decks := Outputs.reset.decks } := by
  decide

/-- R112: the drop of a line that is not ON_AIR leaves the muted flags to the event that carries the fault. -/
theorem test_callDrop_ringing_keepsFlags :
    let m := State.reset.rig.monitors
    let s := (phoneIn.setLine 0 { Line.reset with state := .ringing, callRef := 4 }).onRig fun r =>
      { r with monitors := { m with
          settings := vset m.settings 7 { m.settings[7] with mode := .auto }
          cells := vset m.cells (overloadCell 1) { MonitorCell.reset with state := .fault } } }
    (after (.callDrop 7 0) s).line 1 = s.line 1 ∧
      (after (.callDrop 7 0) s).rig.egress.queue = [.phoneRelease 0 4, doneWith 7 .callDrop []] ∧
      ((after (.callDrop 7 2) s).line 1).muted = true := by
  decide

/-- R35: what was completed is 0 after power-on. -/
theorem test_powerOn :
    (after .powerOn phoneIn).taken = Outputs.reset ∧ (after .powerOn phoneIn).mix.routes[(0 : RouteId)] = .free := by
  decide

/-! ### Chapter 3 -/

/-- The first two requests of R40's table. -/
theorem test_regionSet :
    let s := rigged (·.setCart 3 { Cart.empty with state := .defined, start := 0, pages := 256 })
    lastStatus (after (.regionSet 0 0 200 64) s) = some .busy ∧
      (after (.regionSet 0 0 256 64) s).rig.library.delayRegion = { start := 256, pages := 64 } ∧
      (after (.regionSet 0 0 256 64) s).rig.library.delayCapacity = 2097152 := by
  decide +kernel

/-- R44's table: a cart's own old pages are not counted as overlap. -/
theorem test_cartDefine :
    let s := rigged fun r => (r.setCart 9 { Cart.empty with state := .defined, start := 600, pages := 40 }).setCart 10
      { Cart.empty with state := .ready, start := 640, pages := 64 }
    let c := (after (.cartDefine 0 9 580 60 0 0) s).rig.cart 9
    c.state = .defined ∧ c.start = 580 ∧ c.capacity = 3932160 := by decide +kernel

/-- R46's table: the cue-out is clamped to the length. -/
theorem test_cartMarks :
    let c := (after (.cartMarks 0 5 2400 10000000 (some 480000) (some 9500000)) (rigged (·.setCart 5
      { Cart.empty with state := .ready, pages := 200, length := 9600000, cueOut := 9600000 }))).rig.cart 5
    c.cueIn = 2400 ∧ c.intro = some 480000 ∧ c.segue = some 9500000 ∧ c.cueOut = 9600000 := by decide

/-- A stereo recording at frame 2 of an extent at page 1 writes the words 65,540 and 65,541 (R37, R51). -/
theorem test_recorderFrame :
    let s := taking { Outputs.reset with lanes := Vector.replicate 16 77 } (rigged fun r =>
      (r.setCart 5 { Cart.empty with state := .recording, start := 1, pages := 1, form := .stereo }).setRecorder 0
        { binding := .cart 5, source := .pair 3, position := 2, limit := 32768, grantOrder := 1 })
    (after (.recorderFrame 0) s).store.cells = [(65540, 77), (65541, 77)] := by decide

/-! ### Chapter 4 -/

/-- The last cart of the fade example: stereo, every word of the fade 1,000,000. -/
def fading (position remaining : Nat) (state : DeckState) : State :=
  let word := 2 * position
  { rigged fun r => (r.setCart 30 { Cart.empty with
        state := .ready, pages := 100, form := .stereo, length := 2880000, cueOut := 2880000 }).setDeck 0
      { Deck.reset with
        state := state, source := .cart 30, form := .stereo, playEnd := 2880000, position := position
        seguePoint := some 2880000, gain := 16384, fadeLength := 48, fadeSpan := 48
        fadeRemaining := remaining, entryTag := 40 } with
    store := { Store.reset with cells := [(word, 1000000), (word + 1, 1000000)] } }

/-- Frame event e + 1: the fade begins at the full level. -/
theorem test_autoFadeStart :
    let t := after (.autoFadeStart 0) (fading 2879952 0 .playing)
    t.completed.decks[(0 : DeckId)] = .stereo 1000000 1000000 ∧ (t.rig.deck 0).state = .fading ∧
      (t.rig.deck 0).fadeSpan = 48 ∧ (t.rig.deck 0).fadeRemaining = 47 := by decide

/-- Frame event e + 2. -/
theorem test_deckFrame_fading :
    (after (.deckFrame 0) (fading 2879953 47 .fading)).completed.decks[(0 : DeckId)] = .stereo 979167 979167 := by
  decide

/-- Frame event e + 48 ends the fade and the deck releases. -/
theorem test_playEnd :
    let t := after (.playEnd 0) (fading 2879999 1 .fading)
    t.completed.decks[(0 : DeckId)] = .stereo 20833 20833 ∧ (t.rig.deck 0).state = .empty := by decide

theorem test_deckPause :
    let k := (after (.deckPause 0 0) (rigged (·.setDeck 0 { Deck.reset with
      state := .fading, source := .cart 30, position := 1206000, fadeSpan := 96000
      fadeRemaining := 40000 }))).rig.deck 0
    k.state = .paused ∧ k.prior = some .fading ∧ k.position = 1206000 ∧ k.fadeRemaining = 40000 := by decide

/-- A running-order entry of the worked sequences. -/
def entry (tag : Nat) (mode : StartMode) (state : EntryState) (deck : Option DeckId) (number : Nat) : Entry :=
  { tag := tag, cart := 30, mode := mode, startTime := none, gain := none, fadeMs := none
    segueOverride := none, state := state, deck := deck, startNumber := number, seguePassed := false
    timeReached := false, skipPending := false }

/-- A deck of the worked sequences. -/
def playing (state : DeckState) (tag order : Nat) : Deck :=
  { Deck.reset with
    state := state, source := .cart 30, playEnd := 5000000, gain := 16384, entryTag := tag
    audibleOrder := order, seguePoint := some 5000000, fadeSpan := 50, fadeRemaining := 40 }

/-- A station with a READY cart 30, decks and a running order. -/
def schedule (decks : List (DeckId × Deck)) (entries : List Entry) : State :=
  rigged fun r =>
    let r := r.setCart 30 { Cart.empty with
      state := .ready, pages := 100, length := 5000000, cueOut := 5000000 }
    let r := decks.foldl (fun r p => r.setDeck p.1 p.2) r
    { r with
      order := { entries := entries, hold := false, lastStart := 7 }
      decks := { r.decks with lastAudible := 9 } }

/-- R71's table: the third start cuts the deck with the smaller audible order. -/
def thirdStart : State :=
  schedule [(0, playing .playing 40 8), (1, playing .fading 41 9), (2, playing .cued 42 0)]
    [entry 40 .manual .airing (some 0) 6, entry 41 .manual .airing (some 1) 7,
     entry 42 .manual .assigned (some 2) 0]

theorem test_deckStart_third :
    let t := after (.deckStart 0 2) thirdStart
    (t.rig.deck 0).state = .empty ∧ (t.rig.deck 1).state = .fading ∧ (t.rig.deck 2).state = .playing ∧
      (t.rig.deck 2).audibleOrder = 10 ∧ t.rig.order.entries.map Entry.tag = [41, 42] := by decide

/-! ### Chapter 5 -/

/-- The timed join at the top of the hour, just before its step 1. -/
def topOfTheHour : State :=
  let timed : Entry := { entry 105 .timed .waiting none 0 with startTime := some 36000 }
  { schedule [(0, playing .playing 101 8), (1, playing .cued 102 0), (2, playing .cued 103 0)]
      [entry 101 .segue .airing (some 0) 7, entry 102 .segue .assigned (some 1) 0,
       entry 103 .segue .assigned (some 2) 0, entry 104 .manual .waiting none 0, timed,
       entry 106 .segue .waiting none 0] with
    clock := { Clock.reset with seconds := 35999, frameCount := 47999, timeValid := true } }

theorem test_secondAdvance_timedJoin :
    let t := after .secondAdvance topOfTheHour
    t.rig.order.entries.map Entry.tag = [101, 105, 106] ∧ (t.rig.deck 0).state = .fading ∧
      (t.rig.deck 0).fadeSpan = 24000 ∧ (t.rig.deck 1).entryTag = 105 ∧ (t.rig.deck 2).entryTag = 106 := by
  decide +kernel

/-- R87's table: the last ASSIGNED entry is displaced. -/
def beforeInsertion : State :=
  schedule [(0, playing .playing 201 8), (1, playing .cued 202 0), (2, playing .cued 203 0)]
    [entry 201 .segue .airing (some 0) 7, entry 202 .segue .assigned (some 1) 0,
     entry 203 .segue .assigned (some 2) 0, entry 204 .segue .waiting none 0]

theorem test_orderInsert :
    let t := after (.orderInsert 0 { plainEntry with tag := 210, cart := 30, mode := 1 } 202) beforeInsertion
    t.rig.order.entries.map Entry.tag = [201, 210, 202, 203, 204] ∧ (t.rig.deck 2).state = .loading ∧
      (t.rig.deck 2).entryTag = 210 ∧ (t.rig.deck 3).state = .empty ∧
      .report (.entryUnassigned 203 2) ∈ t.rig.egress.queue := by decide

/-! ### Chapter 6 -/

/-- R106's table: a parked caller goes to the head of the queue. -/
theorem test_callPark :
    let line := fun st => { Line.reset with state := st, callRef := 9, inLane := some 11 }
    let s := ((State.reset.setLine 2 (line .onAir)).setLine 4 (line .hold)).setLine 5 (line .hold)
    let t := after (.callPark 0 2) { s with callers := { s.callers with queue := [4, 5] } }
    t.callers.queue = [2, 4, 5] ∧ (t.line 2).state = .hold ∧ t.callers.onAirCount = 0 := by decide

/-- R108's table: a new gain is taken during a call, a new in-lane is not. -/
theorem test_callSetup :
    let s := State.reset.setLine 3 { Line.reset with state := .onAir, callRef := 9, inLane := some 11 }
    ((after (.callSetup 0 (some 1) none [⟨3, 11, 12000⟩]) s).line 3).returnGain = 12000 ∧
      (after (.callSetup 0 (some 1) none [⟨3, 11, 12000⟩]) s).callers.limit = 1 ∧
      lastStatus (after (.callSetup 0 none none [⟨3, 12, 12000⟩]) s) = some .state := by decide

/-! ### Chapter 7 -/

/-- STEADY at 480,000 frames over a region of 64 pages, as in R125's and R128's tables. -/
def steady : State :=
  rigged fun r => { r with
    library := { r.library with delayRegion := { start := 256, pages := 64 } }
    delay := { Delay.reset with state := .steady, written := 10000000, readPos := 38993920000 } }

theorem test_delaySetup :
    let d := (after (.delaySetup 0 (some 9000000) none (some 4) none) steady).rig.delay
    d.state = .build ∧ d.target = 2097151 ∧ d.dumpLength = 240000 ∧ d.buildSlip = 16 := by decide

theorem test_delayDump :
    let d := (after (.delayDump 0) steady).rig.delay
    d.state = .build ∧ d.readPos = 39976960000 ∧ d.length = 983040000 ∧ d.safe = true := by decide

/-- Step 3 of the building sequence: R is 7,808 su after the third frame event. -/
theorem test_delayFrame :
    let d := (after .delayFrame (rigged fun r => { r with
      library := { r.library with delayRegion := { start := 0, pages := 64 } }
      delay := { Delay.reset with state := .build, written := 2, readPos := 3840 } })).rig.delay
    d.state = .build ∧ d.written = 3 ∧ d.readPos = 7808 ∧ d.length = 4480 := by decide

/-! ### Chapter 8 -/

/-- R151's table: the queue's head airs when the airing of record 4 ends. -/
theorem test_alertAbort_next :
    let a := fun (st : AlertState) (sev n : Nat) => { AlertRecord.free with
      state := st, originator := 1, identity := n, severity := sev, queueEntry := n }
    let t := after (.alertAbort 0 4) (rigged fun r => { r with
      airSwitch := { r.airSwitch with owner := .alert, runFlag := true }
      alerts := { r.alerts with
        airing := some 4
        records := vset (vset (vset r.alerts.records 4 (a .airing 1 4)) 7 (a .queued 1 6)) 9 (a .queued 3 7) } })
    (t.rig.record 9).state = .airing ∧ (t.rig.record 7).state = .queued ∧ (t.rig.record 4).state = .aborted ∧
      t.rig.airSwitch.owner = .alert := by decide

/-- R138's table: a full list gives up its oldest pair. -/
theorem test_alertNotice_recent :
    let s := rigged fun r => { r with alerts := { r.alerts with
      recent := (List.range 32).map fun n => (3, 100 + n) } }
    let t := after (.alertNotice 0 ⟨4, 2500, 0, 1, 0, 60, 0, 10, [1]⟩) s
    t.rig.alerts.recent.head? = some (3, 101) ∧ t.rig.alerts.recent.getLast? = some (4, 2500) ∧
      t.rig.alerts.recent.length = 32 := by decide

/-! ### Chapter 9 -/

/-- The crossfade table of R163. -/
theorem test_switchFrame :
    let s := taking { Outputs.reset with
        dly := { l := -400000, r := -400000 }, decks := vset Outputs.reset.decks 4 (.mono 800000) }
      (rigged fun r => { r with airSwitch := { r.airSwitch with outgoing := some .alert, weight := 119 } })
    ((after .switchFrame s).completed.air.l).toInt = 500000 := by decide

/-- The fallback that turns back, step 3. -/
theorem test_monitorClear_turnsBack :
    let s := rigged fun r => { r with
      airSwitch := { r.airSwitch with
        owner := .fallback, outgoing := some .program, weight := 120, fallbackEnable := true }
      monitors := { r.monitors with
        settings := vset r.monitors.settings 2 (.silenceReset .auto)
        cells := vset r.monitors.cells 2 { MonitorCell.reset with state := .fault, persistence := 3000 } } }
    let a := (after (.monitorClear 0 2 1073741823) s).rig.airSwitch
    a.owner = .program ∧ a.outgoing = some .fallback ∧ a.weight = 360 ∧ a.span = 480 := by decide

/-- R174's table: a fault time below the warn time is raised to it. -/
theorem test_monitorSet :
    let s := rigged fun r => { r with monitors := { r.monitors with
      cells := vset r.monitors.cells 4 { MonitorCell.reset with state := .warning, persistence := 1800 } } }
    let m := (after (.monitorSet 0 4 ⟨some 1, none, some 20, some 15, none, none, none⟩) s).rig.monitors
    (m.settings[(4 : Fin 8)]).mode = .auto ∧ (m.settings[(4 : Fin 8)]).warn = 20 ∧
      (m.settings[(4 : Fin 8)]).fault = 20 ∧ (m.cells[(4 : Fin 18)]).state = .warning := by decide

/-- R174: check 3 leaves the fault time out. -/
theorem test_monitorSet_faultTime :
    let t := after (.monitorSet 0 4 ⟨none, none, none, some 300, none, none, none⟩) State.reset
    (t.rig.monitors.settings[(4 : Fin 8)]).fault = 300 ∧ lastStatus t = some .done := by decide

/-! ### Chapter 10 -/

/-- The changeover and return, step 2. -/
theorem test_heartbeatExpiry :
    let s := { State.reset with link := { Link.reset with
      portA := { PortRecord.reset with health := .up, heartbeat := 1 }
      portB := { PortRecord.reset with health := .up, heartbeat := 48000 } } }
    let t := after (.heartbeatExpiry .a) s
    t.link.portA.health = .down ∧ t.link.active = .b ∧ t.rig.egress.queue =
      [.report (.linkHealth .a .up .down), .report (.linkChangeover .a .b .portDown 0)] := by decide

/-- R189's table: the block in progress completes at its old length. -/
theorem test_linkBlockComplete :
    let l := (after .linkBlockComplete { State.reset with link := { Link.reset with
      nextLength := 192, phase := 95, counter := 9000 } }).link
    l.blockLength = 192 ∧ l.nextLength = 192 ∧ l.phase = 0 ∧ l.counter = 9001 := by decide

/-! ### Chapter 11, the worked TIME_SET and its reply -/

theorem test_timeSet_words : messageWords .timeSet 6 [81000] =
    [serviceWordOf 1 135278624, serviceWordOf 2 81000, serviceWordOf 3 27784] := by decide

theorem test_timeSet_reply : (Outbound.reply .console 6 2 .done []).words =
    [serviceWordOf 1 1006645313, serviceWordOf 2 2, serviceWordOf 2 0, serviceWordOf 3 12355] := by decide

/-- The worked message's LAST word carries the request out. -/
theorem test_serviceWord_last :
    let s := { locked with inbound := some { cls := 1, kind := 2, tag := 6, count := 1, fields := [81000], sum := 135359624 } }
    (after (.serviceWord (serviceWordOf 3 27784)) s).clock.seconds = 81000 ∧
      lastStatus (after (.serviceWord (serviceWordOf 3 27785)) s) = some .badCheck ∧
      (after (.serviceWord (serviceWordOf 3 27785)) s).clock.seconds = 10000 := by decide

/-! ### Witnesses: states and operands that meet the hypotheses of the statements, clause by clause -/

/-- The queue of power-on with a place secured for a reply, and with two places. -/
def made : Egress := { Egress.reset with reserved := 1 }
def madeTwo : Egress := { Egress.reset with reserved := 2 }

theorem witness_room : State.reset.rig.egress.secure 1 = some made ∧
    State.reset.rig.egress.secure 2 = some madeTwo := by decide

/-- Power-on with an egress queue. -/
def queued (sent : Nat) (q : List Outbound) : State :=
  rigged fun r => { r with egress := { r.egress with queue := q, sent := sent } }

def aReply : Outbound := .reply .console 1 1 .done []
def aReport : Outbound := .report .trunkLost

theorem witness_IndexOutOfRangeIsRefused : State.reset.rig.egress.secure 1 = some made ∧
    State.reset.rig.egress.secure 2 = some madeTwo ∧ 48 ≤ 48 ∧ 256 ≤ 256 ∧
    6 ≤ 6 ∧ 7 ≤ 7 ∧ 24 ≤ 24 ∧ 16 ≤ 16 ∧ 8 ≤ 8 := by decide

theorem witness_RouteAndDuckRequestsSetTheirRecord : (queued 0 (aReport :: List.replicate 31 aReply)).rig.egress.secure 1 =
    some { (queued 0 (List.replicate 31 aReply)).rig.egress with reserved := 1 } := by decide

theorem witness_RegionSetSetsOneRegion : State.reset.rig.egress.secure 1 = some made ∧ 2 ≤ 2 := by decide

theorem witness_DelayRequestsChangeTheDelayByItsState : steady.rig.egress.secure 1 = some made := by decide

theorem witness_StepTakesTheFrontCommand : State.reset.pending = [] := by decide

theorem witness_RestartKeepsSettingsAndClearsWorkInProgress :
    let s := queued 0 (List.replicate 25 aReport)
    ∃ e, s.rig.egress.secure 1 = some e ∧ e.queue.length + 7 ≤ 32 :=
  ⟨{ (queued 0 (List.replicate 25 aReport)).rig.egress with reserved := 1 }, by decide, by decide⟩

theorem witness_ReadsAnswerAndChangeNothingElse :
    thirdStart.rig.egress.secure 1 = some made ∧
      thirdStart.rig.order.entries[2]? = some (entry 42 .manual .assigned (some 2) 0) ∧
      cellAt 5 1073741823 = some 5 ∧ cellAt 7 5 = some 17 := by decide

/-- A queue of 32 replies has no room; one with a report behind a head that is being sent gives that up, the head
itself is not given up, and for two places the two youngest reports are. -/
theorem witness_RoomForARequestIsMadeFromReports :
    (encodeRequest (.callDrop 1 0)).isSome = true ∧
      (let q := (queued 0 (List.replicate 32 aReply)).rig.egress
       q.evictable < q.queue.length + (Instr.callDrop 1 0).places - 32 ∧ q.secure 2 = none) ∧
      (queued 1 (aReport :: List.replicate 31 aReply)).rig.egress.secure 1 = none ∧
      (let q := (queued 0 (List.replicate 31 aReply)).rig.egress
       q.queue.length + 1 ≤ 32 ∧ q.secure 1 = some { q with reserved := 1 }) ∧
      (let q := (queued 1 (aReport :: aReport :: List.replicate 30 aReply)).rig.egress
       q.queue.length + 1 = 33 ∧ q.secure 1 =
        some { q with queue := aReport :: List.replicate 30 aReply, reserved := 1 }) ∧
      (let q := (queued 0 (aReport :: aReply :: .report (.routeFreed 1) :: aReply :: .report (.routeFreed 2) ::
        List.replicate 27 aReply)).rig.egress
       q.queue.length + 2 = 34 ∧ q.secure 2 =
        some { q with queue := aReport :: aReply :: aReply :: List.replicate 27 aReply, reserved := 2 }) := by decide

theorem witness_EveryRequestIsAnsweredByOneReply :
    encodeRequest (.callAnswer 7 0) = some (.callAnswer, 7, [0]) ∧
      State.reset.rig.egress.secure (Instr.callAnswer 7 0).places = some madeTwo := by decide

theorem witness_RefusedRequestChangesNothing :
    encodeRequest (.routeRead 7 48) = some (.routeRead, 7, [48]) ∧
      State.reset.rig.egress.secure (Instr.routeRead 7 48).places = some made ∧
      exec (.routeRead 7 48) State.reset =
        .next (State.reset.answered made [refusedWith 7 .routeRead .range]) ∧
      repliesOf (State.reset.answered made [refusedWith 7 .routeRead .range]).rig.egress.queue =
        repliesOf State.reset.rig.egress.queue ++ [.reply RequestKind.routeRead.sender 7 RequestKind.routeRead.code
          .range []] ∧ Status.range ≠ .done :=
  ⟨by decide, by decide, rfl, by decide, by decide⟩

theorem witness_RequestMessageRoundTrip :
    (Instr.cartMarks 3 5 4294967295 0 none (some 4294967295)).wellFormed = true ∧
      encodeRequest (.cartMarks 3 5 4294967295 0 none (some 4294967295)) =
        some (.cartMarks, 3, [2, 5, 3, 1073741823, 0, 0, 0, 0, 3, 1073741823]) := by decide

theorem witness_MessageWordsCarryOutTheRequest :
    (Instr.timeSet 6 1073741823).wellFormed = true ∧
      encodeRequest (.timeSet 6 1073741823) = some (.timeSet, 6, [1073741823]) ∧
      locked.trunk.handsWord = true ∧ locked.inbound = none := by decide

/-- A TIME_SET message that is open with its one field. -/
def openTimeSet : OpenMessage :=
  { cls := 1, kind := 2, tag := 6, count := 1, fields := [81000], sum := 135359624 }

theorem witness_ServiceWordActsByItsCode :
    1073741823 < 1073741824 ∧ State.reset.trunk.handsWord = false ∧
      locked.trunk.handsWord = true ∧ locked.inbound = none ∧
      ({ locked with inbound := some openTimeSet } : State).inbound = some openTimeSet := by decide

/-- One message for each of the six checks of a closing message. -/
theorem witness_ClosingMessageChecksInOrder :
    let m := openTimeSet
    let closes := fun (m : OpenMessage) (p : BitVec 30) => firstRefusal
      [(m.fields.length < m.count, .badForm),
       (p.toNat ≠ m.sum % 65536, .badCheck),
       ((party? m.cls).isNone, .unknown),
       ((requestKind? m.kind).isNone, .unknown),
       ((requestKind? m.kind).map RequestKind.sender ≠ party? m.cls, .denied),
       (((requestKind? m.kind).bind fun k => decodeRequest k m.tag m.fields).isNone, .badForm)]
    locked.trunk.handsWord = true ∧
      closes { m with fields := [] } 27784 = some .badForm ∧ closes m 27785 = some .badCheck ∧
      closes { m with cls := 4 } 27784 = some .unknown ∧ closes { m with kind := 4 } 27784 = some .unknown ∧
      closes { m with cls := 3 } 27784 = some .denied ∧
      closes { m with count := 2, fields := [81000, 0] } 27784 = some .badForm := by decide

theorem witness_TransmitFrameSendsOneFrame :
    State.reset.rig.egress.queue = [] ∧
      (queued 3 [aReply]).rig.egress.sent = aReply.fields.length + 1 ∧
      (queued 2 [aReply]).rig.egress.sent < aReply.fields.length + 1 := by decide

/-- A receiver in a lock state with its counts. -/
def receiver (lock : LockState) (settle failures : Nat) : State :=
  { State.reset with trunk := { Trunk.reset with lock := lock, settleCount := settle, failureCount := failures } }

theorem witness_LockMachineFollowsItsTable :
    (receiver .settling 4798 0).trunk.settleCount + 1 < 4800 ∧
      4800 ≤ (receiver .settling 4799 0).trunk.settleCount + 1 ∧
      (receiver .settling 0 1).trunk.failureCount + 1 < 3 ∧
      3 ≤ (receiver .settling 0 2).trunk.failureCount + 1 ∧
      (receiver .locked 0 1).trunk.lock = .locked ∧ (receiver .locked 0 1).trunk.failureCount + 1 < 3 ∧
      (receiver .acquiring 0 0).trunk.lock = .acquiring ∧ (receiver .noSignal 0 0).trunk.lock = .noSignal := by
  decide

/-- An alert region of 256 pages, so slots of 16 pages, and record 3 with recorder 1 bound to it. -/
def recordingAlert (position declared : Nat) (action : AlertAction) : State :=
  rigged fun r => { r with
    library := { r.library with
      alertRegion := { start := 320, pages := 256 }
      recorders := vset r.library.recorders 1
        { binding := .alert 3, source := .lane 2, position := position, limit := 1048576, grantOrder := 1 } }
    alerts := { r.alerts with records := vset r.alerts.records 3 { AlertRecord.free with
      state := .recording, originator := 4, identity := 2500, severity := 3, declaredLength := declared
      validUntil := 600, action := action, confirmWindow := 120, audioLane := 2 } } }

theorem recordingAlert_law : (recordingAlert 0 96000 .auto).rig.alertLaw ∧
    (recordingAlert 9 10 .confirm).rig.alertLaw := by
  constructor <;> (unfold Rig.alertLaw; decide +kernel)

/-- A recording whose valid-until was reached before the clock went back. -/
def reachedAlert : State :=
  (recordingAlert 9 10 .auto).onRig fun r => r.setRecord 3 { r.record 3 with validUntilReached := true }

theorem reachedAlert_law : reachedAlert.rig.alertLaw := by
  unfold Rig.alertLaw
  decide +kernel

/-- That state with the receiver at its third failure. -/
def losing (position : Nat) : State :=
  { recordingAlert position 96000 .auto with trunk := { Trunk.reset with lock := .locked, failureCount := 2 } }

/-- R6: the lanes read as silence from the next frame event on. -/
theorem test_activityCeases_silence :
    let s := { locked with completed := { locked.completed with lanes := Vector.replicate 16 7 } }
    (after .activityCeases s).completed.lanes = Vector.replicate 16 0 ∧
      (after .activityCeases s).trunk.lock = .noSignal := by decide

/-- R152: of two recordings that one loss of the frame ends, the head of the queue as the event leaves it airs. -/
theorem test_activityCeases_headAirs :
    let s := State.onRig { recordingAlert 50000 96000 .auto with trunk := locked.trunk } fun r =>
      { r with
        library := { r.library with
          recorders := vset r.library.recorders 0
            { binding := .alert 1, source := .lane 0, position := 50000, limit := 1048576, grantOrder := 2 } }
        alerts := { r.alerts with
          records := vset r.alerts.records 1
            { r.record 3 with identity := 2501, severity := 2, audioLane := 0 } } }
    let t := after .activityCeases s
    (t.rig.record 3).state = .airing ∧ (t.rig.record 1).state = .queued ∧ t.rig.alerts.airing = some 3 := by
  decide +kernel

theorem witness_FrameLossLeavesLocked :
    (losing 0).trunk.lock = .locked ∧ (losing 0).rig.alertLaw ∧ 3 ≤ (losing 0).trunk.failureCount + 1 ∧
      ((losing 0).rig.record 3).state = .recording ∧ (losing 47999).rig.alertPosition 3 < 48000 ∧
      48000 ≤ (losing 48000).rig.alertPosition 3 :=
  ⟨by decide, recordingAlert_law.1, by decide, by decide, by decide, by decide⟩

/-- L0 ANSWERING with a timer, at a frame of its second. -/
def answering (timer frame : Nat) : State :=
  { State.reset.setLine 0 { Line.reset with
      state := .answering, callRef := 5, inLane := some 1, answerTimer := timer } with
    clock := { Clock.reset with frameCount := frame } }

theorem witness_ClockFrameCountsOneFrame :
    (answering 2 47998).clock.frameCount + 1 < 48000 ∧
      ∀ k : LineId, ((answering 2 47998).line k).state = .answering →
        1 < ((answering 2 47998).line k).answerTimer := by decide

/-- Record 3 in a state, with what a new second may reach. -/
def waiting (state : AlertState) (valid : Nat) (deadline : Option Nat) (expiry : ExpiryAction) : State :=
  { rigged (·.setRecord 3 { AlertRecord.free with
      state := state, originator := 4, identity := 2500, severity := 3, validUntil := valid
      deadline := deadline, expiryAction := expiry, action := .confirm }) with
    clock := { Clock.reset with seconds := 99, frameCount := 47999, timeValid := true } }

/-- Record 3 in the last frame before station seconds wrap. -/
def wrapping (state : AlertState) (valid : Nat) (deadline : Option Nat) : State :=
  { waiting state valid deadline .drop with
    clock := { Clock.reset with seconds := 1073741823, frameCount := 47999, timeValid := true } }

/-- The wrap of R148: a deadline at 1,073,741,824 or above falls by that much before it is compared with 0. -/
theorem test_secondAdvance_wrap :
    ((after .secondAdvance (wrapping .queued 1073741829 none)).rig.record 3).validUntil = 5 ∧
      ((after .secondAdvance (wrapping .awaiting 1073741829 (some 1073741825))).rig.record 3).deadline = some 1 ∧
      ((after .secondAdvance (wrapping .queued 1073741824 none)).rig.record 3).state = .expired := by decide +kernel

/-- R148: a valid-until that was reached stays reached when a later TIME_SET goes back. -/
theorem test_timeSet_backward :
    let s := { recordingAlert 0 96000 .auto with clock := { Clock.reset with seconds := 500, timeValid := true } }
    let t := after (.timeSet 0 100) (after (.timeSet 0 600) s)
    (t.rig.record 3).state = .recording ∧ t.clock.seconds = 100 ∧
      ((after (.alertAudioEnd 0 4 2500) t).rig.record 3).state = .expired ∧
      ((after (.alertAudioEnd 0 4 2500) s).rig.record 3).state = .airing := by decide +kernel

theorem thirdStart_orderLaw : thirdStart.rig.order.law := by
  unfold Order.law
  decide +kernel

theorem topOfTheHour_orderLaw : topOfTheHour.rig.order.law := by
  unfold Order.law
  decide +kernel

theorem witness_SecondAdvanceReachesDeadlines :
    (waiting .awaiting 100 none .air).clock.frameCount = 47999 ∧
      ((waiting .awaiting 100 none .air).rig.record 3).validUntil ≤ 99 + 1 ∧
      ((waiting .queued 100 none .air).rig.record 3).state = .queued ∧
      99 + 1 < ((waiting .awaiting 101 (some 100) .drop).rig.record 3).validUntil ∧
      ((waiting .awaiting 101 (some 100) .air).rig.record 3).deadline = some (99 + 1) ∧
      topOfTheHour.clock.frameCount = 47999 ∧ topOfTheHour.rig.order.law ∧
      (∃ e ∈ topOfTheHour.rig.order.entries, e.mode = .timed ∧ e.timeReached = false ∧
        e.startTime = some (topOfTheHour.clock.seconds + 1)) ∧
      (wrapping .queued 1073741824 none).clock.frameCount = 47999 ∧
      ¬ (wrapping .queued 1073741824 none).clock.seconds < 1073741823 :=
  ⟨by decide, by decide, by decide, by decide, by decide, by decide, topOfTheHour_orderLaw, by decide, by decide,
    by decide⟩

theorem witness_TimeSetSetsStationTime :
    State.reset.rig.egress.secure 1 = some made ∧ 1073741823 ≤ 1073741823 ∧ 1073741823 < 1073741824 ∧
      ((recordingAlert 0 96000 .auto).rig.record 3).state = .recording ∧
      (recordingAlert 0 96000 .auto).clock.timeValid = false ∧
      ((waiting .queued 100 none .air).rig.record 3).validUntil ≤ 100 ∧
      (waiting .queued 100 none .air).clock.timeValid = true ∧
      ((waiting .airing 100 none .air).rig.record 3).live = true ∧
      ((waiting .aired 100 none .air).rig.record 3).live = false ∧
      topOfTheHour.rig.order.law ∧ topOfTheHour.clock.timeValid = true ∧
      (∃ e ∈ topOfTheHour.rig.order.entries, e.mode = .timed ∧ e.timeReached = false ∧
        e.startTime = some 36000) :=
  ⟨by decide, by decide, by decide, by decide, by decide, by decide, by decide, by decide, by decide,
    topOfTheHour_orderLaw, by decide, by decide⟩

theorem witness_OutmapSetAssignsTheGivenLanes :
    let items : List (Nat × Nat) := (List.range 16).map fun n => (n, 16)
    items ≠ [] ∧ items.length ≤ 16 ∧ (items.map Prod.fst).Nodup ∧
      (∀ i ∈ items, i.1 < 16 ∧ signal? i.2 ≠ none) ∧ ¬ ([(3, 0), (3, 1)].map Prod.fst).Nodup ∧
      signal? 17 = none := by decide

/-- A clearing route one frame from its end, and a route in the middle of its ramp. -/
theorem witness_RouteRampsMoveOneStepAFrame :
    let r := (withRoute 47 { unity (.lane 0) .pgm 5 with clearing := true, target := 0, remaining := 1 } .reset).mix.routes[(47 : RouteId)]
    let q := (withRoute 0 { unity (.lane 0) .pgm 5 with target := 9, step := 2, remaining := 2 } .reset).mix.routes[(0 : RouteId)]
    r.inUse = true ∧ r.clearing = true ∧ r.remaining ≤ 1 ∧ q.inUse = true ∧ q.clearing = false ∧
      1 < q.remaining ∧ State.reset.mix.routes[(47 : RouteId)].inUse = false := by decide

/-- R31: that route is freed and reported at its last frame, before its neighbour with one frame more. -/
theorem test_mixFrame_frees :
    let r : Route := { unity (.lane 0) .pgm 5 with clearing := true, target := 0, remaining := 1 }
    let t := after .mixFrame (withRoute 47 r (withRoute 46 { r with remaining := 2 } .reset))
    t.rig.egress.queue = [.report (.routeFreed 47)] ∧ t.mix.routes[(47 : RouteId)] = .free ∧
      t.mix.routes[(46 : RouteId)].inUse = true := by decide

/-- Gates of L1's PGM route: standing, moving, and with a goal that has changed. -/
theorem witness_LineGatesMoveOneStepAFrame :
    let r := unity (.line 1) .pgm 16384
    r.inUse = true ∧ r.source = .line 1 ∧ r.clearing = false ∧
      (phoneIn.line 1).state = .onAir ∧ (phoneIn.line 1).muted = false ∧ r.gateOpen = true ∧
      r.gateRemaining = 0 ∧ r.gateFactor = 16384 ∧
      ({ r with gateRemaining := 1 } : Route).gateRemaining = 1 ∧
      (State.reset.line 1).state = .idle ∧ r.gateFactor ≠ 0 ∧
      ({ r with gateOpen := false } : Route).gateFactor = 16384 := by decide

theorem witness_VoiceGateDrivesTheDuckFactor :
    let s : State := { State.reset with mix := { Mix.reset with
      sinceVoice := 48000, duck := { DuckSettings.reset with hold := 48000 } } }
    s.mix.sinceVoice = s.mix.duck.hold ∧ s.mix.duck.hold ≤ 48000 ∧
      s.voiceDetected (after .mixFrame s).mix.routes = false ∧
      s.mix.duck.hold < (after .mixFrame s).mix.sinceVoice ∧
      (after .mixFrame State.reset).mix.sinceVoice = 48001 := by decide

theorem witness_RampReachesItsTargetInItsLength :
    65535 ≤ 65535 ∧ Route.free.current ≤ 65535 ∧ 12 ≤ 12 ∧ 65535 ≠ Route.free.current := by decide

theorem witness_CartRecordingStartsAndStops :
    let s := rigged (·.setCart 255 { Cart.empty with state := .ready, pages := 1 })
    recordSource? 0 15 = some (.lane 15) ∧ recordSource? 1 8 = none ∧
      (s.rig.cart 255).form = .mono ∧ (s.rig.cart 255).state = .ready ∧
      (∀ d : DeckId, (s.rig.deck d).state = .empty ∨ (s.rig.deck d).source ≠ .cart 255) ∧
      (s.rig.recorder 0).binding = .free ∧ (∀ j < (0 : RecorderId), (s.rig.recorder j).binding ≠ .free) ∧
      (let r := rigged fun r => (r.setCart 255 { Cart.empty with state := .recording, pages := 1 }).setRecorder 3
        { Recorder.free with binding := .cart 255, limit := 65536 }
       (r.rig.cart 255).state = .recording ∧ (r.rig.recorder 3).binding = .cart 255 ∧
        ∀ j < (3 : RecorderId), (r.rig.recorder j).binding ≠ .cart 255) := by decide

theorem witness_CartRequestsDefineMarkAndDelete :
    thirdStart.rig.cartHeld 30 = true ∧ State.reset.rig.cartHeld 255 = false ∧
      (State.reset.rig.cart 255).state = .empty ∧
      (rigged (·.setCart 255 { Cart.empty with state := .ready, pages := 1 })).rig.cartHeld 255 = false := by decide

/-- Cart 30, held by no deck and named by the first and the last of three WAITING entries. -/
def namedTwice : State :=
  schedule [] [entry 1 .manual .waiting none 0, { entry 2 .manual .waiting none 0 with cart := 31 },
    entry 3 .manual .waiting none 0]

/-- R45: both entries leave with their reports in list order before the reply, and the third stays. -/
theorem test_cartDelete_removes :
    namedTwice.rig.cartHeld 30 = false ∧ (namedTwice.rig.cart 30).state ≠ .empty ∧
      (let t := after (.cartDelete 7 30) namedTwice
       t.rig.order.entries.map Entry.tag = [2] ∧ t.rig.egress.queue =
        [.report (.entryRemoved .cart 1), .report (.entryRemoved .cart 3), doneWith 7 .cartDelete []]) := by
  decide

/-- R50: CART_RECORD removes them in the same way. -/
theorem test_cartRecord_removes :
    let t := after (.cartRecord 7 30 0 2) namedTwice
    (t.rig.cart 30).state = .recording ∧ t.rig.order.entries.map Entry.tag = [2] ∧ t.rig.egress.queue =
      [.report (.entryRemoved .cart 1), .report (.entryRemoved .cart 3), doneWith 7 .cartRecord []] := by
  decide

/-- The last frame of the store's last page, written by a mono recording at its capacity. -/
theorem witness_RecorderFrameWritesOneFrame :
    let s := rigged fun r => (r.setCart 5 { Cart.empty with state := .recording, start := 4095, pages := 1 }).setRecorder 3
      { Recorder.free with binding := .cart 5, source := .lane 15, position := 65535, limit := 65536 }
    (s.rig.recorder 3).binding = .cart 5 ∧
      (s.rig.cart 5).start * 65536 + (s.rig.recorder 3).position = 268435455 ∧
      (s.rig.recorder 3).limit ≤ (s.rig.recorder 3).position + 1 ∧
      (State.reset.rig.recorder 0).binding = .free := by decide

theorem witness_AlertRecordingFrameEndsAtItsLength :
    let s := recordingAlert 9 10 .confirm
    s.rig.alertLaw ∧ (s.rig.recorder 1).binding = .alert 3 ∧ (s.rig.recorder 1).source = .lane 2 ∧
      (s.rig.library.alertRegion.start + 3 * (s.rig.library.alertRegion.pages / 16)) * 65536 + 9 < 268435456 ∧
      (s.rig.record 3).declaredLength ≤ 9 + 1 ∧
      s.clock.seconds < (s.rig.record 3).validUntil ∧ (s.rig.record 3).confirmedEarly = false ∧
      9 + 2 < ((recordingAlert 9 12 .auto).rig.record 3).declaredLength ∧
      ((recordingAlert 1048575 2000000 .auto).rig.recorder 1).limit ≤ 1048575 + 1 ∧
      (s.rig.record 3).validUntilReached = false ∧ reachedAlert.rig.alertLaw ∧
      (reachedAlert.rig.record 3).validUntilReached = true ∧ (reachedAlert.rig.record 3).declaredLength ≤ 9 + 1 :=
  ⟨recordingAlert_law.2, by decide, by decide, by decide, by decide, by decide, by decide, by decide, by decide,
    by decide, reachedAlert_law, by decide, by decide⟩

/-- A delay in a state, over a region of one page so that C is 32,768. -/
def delayed (state : DelayState) (length : Int) : State :=
  rigged fun r => { r with
    library := { r.library with delayRegion := { start := 0, pages := 1 } }
    delay := { Delay.reset with
      state := state, written := 1000000, readPos := 4096000000 - length, target := 5000, dumpLength := 5000
      prior := if state = .held then some .steady else none } }

def heldDelay : Delay := (delayed .held 20480000).rig.delay

/-- Record 3 on air over a HELD delay, with record 4 queued or not. -/
def airing (next : AlertRecord) (delay : Delay) : State :=
  rigged fun r => { r with
    library := { r.library with delayRegion := { start := 0, pages := 1 } }
    delay := delay
    airSwitch := { r.airSwitch with owner := .alert, runFlag := true }
    alerts := { r.alerts with
      airing := some 3
      records := vset (vset r.alerts.records 3 { AlertRecord.free with
        state := .airing, originator := 4, identity := 2500, severity := 1, validUntil := 600 }) 4 next } }

/-- Deck A playing `source` with record 3 on air, in a part of its run, over an alert region of 16 pages. -/
def deckAOnAir (source : DeckSource) (part : Part) (position : Nat) (next : AlertRecord) : State :=
  (airing next heldDelay).onRig fun r =>
    { r.setDeck deckA { Deck.reset with
        state := .playing, source := source, playEnd := 9, position := position, gain := 16384 } with
      library := { r.library with
        alertRegion := { start := 4080, pages := 16 }
        carts := vset r.library.carts 30 { Cart.empty with
          state := .ready, start := 100, pages := 1, cls := .service, length := 9, cueOut := 9 } }
      alerts := { r.alerts with
        part := part
        records := vset r.alerts.records 3 { r.record 3 with leadOut := some 30, recordedLength := 9 } } }

theorem witness_DeckFramePlaysOneFrameOrSilence :
    let s := fading 2879952 0 .playing
    (s.rig.deck 0).state = .playing ∧ (s.rig.deck 0).source = .cart 30 ∧
      (s.rig.deck 0).position + 1 < (s.rig.deck 0).playEnd ∧
      (s.rig.deck 0).playEnd - (s.rig.deck 0).position ≤ (s.rig.deck 0).fadeLength ∧
      1 < (s.rig.deck 0).playEnd - (s.rig.deck 0).position ∧
      (s.rig.deck 0).position + 1 < 2880000 ∧ 2 * (s.rig.deck 0).position + 1 < 268435456 ∧
      (State.reset.rig.deck 5).state = .empty ∧
      ((rigged (·.setDeck 4 { Deck.reset with state := .loading, loadAge := 958 })).rig.deck 4).loadAge + 1 < 960 ∧
      ((rigged (·.setDeck 4 { Deck.reset with state := .loading, loadAge := 959 })).rig.deck 4).state = .loading ∧
      960 ≤ ((rigged (·.setDeck 4 { Deck.reset with state := .loading, loadAge := 959 })).rig.deck 4).loadAge + 1 ∧
      (let a := deckAOnAir (.slot 3) .slot 7 .free
       (a.rig.deck deckA).state = .playing ∧ (a.rig.deck deckA).source = .slot 3 ∧
        (a.rig.deck deckA).form = .mono ∧ (a.rig.deck deckA).position + 1 < (a.rig.deck deckA).playEnd ∧
        (a.rig.deck deckA).seguePoint = none ∧
        (a.rig.library.alertRegion.start + 3 * (a.rig.library.alertRegion.pages / 16)) * 65536 + 7 < 268435456) := by
  decide

theorem witness_PlayEndAndFadeEndFinishTheDeck :
    let s := fading 2879999 0 .playing
    let f := fading 1000 1 .fading
    (s.rig.deck 0).source = .cart 30 ∧ (s.rig.deck 0).playEnd ≤ (s.rig.deck 0).position + 1 ∧
      (s.rig.deck 0).state = .playing ∧ (f.rig.deck 0).state = .fading ∧
      (f.rig.deck 0).position < (f.rig.deck 0).playEnd ∧ (f.rig.deck 0).fadeRemaining = 1 ∧
      0 < (s.rig.deck 0).fadeLength ∧ (s.rig.deck 0).position < (s.rig.deck 0).playEnd ∧
      (s.rig.deck 0).segueSent = false ∧ (s.rig.deck 0).seguePoint = some 2880000 ∧
      2880000 ≤ max (s.rig.deck 0).position (s.rig.deck 0).playEnd ∧ ¬ 2880000 ≤ (f.rig.deck 0).position + 1 ∧
      (∀ x ∈ s.rig.order.entries, x.state = .assigned → x.deck ≠ some 0) ∧
      (let g := f.onRig fun r => r.setDeck 0 { r.deck 0 with seguePoint := some 1001 }
       (g.rig.deck 0).fadeRemaining = 1 ∧ (g.rig.deck 0).segueSent = false ∧
        1001 ≤ (g.rig.deck 0).position + 1) ∧
      (let l := rigged (·.setDeck deckF { Deck.reset with
          state := .playing, source := .cart 30, playEnd := 9, position := 8 })
       (l.rig.deck deckF).cueIn < (l.rig.deck deckF).playEnd ∧
        (l.rig.deck deckF).position + 1 = (l.rig.deck deckF).playEnd ∧
        (l.rig.deck deckF).seguePoint = none) ∧
      (∀ part ∈ [Part.leadIn, .slot, .leadOut],
        let a := deckAOnAir (if part = .slot then .slot 3 else .cart 30) part 8 .free
        a.rig.alerts.airing = some 3 ∧ a.rig.alerts.part = part ∧ (a.rig.deck deckA).state = .playing ∧
        (a.rig.deck deckA).seguePoint = none ∧
        (a.rig.deck deckA).playEnd ≤ (a.rig.deck deckA).position + 1 ∧ (4083 * 65536 + 2 * 8 + 1 < 268435456) ∧
        (a.rig.record 3).leadOut = some 30 ∧ (a.rig.cart 30).state = .ready ∧ (a.rig.cart 30).cls = .service ∧
        ∀ j : RecordId, j ≠ 3 → (a.rig.record j).state ≠ .queued) := by decide

/-- R63, R66, R85: at the last frame of its fade deck P0, whose segue point lies ahead, releases, and so does a deck
whose automatic fade of one frame begins and ends there. -/
theorem test_fadeEnd :
    let s := (fading 1000 1 .fading).onRig fun r =>
      { r with order := { r.order with entries := [entry 40 .manual .airing (some 0) 1] } }
    let t := after (.fadeEnd 0) s
    (t.rig.deck 0).state = .empty ∧ t.rig.order.entries = [] ∧ t.rig.egress.queue =
        [.report (.deckEnded 0 (.cart 30) .played), .report (.entryPlayed 40 0)] ∧
      ((after (.fadeEnd 0) (fading 2879999 0 .playing)).rig.deck 0).state = .empty := by decide

theorem witness_SegueEventIsSentOnceAtTheSeguePoint :
    let k : Deck := { Deck.reset with
      state := .playing, source := .cart 30, playEnd := 900, position := 7, seguePoint := some 8 }
    k.fadeLength = 0 ∧ k.position + 1 < k.playEnd ∧ k.segueSent = false ∧ k.seguePoint = some (k.position + 1) ∧
      ({ k with segueSent := true } : Deck).segueSent = true ∧
      1 < ({ k with state := .fading, fadeRemaining := 2 } : Deck).fadeRemaining ∧
      ({ k with position := 899, seguePoint := some 900 } : Deck).position + 1 = k.playEnd := by decide

/-- A LOADING deck, and an order whose first non-airing entry stands on it. -/
def loading (d : DeckId) (age : Nat) (mode : StartMode) : State :=
  schedule [(d, { playing .loading 42 0 with loadAge := age })] [entry 42 mode .assigned (some d) 0]

/-- R59: the read-ahead completes at the 960th frame event after LOAD at the latest. -/
theorem test_deckFrame_960th :
    ((after (.deckFrame 0) (loading 0 959 .manual)).rig.deck 0).state = .cued ∧
      ((after (.deckFrame 0) (loading 0 958 .manual)).rig.deck 0).state = .loading := by decide

theorem witness_PrefetchCompleteCuesTheDeck :
    ((loading 0 0 .segue).rig.deck 0).loadAge = 0 ∧ ((loading 0 1 .segue).rig.deck 0).state = .loading ∧
      1 ≤ ((loading 0 1 .segue).rig.deck 0).loadAge ∧ (loading 0 1 .segue).rig.deferred = false ∧
      firstNonAiring (loading 0 1 .segue).rig.order.entries = some (entry 42 .segue .assigned (some 0) 0) ∧
      dueIn (loading 0 1 .segue).rig.order.entries (entry 42 .segue .assigned (some 0) 0) = true ∧
      dueIn (loading 0 1 .manual).rig.order.entries (entry 42 .manual .assigned (some 0) 0) = false ∧
      ((loading 0 1 .segue).onRig fun r => { r with order := { r.order with hold := true } }).rig.deferred = true ∧
      ((loading 0 1 .manual).rig.deck 0).state = .loading ∧
      ((loading deckF 1 .manual).rig.deck deckF).state = .loading ∧
      State.reset.rig.airSwitch.usesFallback = false ∧
      ({ AirSwitch.reset with outgoing := some .fallback } : AirSwitch).usesFallback = true ∧
      (programDecks.filter fun b => ((loading 0 1 .segue).rig.deck b).audible).length < 2 ∧
      (let s := schedule [(0, playing .playing 40 8), (1, playing .fading 41 9),
          (2, { playing .loading 42 0 with loadAge := 1 })]
          [entry 40 .manual .airing (some 0) 6, { entry 41 .manual .airing (some 1) 7 with seguePassed := true },
           entry 42 .segue .assigned (some 2) 0]
       s.rig.deferred = false ∧ dueIn s.rig.order.entries (entry 42 .segue .assigned (some 2) 0) = true ∧
        firstNonAiring s.rig.order.entries = some (entry 42 .segue .assigned (some 2) 0) ∧
        (s.rig.deck 2).state = .loading ∧ s.rig.cutFirst 0) := by
  unfold Rig.cutFirst
  decide

/-- A deck paused for an alert, and two decks on air with a paused third. -/
theorem witness_DeckRequestsFollowTheLegalityTable :
    (∃ x : DeckId, x.val < 4 ∧ ((rigged (·.setDeck 3 { Deck.reset with
      state := .paused, pausedForAlert := true })).rig.deck x).pausedForAlert = true) ∧
      (let s := schedule [(0, playing .playing 40 8), (3, { playing .paused 43 7 with prior := some .fading })] []
       (s.rig.deck 3).state = .paused ∧ (∀ x : DeckId, x.val < 4 → (s.rig.deck x).pausedForAlert = false) ∧
        (programDecks.filter fun x => (s.rig.deck x).audible).length < 2 ∧
        (s.rig.deck 0).state = .playing ∧ (s.rig.deck 0).position < (s.rig.deck 0).playEnd ∧
        (s.rig.deck 1).state ≠ .cued ∧ (s.rig.deck 1).state ≠ .paused) ∧
      (thirdStart.rig.deck 1).state = .fading ∧ (thirdStart.rig.deck 2).state = .cued ∧
      (let s := schedule [(0, playing .playing 40 4294967295), (1, playing .fading 41 0),
         (3, { playing .paused 43 7 with prior := some .playing })]
         [entry 40 .manual .airing (some 0) 6, entry 41 .manual .airing (some 1) 7]
       (s.rig.deck 3).state = .paused ∧ (∀ x : DeckId, x.val < 4 → (s.rig.deck x).pausedForAlert = false) ∧
        s.rig.cutFirst 0) := by
  unfold Rig.cutFirst
  decide

theorem witness_OrderRequestsEditTheList :
    thirdStart.rig.egress.secure 1 = some made ∧ thirdStart.rig.order.law ∧
      (∀ x ∈ thirdStart.rig.order.entries, x.tag ≠ 65535) ∧
      entry 40 .manual .airing (some 0) 6 ∈ thirdStart.rig.order.entries ∧
      entry 42 .manual .assigned (some 2) 0 ∈ thirdStart.rig.order.entries ∧
      entry 104 .manual .waiting none 0 ∈ topOfTheHour.rig.order.entries ∧ topOfTheHour.rig.order.law :=
  ⟨by decide, thirdStart_orderLaw, by decide, by decide, by decide, by decide, topOfTheHour_orderLaw⟩

/-- The entries of a list that arranging works on: one AIRING, and two WAITING. -/
def onAir : List Entry := [entry 1 .segue .airing (some 0) 7]
def twoWaiting : List Entry := [entry 3 .segue .waiting none 0, entry 4 .segue .waiting none 0]

def toArrange (decks : List (DeckId × Deck)) (entries : List Entry) : Rig :=
  (schedule ((0, playing .playing 1 8) :: decks) entries).rig

/-- Arranging that assigns nothing, one entry or two, and that displaces one entry or all that is ASSIGNED. -/
theorem witness_OrderRequestsEditTheList_arrange :
    let pre := [entry 2 .segue .assigned (some 1) 0]
    let one := toArrange [(1, playing .cued 2 0)] (onAir ++ pre ++ twoWaiting)
    let both := toArrange [] (onAir ++ [] ++ twoWaiting)
    let last := entry 5 .segue .assigned (some 3) 0
    let moved := toArrange [(1, playing .cued 2 0), (3, playing .cued 5 0)]
      (onAir ++ pre ++ entry 3 .segue .waiting none 0 :: [] ++ last :: [])
    let full := toArrange [(1, playing .fading 9 0), (2, playing .paused 8 0), (3, playing .cued 5 0)]
      (onAir ++ [] ++ entry 3 .segue .waiting none 0 :: [] ++ last :: [])
    (∀ y ∈ onAir, y.state = .airing) ∧ (∀ y ∈ pre, y.state = .assigned) ∧
      (∀ y ∈ twoWaiting, y.state = .waiting ∧ (one.cart y.cart).state = .ready ∧
        (one.cart y.cart).cls = .program) ∧
      one.lowestEmpty 2 ∧ pre.length = 1 ∧ both.lowestEmpty 1 ∧
      (both.given (entry 3 .segue .waiting none 0) 1).lowestEmpty 2 ∧
      pre.length + ([] : List Entry).length = 1 ∧ (moved.displaced last 3).lowestEmpty 2 ∧
      (∀ j : DeckId, j.val < 4 → (full.deck j).state ≠ .empty) ∧ (full.displaced last 3).lowestEmpty 3 := by
  unfold Rig.lowestEmpty
  decide

theorem toArrange_orderLaw :
    (toArrange [(1, playing .cued 2 0)] (onAir ++ [entry 2 .segue .assigned (some 1) 0] ++ twoWaiting)).order.law ∧
      (toArrange [] (onAir ++ [] ++ twoWaiting)).order.law ∧
      (toArrange [(1, playing .cued 2 0), (3, playing .cued 5 0)] (onAir ++ [entry 2 .segue .assigned (some 1) 0] ++
        entry 3 .segue .waiting none 0 :: [] ++ entry 5 .segue .assigned (some 3) 0 :: [])).order.law := by
  unfold Order.law
  decide +kernel

/-- R88: the removal unloads deck 2, which the first WAITING entry takes before the start that it makes due cuts
deck 0. -/
theorem test_orderRemove_assignsFirst :
    let t := after (.orderRemove 0 50) (schedule
      [(0, playing .playing 40 8), (1, playing .fading 41 9), (2, playing .cued 50 0), (3, playing .cued 42 0)]
      [entry 40 .segue .airing (some 0) 6, { entry 41 .segue .airing (some 1) 7 with seguePassed := true },
       entry 50 .manual .assigned (some 2) 0, entry 42 .segue .assigned (some 3) 0,
       entry 43 .segue .waiting none 0, entry 44 .segue .waiting none 0])
    (t.rig.deck 3).state = .playing ∧ (t.rig.deck 2).entryTag = 43 ∧ (t.rig.deck 0).entryTag = 44 := by
  decide +kernel

/-- One deck on air past its segue point, the first non-airing entry on deck 1, and behind it a TIMED entry whose time
has passed CUED on deck 2. -/
def startAhead (first : DeckState) : State :=
  schedule [(0, playing .playing 40 8), (1, { playing first 42 0 with loadAge := 1 }), (2, playing .cued 43 0)]
    [{ entry 40 .manual .airing (some 0) 6 with seguePassed := true }, entry 42 .segue .assigned (some 1) 0,
     { entry 43 .timed .assigned (some 2) 0 with startTime := some 0, timeReached := true },
     entry 44 .segue .waiting none 0, entry 45 .segue .waiting none 0]

/-- R80: at a start by request and at a prefetch completion, assignment gives deck 3 to the first WAITING entry before
the TIMED entry, due behind the one that started, starts and cuts deck 0. -/
theorem test_start_assignsBeforeTheNextStart :
    ∀ t ∈ [after (.orderNext 0) (startAhead .cued), after (.deckStart 0 1) (startAhead .cued),
        after (.prefetchComplete 1) (startAhead .loading)],
      (t.rig.deck 1).state = .playing ∧ (t.rig.deck 2).state = .playing ∧
        (t.rig.deck 3).entryTag = 44 ∧ (t.rig.deck 0).entryTag = 45 := by
  decide +kernel

/-- One deck on air and the first non-airing entry CUED on the next. -/
def oneOnAir : State :=
  schedule [(0, playing .playing 40 8), (2, playing .cued 42 0)]
    [entry 40 .manual .airing (some 0) 6, entry 42 .manual .assigned (some 2) 0]

theorem oneOnAir_orderLaw : oneOnAir.rig.order.law := by
  unfold Order.law
  decide +kernel

theorem witness_StartRequestsStartTheFirstEntry :
    oneOnAir.rig.egress.secure 1 = some made ∧ oneOnAir.rig.order.law ∧
      (¬ ∃ d : DeckId, d.val < 4 ∧ (oneOnAir.rig.deck d).pausedForAlert = true) ∧
      (oneOnAir.rig.order.entries.find? fun x => x.state != .airing) =
        some (entry 42 .manual .assigned (some 2) 0) ∧
      (oneOnAir.rig.deck 2).state = .cued ∧
      (programDecks.filter fun b => (oneOnAir.rig.deck b).audible).length < 2 ∧
      (∀ x, some (entry 42 .manual .assigned (some 2) 0) = some x → x.deck ≠ some 3) ∧
      (State.reset.rig.order.entries.find? fun x => x.state != .airing) = none ∧
      ((loading 0 1 .manual).rig.deck 0).state ≠ .cued ∧
      thirdStart.rig.order.law ∧ thirdStart.rig.cutFirst 0 ∧ (thirdStart.rig.deck 2).state = .cued ∧
      (thirdStart.rig.order.entries.find? fun x => x.state != .airing) =
        some (entry 42 .manual .assigned (some 2) 0) :=
  ⟨by decide, oneOnAir_orderLaw, by decide, by decide, by decide, by decide,
    fun x h => by cases h; decide, by decide, by decide, thirdStart_orderLaw,
    by unfold Rig.cutFirst; decide, by decide, by decide⟩

/-- Two decks on air, the leader past its segue point, and a SEGUE entry CUED on deck 2. -/
def segueDue : State :=
  schedule [(0, playing .playing 40 8), (1, playing .fading 41 9), (2, playing .cued 42 0)]
    [entry 40 .manual .airing (some 0) 6, { entry 41 .manual .airing (some 1) 7 with seguePassed := true },
     entry 42 .segue .assigned (some 2) 0]

/-- A TIMED entry whose skip is pending behind an entry that will be skipped. -/
def skipDue : State :=
  schedule [(0, playing .playing 40 8), (1, playing .cued 41 0), (2, playing .cued 42 0)]
    [entry 40 .manual .airing (some 0) 6, entry 41 .manual .assigned (some 1) 0,
     { entry 42 .timed .assigned (some 2) 0 with
        startTime := some 5, timeReached := true, skipPending := true }]

theorem segueDue_orderLaw : segueDue.rig.order.law ∧ skipDue.rig.order.law := by
  unfold Order.law
  decide +kernel

/-- What settles by itself: nothing, under HOLD and with a MANUAL entry first; a SEGUE start, alone and with a cut;
and a skip. -/
theorem witness_StartRequestsStartTheFirstEntry_settle :
    let x := entry 42 .segue .assigned (some 2) 0
    let lone := schedule [(2, playing .cued 42 0)] [x]
    let held := segueDue.onRig fun r => { r with order := { r.order with hold := true } }
    leader segueDue.rig.order.entries = some { entry 41 .manual .airing (some 1) 7 with seguePassed := true } ∧
      leader lone.rig.order.entries = none ∧ held.rig.heldBack ∧
      (∀ y ∈ oneOnAir.rig.order.entries, y.skipPending = false) ∧
      firstNonAiring oneOnAir.rig.order.entries = some (entry 42 .manual .assigned (some 2) 0) ∧
      ¬ segueDue.rig.heldBack ∧ segueDue.rig.isDue x ∧ segueDue.rig.cutFirst 0 ∧
      lone.rig.isDue x ∧ (programDecks.filter fun b => (lone.rig.deck b).audible).length < 2 ∧
      ¬ skipDue.rig.heldBack ∧
      (∀ d : DeckId, d.val < 4 → (skipDue.rig.deck d).state = .playing →
        (skipDue.rig.deck d).position < (skipDue.rig.deck d).playEnd) := by
  refine ⟨by decide, by decide, Or.inl rfl, by decide, by decide, ?_, ⟨by decide, Or.inr ⟨_, rfl, rfl⟩⟩, ?_,
    ⟨by decide, Or.inl rfl⟩, by decide, ?_, by decide⟩
  · unfold Rig.heldBack
    decide
  · unfold Rig.cutFirst
    decide
  · unfold Rig.heldBack
    decide

theorem witness_PhoneMessagesMoveOneLine :
    State.reset.rig.egress.secure 1 = some made ∧ (phoneIn.line 1).state ≠ .idle ∧
      (phoneIn.line 1).callRef = 1 ∧ (phoneIn.line 0).state = .idle ∧
      (phoneIn.line 3).state ≠ .idle ∧ (phoneIn.line 3).state ≠ .onAir := by decide

/-- The delay long enough to be safe, one line in HOLD and room on air. -/
def takeable : State :=
  { (steady.setLine 4 { Line.reset with state := .hold, callRef := 9, inLane := some 11 }) with
    callers := { (steady.setLine 4 { Line.reset with state := .hold, callRef := 9, inLane := some 11 }).callers with
      queue := [4] } }

theorem witness_ConsoleCallRequestsMoveOneLine :
    takeable.rig.egress.secure 1 = some made ∧ takeable.rig.egress.secure 2 = some madeTwo ∧
      (takeable.line 4).state = .hold ∧ takeable.callers.queue.head? = some 4 ∧
      takeable.callers.onAirCount < takeable.callers.limit ∧ takeable.rig.airSwitch.owner ≠ .alert ∧
      takeable.rig.delay.safe = true ∧ takeable.rig.delay.state ≠ .exit ∧
      State.reset.rig.delay.safe = false ∧ (phoneIn.line 1).state = .onAir ∧
      (phoneIn.line 0).state = .idle ∧ (phoneIn.line 3).state ≠ .idle ∧
      (phoneIn.line 3).state ≠ .onAir := by decide

theorem witness_CallSetupSetsTheGivenSettings :
    let s := State.reset.setLine 3 { Line.reset with state := .onAir, callRef := 9, inLane := some 11 }
    let checks := fun (limit gain : Option Nat) (items : List LineFields) => firstRefusal
      [(limit = none ∧ gain = none ∧ items = [], .range),
       (limit.any (fun n => n < 1 ∨ 3 < n) = true ∨ gain.any (fun n => 65535 < n) = true, .range),
       (6 < items.length ∨ (∃ i ∈ items, 6 ≤ i.line ∨ 65535 < i.returnGain ∨
         16 ≤ i.inLane ∧ i.inLane ≠ 1073741823) ∨ ¬ (items.map LineFields.line).Nodup, .range),
       (∃ i ∈ items, ∃ k : LineId, k.val = i.line ∧ (s.line k).state ≠ .idle ∧
         (s.line k).inLane ≠ index? 16 i.inLane, .state),
       (limit.any (fun n => n < s.callers.onAirCount) = true, Status.busy)]
    checks none none [] = some .range ∧ checks (some 4) none [] = some .range ∧
      checks none none [⟨3, 12, 0⟩] = some .state ∧ checks (some 1) (some 65535) [⟨3, 11, 65535⟩] = none ∧
      checks none none [⟨5, 1073741823, 0⟩] = none := by decide

/-- A quiet fault and an overload fault of L1 handed over. -/
theorem witness_LineEventsDropMuteAndTimeOut :
    let s := phoneIn.onRig fun r => { r with monitors := { r.monitors with
      lineNotices := [.quietFault 1, .quietFault 0, .overloadFault 1] } }
    .quietFault 1 ∈ s.rig.monitors.lineNotices ∧ (s.line 1).state = .onAir ∧
      .quietFault 0 ∈ s.rig.monitors.lineNotices ∧ (s.line 0).state ≠ .onAir ∧
      s.rig.monitors.lineNotices.find? (fun n => match n with | .quietFault _ => false | _ => true) =
        some (.overloadFault 1) ∧
      ((answering 1 0).line 0).state = .answering ∧ ((answering 1 0).line 0).answerTimer ≤ 1 ∧
      1 < ((answering 2 0).line 0).answerTimer := by decide

theorem delayed_law : (delayed .steady 20480000).rig.delayLaw ∧ (delayed .build 20480000).rig.delayLaw ∧
    (delayed .catchup 20480001).rig.delayLaw ∧ (delayed .exit 4224).rig.delayLaw ∧
    (delayed .held 134217728).rig.delayLaw ∧ State.reset.rig.delayLaw := by
  refine ⟨?_, ?_, ?_, ?_, ?_, ?_⟩ <;> (unfold Rig.delayLaw; decide)

/-- R129: the frame event that reaches BYPASS advances the old path by its limited step, which is D itself (R121). -/
theorem test_bypassReached_movesTheOldPath :
    let s := (delayed .exit 4200).onRig fun r => { r with delay := { r.delay with crossfade := 5, oldReadPos := 700 } }
    let d := (after .bypassReached s).rig.delay
    d.state = .bypass ∧ d.crossfade = 0 ∧ d.oldReadPos = 4900 ∧ d.length = 0 ∧ s.rig.delayLaw := by
  unfold Rig.delayLaw
  decide

/-- The delay at the ends of its states: landing, leaving for BYPASS, and full in HELD. -/
theorem witness_DelayFrameMovesTheDelayByItsState :
    State.reset.rig.delayLaw ∧ (delayed .steady 20480000).rig.delayLaw ∧
      (delayed .build 20480000).rig.delayLaw ∧ (delayed .catchup 20480001).rig.delayLaw ∧
      (delayed .exit 4224).rig.delayLaw ∧ (delayed .held 134217728).rig.delayLaw ∧
      (delayed .exit 4224).rig.delay.length ≤ 4096 + (delayed .exit 4224).rig.delay.catchupSlip ∧
      (32768 : Int) < (delayed .held 134217728).rig.delay.written + 1 -
        (delayed .held 134217728).rig.delay.readPos / 4096 ∧
      (delayed .steady 20480000).rig.library.delayRegion.start +
        (delayed .steady 20480000).rig.library.delayRegion.pages ≤ 4096 := by
  obtain ⟨h₁, h₂, h₃, h₄, h₅, h₆⟩ := delayed_law
  exact ⟨h₆, h₁, h₂, h₃, h₄, h₅, by decide, by decide, by decide⟩

/-- Notices at the ends of their ranges: one that nothing matches, one that filter 23 takes. -/
theorem witness_NoticeIntakeEndsAtTheFirstStepThatSettles :
    let f : NoticeFields := ⟨15, 0, 63, 3, 0, 60, 15, 1, [65535]⟩
    let region := rigged fun r => { r with library := { r.library with alertRegion := { start := 0, pages := 16 } } }
    let s := region.onRig fun r => { r with alerts := { r.alerts with
      filters := vset r.alerts.filters 23 { Filter.unused with
        inUse := true, eventClass := some 63, minSeverity := 3, areas := [65535], confirmWindow := 10 } } }
    1 ≤ f.originator ∧ f.originator ≤ 15 ∧ f.areas ≠ [] ∧ f.areas.length ≤ 8 ∧ f.audioLane < 16 ∧
      f.declaredLength ≠ 0 ∧ (f.originator, f.identity) ∉ s.rig.alerts.recent ∧
      (∀ i : RecordId, (s.rig.record i).state = .free) ∧
      (s.rig.alerts.filters[(23 : Fin 24)]).inUse = true ∧
      (∀ j < (23 : Fin 24), (s.rig.alerts.filters[j]).inUse = false) ∧
      (s.rig.recorder 0).binding = .free ∧ s.rig.library.alertRegion.pages ≠ 0 ∧
      s.clock.timeValid = false ∧ (State.reset.rig.library.alertRegion.pages = 0) ∧
      (∀ i : Fin 24, (State.reset.rig.alerts.filters[i]).inUse = false) := by decide

/-- Every record finished, record 7 with the smallest arrival number, and every recorder bound to a cart, recorder 2
last: the claim of a notice takes record 7 and recorder 2. -/
def crowded : State :=
  rigged fun r => { r with
    library := { r.library with
      alertRegion := { start := 0, pages := 16 }
      lastGrant := 1
      recorders := vtable 4 fun k =>
        { binding := .cart ⟨k.val, by omega⟩, source := .lane 0, position := 5, limit := 9
          grantOrder := if k = 2 then 1 else 4294967290 + k.val } }
    alerts := { r.alerts with
      records := vtable 16 fun i => { AlertRecord.free with
        state := .aired, originator := 9, identity := i.val, arrival := if i = 7 then 4294967295 else i.val + 1 } } }

theorem witness_NoticeIntakeEndsAtTheFirstStepThatSettles_crowded :
    crowded.rig.egress.secure 1 = some made ∧
      (∀ j : RecordId, (crowded.rig.record j).state ≠ .free) ∧ (crowded.rig.record 7).live = false ∧
      (∀ j : RecordId, j ≠ 7 → (crowded.rig.record j).live = false →
        serialGreater (crowded.rig.record j).arrival (crowded.rig.record 7).arrival = true) ∧
      crowded.rig.library.alertRegion.pages ≠ 0 ∧ (crowded.rig.recorder 2).binding = .cart 2 ∧
      (∀ j : RecorderId, (crowded.rig.recorder j).binding ≠ .free) ∧
      (∀ j : RecorderId, j ≠ 2 → serialGreater (crowded.rig.recorder 2).grantOrder
        (crowded.rig.recorder j).grantOrder = true) := by decide

theorem waiting_law : (waiting .awaiting 600 none .air).rig.alertLaw ∧
    (waiting .aired 0 none .air).rig.alertLaw := by
  constructor <;> (unfold Rig.alertLaw; decide +kernel)

theorem witness_AlertRequestsMoveTheirRecord :
    let s := recordingAlert 9 10 .confirm
    let w := waiting .awaiting 600 none .air
    s.rig.egress.secure 1 = some made ∧ s.rig.alertLaw ∧ (s.rig.record 3).state = .recording ∧
      (s.rig.record 3).originator ≤ 15 ∧
      (∀ j < (3 : RecordId), (s.rig.record j).state ≠ .free → (s.rig.record j).originator = 4 →
        (s.rig.record j).identity ≠ 2500) ∧
      (s.rig.record 0).state = .free ∧ s.clock.seconds < (s.rig.record 3).validUntil ∧
      w.rig.alertLaw ∧ (w.rig.record 3).state = .awaiting ∧ (w.rig.record 3).live = true ∧
      (waiting .aired 0 none .air).rig.alertLaw ∧ ((waiting .aired 0 none .air).rig.record 3).live = false ∧
      reachedAlert.rig.alertLaw ∧ (reachedAlert.rig.record 3).state = .recording ∧
      (reachedAlert.rig.record 3).validUntilReached = true := by
  exact ⟨by decide, recordingAlert_law.2, by decide, by decide, by decide, by decide, by decide,
    waiting_law.1, by decide, by decide, waiting_law.2, by decide, reachedAlert_law, by decide, by decide⟩

def next : AlertRecord :=
  { AlertRecord.free with
    state := .queued, originator := 5, identity := 9, severity := 3, validUntil := 600, queueEntry := 1 }

/-- An alert AWAITING over a delay in STEADY. -/
def awaitingOverSteady : State :=
  (waiting .awaiting 600 none .air).onRig fun r => { r with
    library := (delayed .steady 20480000).rig.library, delay := (delayed .steady 20480000).rig.delay }

theorem awaitingOverSteady_law : awaitingOverSteady.rig.alertLaw ∧ awaitingOverSteady.rig.ownerLaw ∧
    awaitingOverSteady.rig.delayLaw := by
  refine ⟨?_, ?_, ?_⟩
  · unfold Rig.alertLaw
    decide +kernel
  · unfold Rig.ownerLaw
    decide
  · unfold Rig.delayLaw
    decide

theorem airing_law : (airing .free heldDelay).rig.alertLaw ∧ (airing .free heldDelay).rig.ownerLaw ∧
    (airing .free heldDelay).rig.delayLaw ∧ (airing next heldDelay).rig.alertLaw ∧
    (airing next heldDelay).rig.ownerLaw ∧ (waiting .awaiting 600 none .air).rig.delayLaw := by
  refine ⟨?_, ?_, ?_, ?_, ?_, ?_⟩
  · unfold Rig.alertLaw
    decide +kernel
  · unfold Rig.ownerLaw
    decide
  · unfold Rig.delayLaw
    decide
  · unfold Rig.alertLaw
    decide +kernel
  · unfold Rig.ownerLaw
    decide
  · unfold Rig.delayLaw
    decide

/-- A run that begins over a delay and over BYPASS, one that ends, and one that goes on with record 4. -/
theorem witness_AnAlertRunTakesTheAirAndGivesItBack :
    awaitingOverSteady.rig.egress.secure 1 = some made ∧ (awaitingOverSteady.rig.record 3).state = .awaiting ∧
      awaitingOverSteady.rig.alerts.airing = none ∧ awaitingOverSteady.rig.delay.state = .steady ∧
      (waiting .awaiting 600 none .air).rig.delay.state = .bypass ∧
      ((airing .free heldDelay).rig.record 3).state = .airing ∧
      (∀ j : RecordId, ((airing .free heldDelay).rig.record j).state ≠ .queued) ∧
      ((airing next heldDelay).rig.record 4).state = .queued ∧
      (∀ m : RecordId, ((airing next heldDelay).rig.record m).state = .queued → m ≠ 4 →
        ((airing next heldDelay).rig.record m).severity < ((airing next heldDelay).rig.record 4).severity) := by
  decide

/-- A run over BYPASS: deck 0 paused while it faded, deck 1 while it played, deck 1 the earlier on air if it is there. -/
def pausedRun (two : Bool) : State :=
  (airing .free Delay.reset).onRig fun r => { r with
    alerts := { r.alerts with decksPaused := true }
    decks :=
      { decks := vset (vset r.decks.decks 0 { playing .paused 40 9 with pausedForAlert := true, prior := some .fading })
          1 (if two then { playing .paused 41 8 with pausedForAlert := true, prior := some .playing } else .reset)
        lastAudible := 9 }
    order := { entries := [entry 40 .manual .airing (some 0) 6], hold := false, lastStart := 7 } }

theorem pausedRun_law (two : Bool) : (pausedRun two).rig.alertLaw ∧ (pausedRun two).rig.ownerLaw ∧
    (pausedRun two).rig.delayLaw := by
  refine ⟨?_, ?_, ?_⟩
  · unfold Rig.alertLaw
    cases two <;> decide +kernel
  · unfold Rig.ownerLaw
    cases two <;> decide
  · unfold Rig.delayLaw
    cases two <;> decide

/-- The end of a run wakes one deck, or two in increasing audible order; of two queued alerts of equal severity the
one queued first airs. -/
theorem witness_AnAlertRunTakesTheAirAndGivesItBack_wakes :
    let asleep := fun (s : State) (k : DeckId) => (s.rig.deck k).state = .paused ∧ (s.rig.deck k).pausedForAlert = true
    let one := pausedRun false
    let two := pausedRun true
    let tied := (airing next heldDelay).onRig fun r => { r with alerts := { r.alerts with
      records := vset r.alerts.records 5 { next with identity := 10, queueEntry := 2 } } }
    one.rig.egress.secure 1 = some made ∧ (one.rig.record 3).state = .airing ∧
      (∀ j : RecordId, (one.rig.record j).state ≠ .queued) ∧ one.rig.alerts.decksPaused = true ∧
      (∀ x ∈ one.rig.order.entries, x.state ≠ .assigned ∧ x.skipPending = false) ∧
      firstNonAiring one.rig.order.entries = none ∧ asleep one 0 ∧
      (∀ m : DeckId, m.val < 4 → asleep one m → m = 0) ∧
      (programDecks.filter fun m => (one.rig.deck m).audible).length < 2 ∧
      asleep two 0 ∧ asleep two 1 ∧
      serialGreater (two.rig.deck 0).audibleOrder (two.rig.deck 1).audibleOrder = true ∧
      (∀ n : DeckId, n.val < 4 → asleep two n → n = 1 ∨ n = 0) ∧
      (∀ n : DeckId, n.val < 4 → (two.rig.deck n).audible = false) ∧
      (tied.rig.record 3).state = .airing ∧ (tied.rig.record 4).state = .queued ∧
      (tied.rig.record 5).state = .queued ∧
      (∀ m : RecordId, (tied.rig.record m).state = .queued → m ≠ 4 →
        (tied.rig.record m).severity = (tied.rig.record 4).severity ∧
          serialGreater (tied.rig.record m).queueEntry (tied.rig.record 4).queueEntry = true) := by
  decide

/-- R68: the deck paused while it faded fades on, with its fade where it stood. -/
theorem test_alertAbort_wakes :
    let t := after (.alertAbort 0 3) (pausedRun true)
    (t.rig.deck 0).state = .fading ∧ (t.rig.deck 0).audibleOrder = 11 ∧ (t.rig.deck 0).fadeRemaining = 40 ∧
      (t.rig.deck 1).state = .playing ∧ (t.rig.deck 1).audibleOrder = 10 := by decide

theorem witness_FilterRequestsSetOneEntry :
    State.reset.rig.egress.secure 1 = some made ∧ 1 ≤ 3 ∧ 3 ≤ 3 ∧
      (List.replicate 8 65535).length ≤ 8 ∧ (∀ a ∈ List.replicate 8 65535, a ≤ 65535) ∧ 24 ≤ 24 := by decide

/-- A crossfade in its first frame, and one at its last. -/
theorem witness_SwitchFrameMixesAndAirSetupSets :
    let a : AirSwitch := { AirSwitch.reset with outgoing := some .fallback, weight := 478 }
    let s := rigged fun r => { r with monitors := { r.monitors with
      settings := vset r.monitors.settings 2 (.silenceReset .auto)
      cells := vset r.monitors.cells 2 { MonitorCell.reset with state := .fault } } }
    a.weight + 1 < a.span ∧ ({ a with weight := 479 } : AirSwitch).span ≤ 479 + 1 ∧
      a.owner ≠ .fallback ∧ State.reset.rig.airSwitch.outgoing = none ∧
      s.rig.monitors.acts dlySilence = true ∧ s.rig.airSwitch.owner = .program ∧
      s.rig.airSwitch.fallbackEnable = false := by decide

/-- DLY is silent, the fallback enable off, and deck F and cart 30 as given. -/
def beforeFallback (f : Deck) (cart : Cart) : State :=
  rigged fun r => { (r.setDeck deckF f).setCart 30 cart with
    airSwitch := { r.airSwitch with fallbackCart := some 30 }
    monitors := { r.monitors with
      settings := vset r.monitors.settings 2 (.silenceReset .auto)
      cells := vset r.monitors.cells 2 { MonitorCell.reset with state := .fault } } }

/-- Deck F on entry to FALLBACK: it plays the fallback cart on, is loaded, or is emptied first; and the three causes of
NO_FALLBACK. -/
theorem witness_SwitchFrameMixesAndAirSetupSets_fallback :
    let ready : Cart := { Cart.empty with state := .ready, cls := .service, pages := 1, length := 9, cueOut := 9 }
    let s := beforeFallback .reset ready
    s.rig.egress.secure 1 = some made ∧ s.rig.monitors.acts dlySilence = true ∧ s.rig.airSwitch.runFlag = false ∧
      s.rig.airSwitch.owner ≠ .fallback ∧ s.rig.airSwitch.fallbackEnable = false ∧
      s.rig.airSwitch.fallbackCart = some 30 ∧ index? 256 1073741823 = none ∧
      (s.rig.cart 30).state = .ready ∧ (s.rig.cart 30).cls = .service ∧ (s.rig.deck deckF).state = .empty ∧
      ((beforeFallback (playing .playing 0 3) ready).rig.deck deckF).source = .cart 30 ∧
      ((beforeFallback { playing .playing 0 3 with source := .cart 9 } ready).rig.deck deckF).source ≠ .cart 30 ∧
      ((beforeFallback .reset { ready with cls := .program }).rig.cart 30).cls = .program ∧
      ((beforeFallback .reset .empty).rig.cart 30).state ≠ .ready := by decide

/-- R165: deck F is loaded with the fallback cart, and reports when there is none to play. -/
theorem test_airSetup_fallback :
    let ready : Cart := { Cart.empty with state := .ready, cls := .service, pages := 1, length := 9, cueOut := 9 }
    let t := after (.airSetup 0 none (some 1) none) (beforeFallback .reset ready)
    (t.rig.deck deckF).state = .loading ∧ (t.rig.deck deckF).loop = true ∧ t.rig.airSwitch.owner = .fallback ∧
      .report (.airNoFallback .wrongClass) ∈ (after (.airSetup 0 none (some 1) none)
        (beforeFallback .reset { ready with cls := .program })).rig.egress.queue := by decide

/-- Instance `c` one frame from the end of a block that counts, and every other instance as at power-on. -/
def measuring (c : Fin 18) (mode : MonitorMode) (x : MonitorCell) : State :=
  (State.reset.setLine 5 { Line.reset with state := .onAir, callRef := 1, inLane := some 3 }).onRig fun r =>
    { r with
      airSwitch := { r.airSwitch with fallbackEnable := true }
      monitors := { r.monitors with
        phase := 479
        settings := vset (vset r.monitors.settings 4 { r.monitors.settings[(4 : Fin 8)] with mode := .off })
          (cellSetting c) { r.monitors.settings[cellSetting c] with mode := mode }
        cells := vset r.monitors.cells c x } }

/-- No other instance counts a block. -/
def others (s : State) (c : Fin 18) : Prop :=
  ∀ b : Fin 18, b ≠ c → (s.rig.cell b).discard = true ∨
    (s.rig.monitors.settings[cellSetting b]).mode = .off ∨
    ∃ k, cellLine b = some k ∧ (s.line k).state ≠ .onAir

/-- Blocks that end with a change of whether the instance acts: a quiet fault, an overload fault and an overload clear
of L5, and a fault of DLY silence. -/
def quietEnd : State := measuring 11 .auto { MonitorCell.reset with persistence := 2999 }
def hotEnd : State := measuring 17 .latched { MonitorCell.reset with peakL := 8300000, persistence := 9 }
def clearEnd : State := measuring 17 .auto { MonitorCell.reset with state := .fault, restoreCount := 499 }
def silentEnd : State := measuring dlySilence .auto { MonitorCell.reset with persistence := 2999 }

theorem witness_MonitorFrameMeasuresAndCountsBlocks :
    480 ≤ quietEnd.rig.monitors.phase + 1 ∧ State.reset.rig.monitors.phase + 1 < 480 ∧
      11 = quietCell 5 ∧ 17 = overloadCell 5 ∧
      ((after .monitorFrame quietEnd).rig.cell 11).state = .fault ∧
      ((after .monitorFrame hotEnd).rig.cell 17).state = .fault ∧
      ((after .monitorFrame clearEnd).rig.cell 17).state = .clear ∧
      ((after .monitorFrame silentEnd).rig.cell 2).state = .fault ∧
      silentEnd.rig.egress.queue.length + silentEnd.rig.egress.reserved < 31 := by decide +kernel

theorem witness_MonitorFrameMeasuresAndCountsBlocks_others :
    others quietEnd 11 ∧ others hotEnd 17 ∧ others clearEnd 17 ∧ others silentEnd dlySilence := by
  refine ⟨?_, ?_, ?_, ?_⟩ <;> (unfold others; decide)

/-- R173: the fault of DLY silence is reported and then gives the air to FALLBACK. -/
theorem test_monitorBlockEnd_dly :
    (after .monitorBlockEnd silentEnd).rig.egress.queue =
        [.report (.monitorState 2 none .clear .fault 0), .report (.airOwner .program .fallback .dlyFault),
         .report (.airNoFallback .noCart)] := by decide +kernel

theorem test_monitorClear_ownerLaw :
    (rigged fun r => { r with
      airSwitch := { r.airSwitch with owner := .fallback, fallbackEnable := true }
      monitors := { r.monitors with
        settings := vset r.monitors.settings 2 (.silenceReset .auto)
        cells := vset r.monitors.cells 2 { MonitorCell.reset with state := .fault } } }).rig.ownerLaw := by
  unfold Rig.ownerLaw
  decide +kernel

/-- The operands of MONITOR_SET and MONITOR_CLEAR at the ends of their ranges. -/
theorem witness_MonitorRequestsSetAndClear :
    let f : MonitorFields := ⟨some 3, some 8388607, none, none, some 100, some 255, some 1⟩
    State.reset.rig.egress.secure 1 = some made ∧ f.mode ≠ none ∧ f.warn = none ∧ f.fault = none ∧
      f.threshold = some 8388607 ∧ f.hold = some 100 ∧ (7 : Fin 8).val % 2 = 1 ∧
      (5 : Fin 8).val < 6 ∧ 6 ≤ (6 : Fin 8).val := by decide

/-- Link states: a block one frame from its end, ports at the ends of their timers, a return that is due. -/
def ports (a b : PortRecord) (l : Link) : State := { State.reset with link := { l with portA := a, portB := b } }

def upPort (timer : Nat) : PortRecord := { PortRecord.reset with health := .up, heartbeat := timer }

theorem witness_LinkFrameSendsBlocksAndCountsTimers :
    let l : Link := { Link.reset with phase := 95, revertive := true, active := .b, revertTimer := 2879999 }
    let s := ports (upPort 48000) (upPort 2) l
    l.blockLength ≤ l.phase + 1 ∧ Link.reset.phase + 1 < Link.reset.blockLength ∧
      (s.link.port .a).health ≠ .down ∧ 1 < (s.link.port .b).heartbeat ∧
      s.link.preferred ≠ s.link.active ∧ (s.link.port s.link.preferred).health = .up ∧
      s.link.revertHold * 48000 ≤ s.link.revertTimer + 1 ∧
      ((ports (upPort 1) (upPort 2) .reset).link.port .a).heartbeat ≤ 1 ∧
      (State.reset.link.port .b).health = .down ∧ ((ports (upPort 1) .reset .reset).link.port .b).health = .down ∧
      (let r := ports (upPort 48000) .reset
         { Link.reset with revertive := true, active := .b, revertTimer := 2879999 }
       r.link.phase + 1 < r.link.blockLength ∧ (r.link.port r.link.active).health = .down ∧
        1 < (r.link.port .a).heartbeat) := by decide

/-- R186: the last port that goes DOWN is reported with BOTH_DOWN. -/
theorem test_linkFrame_bothDown :
    (after .linkFrame (ports (upPort 1) .reset .reset)).rig.egress.queue =
      [.report (.linkHealth .a .up .down), .report .linkBothDown] := by decide

/-- A report whose check holds, one whose check fails, and a third report in PROVING. -/
theorem witness_SiteReportsMoveHealthAndSite :
    let w1 : Word32 := BitVec.ofNat 32 (2 * 1073741824 + 1 * 268435456)
    (5 : Word32) + w1 = 5 + w1 ∧ w1.toNat / 1073741824 = 2 ∧ w1.toNat / 268435456 % 4 = 1 ∧
      (0 : Word32) ≠ 5 + w1 ∧
      (let s := ports { PortRecord.reset with health := .proving, proving := 2, heartbeat := 9 } .reset .reset
       (s.link.port .a).health = .proving ∧ 3 ≤ (s.link.port .a).proving + 1 ∧
        (s.link.port .b).health = .down ∧ s.link.active = .a) ∧
      ((ports (upPort 9) .reset .reset).link.port .a).health = .up ∧
      (let s := ports .reset { PortRecord.reset with health := .proving, proving := 2, heartbeat := 9 } .reset
       (s.link.port .b).health = .proving ∧ s.link.active ≠ .b ∧
        (s.link.port s.link.active).health = .down) := by decide

/-- R188: the site's first report tells its carrier and power, and begins a mismatch; R201 codes the carrier 1 for on. -/
theorem test_siteReport_mismatch :
    let s := ports (upPort 9) .reset { Link.reset with lastPeak := 1150000 }
    let w1 : Word32 := BitVec.ofNat 32 (2 * 1073741824 + 1 * 268435456 + 134217728)
    (after (.siteReport .a 7 w1 (7 + w1)) s).rig.egress.queue =
      [.report (.linkSite (.carrier none .on)), .report (.linkSite (.power none .mains)),
       .report (.linkSite (.silence none true)), .report (.linkMismatch 1150000 7)] ∧
      Carrier.on.code = 1 := by decide

theorem witness_LinkRequestsSetAndSelect :
    let f : LinkFields := ⟨some 192, some 10000, some 10, some 1, some 600, some 1⟩
    State.reset.rig.egress.secure 1 = some made ∧ f.blockLength = some 192 ∧ f.lagLimit ≠ none ∧
      Port.b ≠ State.reset.link.active ∧ (State.reset.link.port .b).health = .down ∧
      ((ports .reset (upPort 9) .reset).link.port .b).health ≠ .down ∧
      ((ports { upPort 9 with health := .lagging } (upPort 9) .reset).link.port .a).health = .lagging := by decide

/-! Steps out of states that meet the laws, and are not power-on. -/

/-- What a step answers out of a state with one command waiting. -/
theorem step_withOne (c : Instr) (s : State) : step (s.withPending [c]) = exec c (s.withPending []) := rfl

theorem witness_EveryStepKeepsStoreAndQueueInForm :
    let s := ((fading 2879953 47 .fading).withPending [.transmitFrame]).onRig fun r =>
      { r with egress := { r.egress with queue := List.replicate 32 aReply, sent := 1 } }
    (∃ t, step s = .next t) ∧ s.storeLaw ∧ s.egressLaw :=
  ⟨⟨_, rfl⟩, by unfold State.storeLaw; decide, by decide, by decide,
    show (1 : Nat) < aReply.fields.length + 2 by decide⟩

theorem witness_EveryStepKeepsTheDelayLaw :
    (∃ t, step ((delayed .build 20480000).withPending [.delayDump 0]) = .next t) ∧
      (delayed .build 20480000).rig.delayLaw :=
  ⟨⟨_, rfl⟩, witness_DelayFrameMovesTheDelayByItsState.2.2.1⟩

theorem witness_EveryStepKeepsAlertsAndOwnerInAgreement :
    (∃ t, step ((airing next heldDelay).withPending [.activitySeen]) = .next t) ∧
      (airing next heldDelay).rig.alertLaw ∧ (airing next heldDelay).rig.ownerLaw := by
  obtain ⟨-, -, -, h, h', -⟩ := airing_law
  exact ⟨⟨_, rfl⟩, h, h'⟩

theorem witness_EveryStepKeepsTwoDecksAndTheOrderInForm :
    (∃ t, step (thirdStart.withPending [.activitySeen]) = .next t) ∧ thirdStart.audibleLaw ∧
      thirdStart.rig.order.law :=
  ⟨⟨_, rfl⟩, by unfold State.audibleLaw; decide, thirdStart_orderLaw⟩

theorem witness_EveryStepKeepsTheCallerLines :
    (∃ t, step (takeable.withPending [.callTake 0 6]) = .next t) ∧ takeable.callers.law :=
  ⟨⟨_, rfl⟩, by unfold Callers.law Line.law; decide⟩

theorem witness_EveryStepKeepsTheOtherBlocksInForm :
    let s := withRoute 5 { unity (.lane 0) .pgm 4539 with target := 4001, step := -535, remaining := 1 } locked
    (∃ t, step (s.withPending [.mixFrame]) = .next t) ∧ s.clockLaw ∧ s.mixLaw ∧ s.rig.alertLaw ∧
      s.rig.library.extentLaw ∧ s.rig.alerts.recentLaw ∧ s.rig.monitors.law ∧ s.link.law := by
  refine ⟨⟨_, rfl⟩, ?_, ?_, ?_, ?_, ?_, ?_, ?_⟩
  · unfold State.clockLaw
    refine ⟨by decide, by decide, by decide, by decide, by decide, by decide, by decide, by decide, by decide, ?_⟩
    intro m h
    cases h
  · unfold State.mixLaw Route.law rampLaw
    decide +kernel
  · unfold Rig.alertLaw
    decide +kernel
  · unfold Library.extentLaw inPages
    decide +kernel
  · unfold Alerts.recentLaw
    decide
  · unfold Monitors.law
    decide
  · unfold Link.law
    refine ⟨by decide, by decide, by decide, by decide, by decide, by decide, by decide, ?_, ?_, ?_, by decide⟩ <;>
      intro p <;> cases p <;> decide

end Sys2Proof.Tests
end

section
/-!
SUPPORT. What the shared operations of one event leave as it was: three relations between the rig before and after an
operation, each with the operations that meet it.
-/

namespace Sys2Proof.Machine

/-! ### One record of the rig after another has been set -/

theorem Rig.deck_setDeck (r : Rig) (d e : DeckId) (x : Deck) :
    (r.setDeck d x).deck e = if d = e then x else r.deck e := vset_get _ d e x

theorem Rig.cart_setCart (r : Rig) (c b : CartId) (x : Cart) :
    (r.setCart c x).cart b = if c = b then x else r.cart b := vset_get _ c b x

theorem Rig.recorder_setRecorder (r : Rig) (k j : RecorderId) (x : Recorder) :
    (r.setRecorder k x).recorder j = if k = j then x else r.recorder j := vset_get _ k j x

theorem Rig.record_setRecord (r : Rig) (i j : RecordId) (a : AlertRecord) :
    (r.setRecord i a).record j = if i = j then a else r.record j := vset_get _ i j a

theorem Rig.cell_setCell (r : Rig) (c b : Fin 18) (x : MonitorCell) :
    (r.setCell c x).cell b = if c = b then x else r.cell b := vset_get _ c b x

/-! ### Reports raised by an event -/

/-- The egress queue `e'` is `e` after reports alone have been raised. -/
def Egress.Told (e e' : Egress) : Prop := ∃ ms : List Report, e' = ms.foldl Egress.report e

theorem Egress.Told.refl (e : Egress) : e.Told e := ⟨[], rfl⟩

theorem Egress.Told.trans {e₁ e₂ e₃ : Egress} : e₁.Told e₂ → e₂.Told e₃ → e₁.Told e₃
  | ⟨ms, h₁⟩, ⟨ns, h₂⟩ => ⟨ms ++ ns, by rw [List.foldl_append, ← h₁, h₂]⟩

theorem Egress.report_told (e : Egress) (m : Report) : e.Told (e.report m) := ⟨[m], rfl⟩

/-- Reports add no reply to the queue. -/
theorem repliesOf_report (e : Egress) (m : Report) :
    repliesOf (e.report m).queue = repliesOf e.queue := by
  unfold Egress.report
  split
  · simp [repliesOf, Outbound.kindCode]
  · rfl

theorem Egress.Told.replies {e e' : Egress} (h : e.Told e') :
    repliesOf e'.queue = repliesOf e.queue := by
  obtain ⟨ms, rfl⟩ := h
  induction ms generalizing e with
  | nil => rfl
  | cons m ms ih => exact ih.trans (repliesOf_report e m)

/-! ### The three relations -/

/-- The rig after operations that raise reports and touch neither the store's library, nor the monitors, nor the
alert controller's filters and recent identities. -/
structure Rig.Beside (r r' : Rig) : Prop where
  told : r.egress.Told r'.egress
  library : r'.library = r.library
  monitors : r'.monitors = r.monitors
  filters : r'.alerts.filters = r.alerts.filters
  recent : r'.alerts.recent = r.alerts.recent

/-- The rig after operations of the running order and the program decks: the decks, the order and reports alone. -/
structure Rig.Ordered (r r' : Rig) : Prop where
  told : r.egress.Told r'.egress
  library : r'.library = r.library
  delay : r'.delay = r.delay
  alerts : r'.alerts = r.alerts
  airSwitch : r'.airSwitch = r.airSwitch
  monitors : r'.monitors = r.monitors

/-- The rig after operations that change what sounds: decks, the delay, the switch, the part that airs, and reports,
but neither the running order nor an alert record. -/
structure Rig.Sounded (r r' : Rig) : Prop extends Rig.Beside r r' where
  order : r'.order = r.order
  records : r'.alerts.records = r.alerts.records

theorem Rig.Beside.refl (r : Rig) : r.Beside r := ⟨.refl _, rfl, rfl, rfl, rfl⟩

theorem Rig.Beside.trans {r₁ r₂ r₃ : Rig} (h : r₁.Beside r₂) (k : r₂.Beside r₃) : r₁.Beside r₃ :=
  ⟨h.told.trans k.told, k.library.trans h.library, k.monitors.trans h.monitors, k.filters.trans h.filters,
    k.recent.trans h.recent⟩

theorem Rig.Ordered.refl (r : Rig) : r.Ordered r := ⟨.refl _, rfl, rfl, rfl, rfl, rfl⟩

theorem Rig.Ordered.trans {r₁ r₂ r₃ : Rig} (h : r₁.Ordered r₂) (k : r₂.Ordered r₃) : r₁.Ordered r₃ :=
  ⟨h.told.trans k.told, k.library.trans h.library, k.delay.trans h.delay, k.alerts.trans h.alerts,
    k.airSwitch.trans h.airSwitch, k.monitors.trans h.monitors⟩

theorem Rig.Ordered.beside {r r' : Rig} (h : r.Ordered r') : r.Beside r' :=
  ⟨h.told, h.library, h.monitors, congrArg Alerts.filters h.alerts, congrArg Alerts.recent h.alerts⟩

theorem Rig.Sounded.refl (r : Rig) : r.Sounded r := ⟨.refl r, rfl, rfl⟩

theorem Rig.Sounded.trans {r₁ r₂ r₃ : Rig} (h : r₁.Sounded r₂) (k : r₂.Sounded r₃) : r₁.Sounded r₃ :=
  ⟨h.toBeside.trans k.toBeside, k.order.trans h.order, k.records.trans h.records⟩

/-- A relation that every step of a fold keeps holds over the whole fold. -/
theorem foldl_related {α β : Type} {R : α → α → Prop} (hrefl : ∀ a, R a a)
    (htrans : ∀ {a b c}, R a b → R b c → R a c) {f : α → β → α} (hf : ∀ a b, R a (f a b)) (l : List β) (a : α) :
    R a (l.foldl f a) := by
  induction l generalizing a with
  | nil => exact hrefl a
  | cons b l ih => exact htrans (hf a b) (ih _)

/-! ### Decks and the running order -/

theorem Rig.report_ordered (r : Rig) (m : Report) : r.Ordered (r.report m) :=
  ⟨Egress.report_told _ _, rfl, rfl, rfl, rfl, rfl⟩

theorem Rig.reports_ordered (r : Rig) (ms : List Report) : r.Ordered (r.reports ms) := by
  rw [Rig.reports_eq]
  exact ⟨⟨ms, rfl⟩, rfl, rfl, rfl, rfl, rfl⟩

theorem Rig.setDeck_ordered (r : Rig) (d : DeckId) (x : Deck) : r.Ordered (r.setDeck d x) :=
  ⟨.refl _, rfl, rfl, rfl, rfl, rfl⟩

theorem Rig.setEntries_ordered (r : Rig) (es : List Entry) : r.Ordered (r.setEntries es) :=
  ⟨.refl _, rfl, rfl, rfl, rfl, rfl⟩

theorem Rig.setHold_ordered (r : Rig) (b : Bool) : r.Ordered (r.setHold b) :=
  ⟨.refl _, rfl, rfl, rfl, rfl, rfl⟩

theorem Rig.updateEntry_ordered (r : Rig) (tag : Nat) (f : Entry → Entry) : r.Ordered (r.updateEntry tag f) :=
  r.setEntries_ordered _

theorem Rig.unloadDeck_ordered (r : Rig) (d : DeckId) : r.Ordered (r.unloadDeck d) := r.setDeck_ordered d _

theorem Rig.makeAudible_ordered (r : Rig) (d : DeckId) (f : Deck → Nat → Deck) :
    r.Ordered (r.makeAudible d f) :=
  ⟨.refl _, rfl, rfl, rfl, rfl, rfl⟩

theorem Rig.loadDeck_ordered (r : Rig) (d : DeckId) (q : LoadRequest) : r.Ordered (r.loadDeck d q) := by
  unfold Rig.loadDeck
  split <;> exact r.setDeck_ordered d _

theorem Rig.finishDeck_ordered (r : Rig) (d : DeckId) (c : EndCause) : r.Ordered (r.finishDeck d c) :=
  (r.setDeck_ordered d _).trans (Rig.report_ordered _ _)

theorem Rig.emptyDeck_ordered (r : Rig) (d : DeckId) : r.Ordered (r.emptyDeck d) := by
  unfold Rig.emptyDeck
  split
  · exact .refl r
  all_goals first
    | exact r.unloadDeck_ordered d
    | exact (r.finishDeck_ordered d .cut).trans (Rig.unloadDeck_ordered _ d)

theorem Rig.releaseDeck_ordered (r : Rig) (d : DeckId) : r.Ordered (r.releaseDeck d) := by
  have gone := (r.setEntries_ordered (withoutTag r.order.entries (r.deck d).entryTag)).trans
    (Rig.unloadDeck_ordered _ d)
  unfold Rig.releaseDeck
  dsimp only
  split <;> exact gone.trans (Rig.report_ordered _ _)

theorem Rig.endDeck_ordered (r : Rig) (d : DeckId) (c : EndCause) : r.Ordered (r.endDeck d c) := by
  unfold Rig.endDeck
  split
  · exact (r.finishDeck_ordered d c).trans (Rig.releaseDeck_ordered _ d)
  · exact r.finishDeck_ordered d c

theorem Rig.cutCued_ordered (r : Rig) (d : DeckId) : r.Ordered (r.cutCued d) :=
  ((r.setEntries_ordered _).trans (Rig.unloadDeck_ordered _ d)).trans (Rig.report_ordered _ _)

theorem Rig.cutDeck_ordered (r : Rig) (d : DeckId) : r.Ordered (r.cutDeck d) := by
  unfold Rig.cutDeck
  split
  · exact r.cutCued_ordered d
  · exact r.endDeck_ordered d .cut

theorem Rig.removeWaitingFor_ordered (r : Rig) (c : CartId) : r.Ordered (r.removeWaitingFor c) :=
  (r.setEntries_ordered _).trans (Rig.reports_ordered _ _)

theorem Rig.audibleRule_ordered (r : Rig) : r.Ordered r.audibleRule := by
  unfold Rig.audibleRule
  split
  · exact .refl r
  · split
    · exact r.endDeck_ordered _ .cut
    · exact .refl r

theorem Rig.startDeck_ordered (r : Rig) (d : DeckId) : r.Ordered (r.startDeck d) := by
  unfold Rig.startDeck
  split
  · exact r.audibleRule_ordered.trans (Rig.makeAudible_ordered _ d _)
  · exact r.makeAudible_ordered d _

theorem Rig.resumeDeck_ordered (r : Rig) (d : DeckId) : r.Ordered (r.resumeDeck d) :=
  r.audibleRule_ordered.trans (Rig.makeAudible_ordered _ d _)

theorem Rig.fadeDeck_ordered (r : Rig) (d : DeckId) (frames : Nat) : r.Ordered (r.fadeDeck d frames) := by
  unfold Rig.fadeDeck
  dsimp only
  split
  · exact .refl r
  · split
    · exact r.endDeck_ordered d .played
    · exact r.setDeck_ordered d _

theorem Rig.startEntry_ordered (r : Rig) (e : Entry) (cause : StartCause) : r.Ordered (r.startEntry e cause) := by
  unfold Rig.startEntry
  split
  · exact .refl r
  · rename_i d _
    dsimp only
    refine Rig.Ordered.trans ?_ (Rig.report_ordered _ _)
    have started := (r.startDeck_ordered d).trans (Rig.updateEntry_ordered _ e.tag
      (·.started (nextCount (r.startDeck d).order.lastStart)))
    exact ⟨started.told, started.library, started.delay, started.alerts, started.airSwitch, started.monitors⟩

theorem Rig.assignOne_ordered {r r' : Rig} (h : r.assignOne = some r') : r.Ordered r' := by
  unfold Rig.assignOne at h
  split at h
  · cases h
  · split at h
    · split at h
      · cases h
        exact (r.updateEntry_ordered _ _).trans (Rig.loadDeck_ordered _ _ _)
      · cases h
    · cases h

theorem Rig.displace_ordered (r : Rig) (e : Entry) : r.Ordered (r.displace e) := by
  unfold Rig.displace
  split
  · exact r.updateEntry_ordered _ _
  · exact ((r.unloadDeck_ordered _).trans (Rig.updateEntry_ordered _ _ _)).trans (Rig.report_ordered _ _)

theorem Rig.arrangeFor_ordered (n : Nat) (r : Rig) : r.Ordered (r.arrangeFor n) := by
  induction n generalizing r with
  | zero => exact .refl r
  | succ n ih =>
    unfold Rig.arrangeFor
    split
    · rename_i r' h
      exact (Rig.assignOne_ordered h).trans (ih r')
    · split
      · split
        · exact (r.displace_ordered _).trans (ih _)
        · exact .refl r
      · exact .refl r

theorem Rig.arrange_ordered (r : Rig) : r.Ordered r.arrange := Rig.arrangeFor_ordered _ r

theorem Rig.unloadEntries_ordered (r : Rig) (es : List Entry) : r.Ordered (r.unloadEntries es) := by
  induction es generalizing r with
  | nil => exact .refl r
  | cons e es ih =>
    unfold Rig.unloadEntries
    split
    · split
      · exact (r.unloadDeck_ordered _).trans (ih _)
      · exact ih r
    · exact ih r

theorem Rig.fadeAudible_ordered (r : Rig) (frames : Nat) (ds : List DeckId) :
    r.Ordered (r.fadeAudible frames ds) := by
  induction ds generalizing r with
  | nil => exact .refl r
  | cons d ds ih =>
    unfold Rig.fadeAudible
    refine Rig.Ordered.trans ?_ (ih _)
    split
    · exact r.fadeDeck_ordered d frames
    · exact .refl r

theorem Rig.skipTo_ordered (r : Rig) (e : Entry) : r.Ordered (r.skipTo e) :=
  ((((r.unloadEntries_ordered _).trans (Rig.setEntries_ordered _ _)).trans (Rig.reports_ordered _ _)).trans
    (Rig.fadeAudible_ordered _ _ _)).trans (Rig.updateEntry_ordered _ _ _)

theorem Rig.makeSkip_ordered (r : Rig) : r.Ordered r.makeSkip := by
  unfold Rig.makeSkip
  split
  · exact .refl r
  · split
    · exact r.skipTo_ordered _
    · exact .refl r

theorem Rig.startDue_ordered (n : Nat) (r : Rig) : r.Ordered (r.startDue n) := by
  induction n generalizing r with
  | zero => exact .refl r
  | succ n ih =>
    unfold Rig.startDue
    split
    · exact ((r.startEntry_ordered _ _).trans (Rig.arrange_ordered _)).trans (ih _)
    · exact .refl r

theorem Rig.settle_ordered (r : Rig) : r.Ordered r.settle :=
  (r.makeSkip_ordered.trans (Rig.startDue_ordered _ _)).trans (Rig.arrange_ordered _)

theorem Rig.assignThenSettle_ordered (r : Rig) : r.Ordered r.assignThenSettle :=
  r.arrange_ordered.trans (Rig.settle_ordered _)

theorem Rig.segueEvent_ordered (r : Rig) (tag : Nat) : r.Ordered (r.segueEvent tag) :=
  (r.updateEntry_ordered tag _).trans (Rig.settle_ordered _)

theorem Rig.orderPrefetched_ordered (r : Rig) (d : DeckId) : r.Ordered (r.orderPrefetched d) := by
  unfold Rig.orderPrefetched
  split
  · split
    · refine Rig.Ordered.trans ?_ (Rig.assignThenSettle_ordered _)
      refine Rig.Ordered.trans ?_ (Rig.startEntry_ordered _ _ _)
      split
      · exact r.report_ordered _
      · exact .refl r
    · exact r.settle_ordered
  · exact r.settle_ordered

theorem Rig.orderSeconds_ordered (r : Rig) (now : Nat) : r.Ordered (r.orderSeconds now) :=
  (r.setEntries_ordered _).trans (Rig.settle_ordered _)

theorem Rig.alertPause_ordered (r : Rig) : r.Ordered r.alertPause := by
  refine foldl_related Rig.Ordered.refl Rig.Ordered.trans (fun r d => ?_) _ r
  split
  · exact r.setDeck_ordered d _
  · exact .refl r

theorem Rig.alertResume_ordered (r : Rig) : r.Ordered r.alertResume := by
  refine Rig.Ordered.trans ?_ (Rig.settle_ordered _)
  refine foldl_related Rig.Ordered.refl Rig.Ordered.trans (fun r d => ?_) _ r
  split
  · exact r.resumeDeck_ordered d
  · exact .refl r

theorem Rig.sendSegue_ordered (r : Rig) (d : DeckId) : r.Ordered (r.sendSegue d) := by
  unfold Rig.sendSegue
  split
  · exact (r.setDeck_ordered d _).trans (Rig.segueEvent_ordered _ _)
  · exact .refl r

/-! ### What sounds: decks A and F, the delay, the switch and the parts of an airing -/

/-- An operation on decks and reports that leaves the running order changes only what sounds. -/
theorem Rig.Ordered.sounded {r r' : Rig} (h : r.Ordered r') (ho : r'.order = r.order) : r.Sounded r' :=
  ⟨h.beside, ho, congrArg Alerts.records h.alerts⟩

theorem Rig.report_sounded (r : Rig) (m : Report) : r.Sounded (r.report m) := (r.report_ordered m).sounded rfl

theorem Rig.loadDeck_order (r : Rig) (d : DeckId) (q : LoadRequest) : (r.loadDeck d q).order = r.order := by
  unfold Rig.loadDeck
  split <;> rfl

theorem Rig.emptyDeck_order (r : Rig) (d : DeckId) : (r.emptyDeck d).order = r.order := by
  unfold Rig.emptyDeck
  split <;> rfl

theorem Rig.loadDeck_sounded (r : Rig) (d : DeckId) (q : LoadRequest) : r.Sounded (r.loadDeck d q) :=
  (r.loadDeck_ordered d q).sounded (r.loadDeck_order d q)

theorem Rig.unloadDeck_sounded (r : Rig) (d : DeckId) : r.Sounded (r.unloadDeck d) :=
  (r.unloadDeck_ordered d).sounded rfl

theorem Rig.emptyDeck_sounded (r : Rig) (d : DeckId) : r.Sounded (r.emptyDeck d) :=
  (r.emptyDeck_ordered d).sounded (r.emptyDeck_order d)

theorem Rig.changeDelay_sounded (r : Rig) (d : Delay) (cause : DelayCause) : r.Sounded (r.changeDelay d cause) := by
  have set : r.Sounded { r with delay := d } := ⟨⟨.refl _, rfl, rfl, rfl, rfl⟩, rfl, rfl⟩
  have stated : r.Sounded (if r.delay.state = d.state then { r with delay := d }
      else ({ r with delay := d }).report (.delayState r.delay.state d.state d.length.toNat cause)) := by
    split
    · exact set
    · exact set.trans (Rig.report_sounded _ _)
  unfold Rig.changeDelay
  dsimp only
  split
  · exact stated
  · exact stated.trans (Rig.report_sounded _ _)

theorem Rig.setAirSwitch_sounded (r : Rig) (a : AirSwitch) : r.Sounded { r with airSwitch := a } :=
  ⟨⟨.refl _, rfl, rfl, rfl, rfl⟩, rfl, rfl⟩

theorem Rig.loadFallback_sounded (r : Rig) : r.Sounded r.loadFallback := by
  unfold Rig.loadFallback
  split
  · exact r.report_sounded _
  · split
    · exact r.loadDeck_sounded _ _
    all_goals exact r.report_sounded _

theorem Rig.serveFallback_sounded (r : Rig) (was : Bool) : r.Sounded (r.serveFallback was) := by
  unfold Rig.serveFallback
  split
  · split
    · exact r.loadFallback_sounded
    · split
      · exact .refl r
      · exact (r.emptyDeck_sounded deckF).trans (Rig.loadFallback_sounded _)
  · split
    · exact r.emptyDeck_sounded deckF
    · exact .refl r

theorem Rig.changeOwner_sounded (r : Rig) (o : AirOwner) (c : OwnerCause) : r.Sounded (r.changeOwner o c) :=
  ((r.setAirSwitch_sounded _).trans (Rig.report_sounded _ _)).trans (Rig.serveFallback_sounded _ _)

theorem Rig.evaluateOwner_sounded (r : Rig) (c : OwnerCause) : r.Sounded (r.evaluateOwner c) := by
  unfold Rig.evaluateOwner
  split
  · exact .refl r
  · exact r.changeOwner_sounded _ c

theorem Rig.setDecksPaused_sounded (r : Rig) (b : Bool) :
    r.Sounded { r with alerts := { r.alerts with decksPaused := b } } := ⟨⟨.refl _, rfl, rfl, rfl, rfl⟩, rfl, rfl⟩

theorem Rig.setPart_sounded (r : Rig) (p : Part) : r.Sounded { r with alerts := { r.alerts with part := p } } :=
  ⟨⟨.refl _, rfl, rfl, rfl, rfl⟩, rfl, rfl⟩

theorem Rig.switchRunStart_sounded (r : Rig) : r.Sounded r.switchRunStart :=
  (r.setAirSwitch_sounded _).trans (Rig.evaluateOwner_sounded _ .alertStart)

theorem Rig.switchRunEnd_sounded (r : Rig) : r.Sounded r.switchRunEnd :=
  (r.setAirSwitch_sounded _).trans (Rig.evaluateOwner_sounded _ .alertEnd)

theorem Rig.delayHold_sounded (r : Rig) : r.Sounded r.delayHold := r.changeDelay_sounded _ .alert

theorem Rig.delayRelease_sounded (r : Rig) : r.Sounded r.delayRelease := r.changeDelay_sounded _ .alert

theorem Rig.alertPause_order (r : Rig) : r.alertPause.order = r.order := by
  unfold Rig.alertPause
  refine foldl_related (R := fun a b : Rig => b.order = a.order) (fun _ => rfl) (fun h k => k.trans h)
    (fun r d => ?_) programDecks r
  split <;> rfl

theorem Rig.runStart_sounded (r : Rig) : r.Sounded r.runStart := by
  have held := r.switchRunStart_sounded.trans (Rig.delayHold_sounded _)
  unfold Rig.runStart
  dsimp only
  split
  · exact (held.trans ((Rig.alertPause_ordered _).sounded (Rig.alertPause_order _))).trans
      (Rig.setDecksPaused_sounded _ true)
  · exact held

theorem Rig.loadPart_sounded (r : Rig) (i : RecordId) (p : Part) : r.Sounded (r.loadPart i p).1 := by
  unfold Rig.loadPart
  split
  · exact .refl r
  · split
    · rename_i source _ _ _
      exact (r.loadDeck_sounded deckA (.plain source (r.record i).recordedLength)).trans
        (Rig.setPart_sounded _ p)
    · split
      · exact r.report_sounded _
      · exact .refl r

theorem Rig.loadFirstPart_sounded (r : Rig) (i : RecordId) : r.Sounded (r.loadFirstPart i) := by
  unfold Rig.loadFirstPart
  dsimp only
  split
  · exact r.loadPart_sounded i .leadIn
  · exact (r.loadPart_sounded i .leadIn).trans (Rig.loadPart_sounded _ i .slot)

/-! ### Records, airings and runs -/

theorem Rig.setRecord_beside (r : Rig) (i : RecordId) (a : AlertRecord) : r.Beside (r.setRecord i a) :=
  ⟨.refl _, rfl, rfl, rfl, rfl⟩

theorem Rig.setAlertState_beside (r : Rig) (i : RecordId) (st : AlertState) : r.Beside (r.setAlertState i st) :=
  r.setRecord_beside i _

theorem Rig.report_beside (r : Rig) (m : Report) : r.Beside (r.report m) := (r.report_ordered m).beside

theorem Rig.enqueue_beside (r : Rig) (i : RecordId) : r.Beside (r.enqueue i) := ⟨.refl _, rfl, rfl, rfl, rfl⟩

theorem Rig.moveDeadlines_beside (r : Rig) (f : Nat → Nat) : r.Beside (r.moveDeadlines f) :=
  ⟨.refl _, rfl, rfl, rfl, rfl⟩

/-- A record named as the one that airs, before anything sounds. -/
def Rig.namedAiring (r : Rig) (i : RecordId) : Rig :=
  { r.setAlertState i .airing with alerts := { (r.setAlertState i .airing).alerts with airing := some i } }

/-- Beyond the record's own state and name, an airing changes only what sounds. -/
theorem Rig.airRecord_sounded (r : Rig) (i : RecordId) (b : Bool) :
    (r.namedAiring i).Sounded (r.airRecord i b) := by
  have playing := ((r.namedAiring i).report_sounded (.alertAiring i)).trans (Rig.loadFirstPart_sounded _ i)
  unfold Rig.airRecord
  dsimp only
  split
  · exact playing.trans (Rig.runStart_sounded _)
  · exact playing

theorem Rig.namedAiring_beside (r : Rig) (i : RecordId) : r.Beside (r.namedAiring i) :=
  ⟨.refl _, rfl, rfl, rfl, rfl⟩

theorem Rig.airRecord_beside (r : Rig) (i : RecordId) (b : Bool) : r.Beside (r.airRecord i b) :=
  (r.namedAiring_beside i).trans (r.airRecord_sounded i b).toBeside

theorem Rig.airIfIdle_beside (r : Rig) : r.Beside r.airIfIdle := by
  unfold Rig.airIfIdle
  split
  · exact r.airRecord_beside _ true
  · exact .refl r

theorem Rig.runEnd_beside (r : Rig) : r.Beside r.runEnd := by
  have released := (r.switchRunEnd_sounded.trans (Rig.delayRelease_sounded _)).toBeside
  unfold Rig.runEnd
  dsimp only
  split
  · exact (released.trans (Rig.setDecksPaused_sounded _ false).toBeside).trans
      (Rig.alertResume_ordered _).beside
  · exact released

theorem Rig.leaveAiring_beside (r : Rig) (i : RecordId) (st : AlertState) (m : Report) :
    r.Beside (r.leaveAiring i st m) := by
  have left : r.Beside { r.setAlertState i st with
      alerts := { (r.setAlertState i st).alerts with airing := none } } := ⟨.refl _, rfl, rfl, rfl, rfl⟩
  have told := left.trans (Rig.report_beside _ m)
  unfold Rig.leaveAiring
  dsimp only
  split
  · exact told.trans (Rig.airRecord_beside _ _ false)
  · exact told.trans (Rig.runEnd_beside _)

theorem Rig.stopAiring_beside (r : Rig) (i : RecordId) (st : AlertState) (m : Report) :
    r.Beside (r.stopAiring i st m) :=
  (r.emptyDeck_sounded deckA).toBeside.trans (Rig.leaveAiring_beside _ i st m)

theorem Rig.partEnded_beside (r : Rig) : r.Beside r.partEnded := by
  have unloaded := (r.unloadDeck_sounded deckA).toBeside
  unfold Rig.partEnded
  split
  · exact .refl r
  · rename_i i _
    dsimp only
    have next (p : Part) := unloaded.trans (Rig.loadPart_sounded (r.unloadDeck deckA) i p).toBeside
    split
    · exact next .slot
    · split
      · exact next .leadOut
      · exact (next .leadOut).trans (Rig.leaveAiring_beside _ _ _ _)
    · exact unloaded.trans (Rig.leaveAiring_beside _ _ _ _)

theorem Rig.placeRecorded_beside (r : Rig) (i : RecordId) (now : Nat) : r.Beside (r.placeRecorded i now) := by
  unfold Rig.placeRecorded
  dsimp only
  split
  · exact (r.setAlertState_beside i .expired).trans (Rig.report_beside _ _)
  · split
    · exact r.enqueue_beside i
    · exact r.setRecord_beside i _

theorem Rig.testDeadlines_beside (r : Rig) (now : Nat) (i : RecordId) : r.Beside (r.testDeadlines now i) := by
  unfold Rig.testDeadlines
  dsimp only
  split
  · exact r.setRecord_beside i _
  · split
    · exact (r.setAlertState_beside i .expired).trans (Rig.report_beside _ _)
    · split
      · split
        · split
          · exact (r.enqueue_beside i).trans (Rig.report_beside _ _)
          · exact (r.setAlertState_beside i .declined).trans (Rig.report_beside _ _)
        · exact .refl r
      · exact .refl r

theorem Rig.alertSeconds_beside (r : Rig) (now : Nat) : r.Beside (r.alertSeconds now) :=
  (foldl_related Rig.Beside.refl Rig.Beside.trans (fun r i => r.testDeadlines_beside now i) _ r).trans
    (Rig.airIfIdle_beside _)

theorem Rig.newSeconds_beside (r : Rig) (now : Nat) : r.Beside (r.newSeconds now) :=
  (r.orderSeconds_ordered now).beside.trans (Rig.alertSeconds_beside _ now)

theorem Rig.secondAdvance_beside (r : Rig) (old new : Nat) : r.Beside (r.secondAdvance old new) := by
  refine Rig.Beside.trans ?_ (Rig.newSeconds_beside _ new)
  split
  · exact r.moveDeadlines_beside _
  · exact .refl r

end Sys2Proof.Machine
end

section
/-!
SUPPORT. The Mix Engine's law: the ramps of gain and gate, one frame, and the requests on one route.
-/

namespace Sys2Proof.Machine

/-! ### Ramps -/

theorem rampLaw_rest (goal : Nat) (step : Int) : rampLaw goal goal 0 step :=
  ⟨fun _ => rfl, fun h => absurd h (Nat.lt_irrefl 0), fun h => absurd h (Nat.lt_irrefl 0)⟩

theorem tdiv_mul_le_of_nonneg {a : Int} (ha : 0 ≤ a) {n : Nat} (hn : 0 < n) :
    0 ≤ a.tdiv n ∧ a.tdiv n * n ≤ a := by
  rw [Int.tdiv_eq_ediv_of_nonneg ha]
  exact ⟨Int.ediv_nonneg ha (by omega), Int.ediv_mul_le a (by omega)⟩

/-- The step of a ramp, rounded toward zero, never carries it past its goal. -/
theorem rampLaw_start (current goal n : Nat) (hn : 0 < n) :
    rampLaw current goal n (((goal : Int) - current).tdiv n) := by
  refine ⟨fun h => absurd h (by omega), fun _ hle => ?_, fun _ hle => ?_⟩
  · obtain ⟨hstep, hmul⟩ := tdiv_mul_le_of_nonneg (a := (goal : Int) - current) (by omega) hn
    exact ⟨hstep, by omega⟩
  · have hneg : ((goal : Int) - current).tdiv n = -(((current : Int) - goal).tdiv n) := by
      rw [← Int.neg_tdiv, Int.neg_sub]
    obtain ⟨hstep, hmul⟩ := tdiv_mul_le_of_nonneg (a := (current : Int) - goal) (by omega) hn
    rw [hneg, Int.neg_mul]
    exact ⟨by omega, by omega⟩

/-- One step of a ramp that has two frames or more left keeps the ramp's law and does not leave the span between where
the ramp stood and its goal. -/
theorem rampLaw_step {current goal n : Nat} {step : Int} (h : rampLaw current goal (n + 2) step) :
    rampLaw (current + step).toNat goal (n + 1) step ∧ (current + step).toNat ≤ max current goal := by
  obtain ⟨-, hup, hdown⟩ := h
  have split : step * ((n + 2 : Nat) : Int) = step * ((n + 1 : Nat) : Int) + step := by push_cast; ring
  rcases Nat.le_total current goal with hle | hle
  · obtain ⟨hstep, hend⟩ := hup (by omega) hle
    have hrest : 0 ≤ step * ((n + 1 : Nat) : Int) := Int.mul_nonneg hstep (by omega)
    have hone : step ≤ step * ((n + 1 : Nat) : Int) := le_mul_of_one_le_right hstep (by omega)
    have hcast : (((current : Int) + step).toNat : Int) = current + step := Int.toNat_of_nonneg (by omega)
    refine ⟨⟨fun h => absurd h (by omega), fun _ _ => ⟨hstep, by omega⟩, fun _ hge => ?_⟩, by omega⟩
    have hzero : step = 0 := by omega
    subst hzero
    exact ⟨Int.le_refl 0, by omega⟩
  · obtain ⟨hstep, hend⟩ := hdown (by omega) hle
    have hrest : step * ((n + 1 : Nat) : Int) ≤ 0 := Int.mul_nonpos_of_nonpos_of_nonneg hstep (by omega)
    have hone : step * ((n + 1 : Nat) : Int) ≤ step := mul_le_of_one_le_right hstep (by omega)
    have hcast : (((current : Int) + step).toNat : Int) = current + step := Int.toNat_of_nonneg (by omega)
    refine ⟨⟨fun h => absurd h (by omega), fun _ hge => ?_, fun _ _ => ⟨hstep, by omega⟩⟩, by omega⟩
    have hzero : step = 0 := by omega
    subst hzero
    exact ⟨Int.le_refl 0, by omega⟩

theorem gateGoal_le (b : Bool) : gateGoal b ≤ 16384 := by cases b <;> decide

/-! ### One route -/

theorem Route.free_law : Route.free.law := by
  refine ⟨fun _ => rfl, ?_, ?_, ?_, ?_, rampLaw_rest 0 0, nofun, ?_, ?_, rampLaw_rest 0 0, nofun⟩ <;> decide

/-- What a route keeps of its law at any gain ramp: everything that does not speak of target, gain and ramp. -/
structure Route.GateLaw (r : Route) : Prop where
  factor : r.gateFactor ≤ 16384
  remaining : r.gateRemaining ≤ 512
  ramp : rampLaw r.gateFactor (gateGoal r.gateOpen) r.gateRemaining r.gateStep
  pgm : (r.voice = true ∨ r.duckable = true) → r.destination = .pgm

/-- The rest of a route's law: an entry in use with its gain ramp. -/
structure Route.GainLaw (r : Route) : Prop where
  target : r.target ≤ 65535
  current : r.current ≤ 65535
  exponent : r.exponent ≤ 12
  remaining : r.remaining ≤ 4096
  ramp : rampLaw r.current r.target r.remaining r.step

theorem Route.law_iff (r : Route) : r.law ↔ (r.inUse = false → r = .free) ∧ r.GainLaw ∧ r.GateLaw ∧
    (r.clearing = true → r.target = 0 ∧ 0 < r.remaining) := by
  constructor
  · rintro ⟨hfree, ht, hc, he, hr, hramp, hclear, hg, hgr, hgate, hp⟩
    exact ⟨hfree, ⟨ht, hc, he, hr, hramp⟩, ⟨hg, hgr, hgate, hp⟩, hclear⟩
  · rintro ⟨hfree, ⟨ht, hc, he, hr, hramp⟩, ⟨hg, hgr, hgate, hp⟩, hclear⟩
    exact ⟨hfree, ht, hc, he, hr, hramp, hclear, hg, hgr, hgate, hp⟩

theorem Route.ramped_inUse (r : Route) : r.ramped.inUse = r.inUse := by
  unfold Route.ramped; split <;> rfl

theorem Route.ramped_gateLaw {r : Route} (h : r.GateLaw) : r.ramped.GateLaw := by
  unfold Route.ramped
  split <;> exact ⟨h.factor, h.remaining, h.ramp, h.pgm⟩

/-- A gain ramp starts in form from any target and gain in range. -/
theorem Route.ramped_gainLaw {r : Route} (ht : r.target ≤ 65535) (hc : r.current ≤ 65535) (he : r.exponent ≤ 12) :
    r.ramped.GainLaw := by
  unfold Route.ramped
  split
  · rename_i heq
    exact ⟨ht, hc, he, Nat.zero_le _, by rw [← heq]; exact rampLaw_rest _ _⟩
  · have hpow : 2 ^ r.exponent ≤ 2 ^ 12 := Nat.pow_le_pow_right (by decide) he
    exact ⟨ht, hc, he, by omega, rampLaw_start _ _ _ (Nat.two_pow_pos _)⟩

/-- A ramp toward a target that is not the gain has frames to go. -/
theorem Route.ramped_running {r : Route} (h : r.target ≠ r.current) : 0 < r.ramped.remaining := by
  simp [Route.ramped, h]

theorem Route.ramped_clearing (r : Route) : r.ramped.clearing = r.clearing ∧ r.ramped.target = r.target := by
  unfold Route.ramped; split <;> exact ⟨rfl, rfl⟩

theorem rampExponent_le (k : Nat) : rampExponent k ≤ 12 := by
  unfold rampExponent; split <;> omega

/-! ### One frame of a route -/

theorem Route.rampFrame_gainLaw {r : Route} (h : r.GainLaw) : r.rampFrame.GainLaw := by
  obtain ⟨ht, hc, he, hr, hramp⟩ := h
  unfold Route.rampFrame
  split
  · exact ⟨ht, hc, he, hr, hramp⟩
  · split
    · exact ⟨ht, ht, he, Nat.zero_le _, rampLaw_rest _ _⟩
    · obtain ⟨n, hn⟩ : ∃ n, r.remaining = n + 2 := ⟨r.remaining - 2, by omega⟩
      rw [hn] at hramp
      obtain ⟨hstep, hle⟩ := rampLaw_step hramp
      refine ⟨ht, ?_, he, ?_, ?_⟩
      · exact hle.trans (max_le hc ht)
      · show r.remaining - 1 ≤ 4096
        omega
      · show rampLaw (r.current + r.step).toNat r.target (r.remaining - 1) r.step
        rw [hn]
        exact hstep

theorem Route.rampFrame_gateLaw {r : Route} (h : r.GateLaw) : r.rampFrame.GateLaw := by
  unfold Route.rampFrame
  split
  · exact h
  · split <;> exact ⟨h.factor, h.remaining, h.ramp, h.pgm⟩

theorem Route.gateFrame_gateLaw {r : Route} (h : r.GateLaw) : r.gateFrame.GateLaw := by
  obtain ⟨hf, hr, hramp, hp⟩ := h
  unfold Route.gateFrame
  split
  · exact ⟨hf, hr, hramp, hp⟩
  · split
    · exact ⟨gateGoal_le _, Nat.zero_le _, rampLaw_rest _ _, hp⟩
    · obtain ⟨n, hn⟩ : ∃ n, r.gateRemaining = n + 2 := ⟨r.gateRemaining - 2, by omega⟩
      rw [hn] at hramp
      obtain ⟨hstep, hle⟩ := rampLaw_step hramp
      refine ⟨?_, ?_, ?_, hp⟩
      · exact hle.trans (max_le hf (gateGoal_le _))
      · show r.gateRemaining - 1 ≤ 512
        omega
      · show rampLaw (r.gateFactor + r.gateStep).toNat (gateGoal r.gateOpen) (r.gateRemaining - 1) r.gateStep
        rw [hn]
        exact hstep

theorem Route.gateRamped_gateLaw {r : Route} (h : r.GateLaw) (opened : Bool) : (r.gateRamped opened).GateLaw := by
  unfold Route.gateRamped
  split
  · rename_i hrest
    refine ⟨h.factor, h.remaining, ?_, h.pgm⟩
    show rampLaw r.gateFactor (gateGoal opened) r.gateRemaining r.gateStep
    rw [hrest.1, hrest.2]
    exact rampLaw_rest _ _
  · exact ⟨h.factor, Nat.le_refl 512, rampLaw_start _ _ 512 (by decide), h.pgm⟩

theorem State.gateStage_gateLaw (s : State) {r : Route} (h : r.GateLaw) : (s.gateStage r).GateLaw := by
  unfold State.gateStage
  split
  · exact h
  · split
    · exact Route.gateFrame_gateLaw h
    · exact Route.gateRamped_gateLaw h _

/-- The gate's stage leaves the gain, the target and the entry's standing. -/
theorem State.gateStage_keeps (s : State) (r : Route) :
    (r.GainLaw → (s.gateStage r).GainLaw) ∧ (s.gateStage r).inUse = r.inUse ∧
      (s.gateStage r).clearing = r.clearing ∧ (s.gateStage r).target = r.target := by
  have same (g : Route) (hg : g = { r with
      gateFactor := g.gateFactor, gateRemaining := g.gateRemaining, gateStep := g.gateStep
      gateOpen := g.gateOpen }) :
      (r.GainLaw → g.GainLaw) ∧ g.inUse = r.inUse ∧ g.clearing = r.clearing ∧ g.target = r.target := by
    rw [hg]
    exact ⟨fun h => ⟨h.target, h.current, h.exponent, h.remaining, h.ramp⟩, rfl, rfl, rfl⟩
  unfold State.gateStage
  split
  · exact same _ rfl
  · split
    · unfold Route.gateFrame
      split
      · exact same _ rfl
      · split <;> exact same _ rfl
    · unfold Route.gateRamped
      split <;> exact same _ rfl

theorem Route.rampFrame_keeps (r : Route) : r.rampFrame.inUse = r.inUse ∧ r.rampFrame.clearing = r.clearing ∧
    r.rampFrame.target = r.target := by
  unfold Route.rampFrame
  split
  · exact ⟨rfl, rfl, rfl⟩
  · split <;> exact ⟨rfl, rfl, rfl⟩

/-- The entry that stage 2 leaves in a route's place. -/
def State.stageEntry (s : State) (r : Route) : Route :=
  if (s.rampStage r).ended then .free else s.rampStage r

/-- Stage 2 keeps the law of each route: an ended clearing route is freed, and every other goes one frame on. -/
theorem State.stageEntry_law (s : State) {r : Route} (h : r.law) : (s.stageEntry r).law := by
  obtain ⟨hfree, hgain, hgate, hclear⟩ := (Route.law_iff r).mp h
  unfold State.stageEntry
  split
  · exact Route.free_law
  · rename_i hended
    unfold State.rampStage at hended ⊢
    split at hended
    · rename_i huse
      rw [if_pos huse]
      obtain ⟨hgain', huse', hclear', htarget'⟩ := s.gateStage_keeps r
      obtain ⟨huse'', hclear'', htarget''⟩ := (s.gateStage r).rampFrame_keeps
      have hin : (s.gateStage r).rampFrame.inUse = true := by rw [huse'', huse', huse]
      refine (Route.law_iff _).mpr ⟨fun hno => ?_, Route.rampFrame_gainLaw (hgain' hgain),
        Route.rampFrame_gateLaw (s.gateStage_gateLaw hgate), fun hc => ⟨?_, ?_⟩⟩
      · rw [hin] at hno
        cases hno
      · rw [htarget'', htarget']
        exact (hclear (by rw [← hclear', ← hclear'', hc])).1
      · have : (s.gateStage r).rampFrame.remaining ≠ 0 := fun hz =>
          hended (by simp [Route.ended, hin, hc, hz])
        omega
    · rename_i huse
      rw [if_neg huse]
      exact h

/-! ### The duck state -/

theorem moveToward_le {x goal rate n : Nat} (hx : x ≤ n) (hg : goal ≤ n) : moveToward x goal rate ≤ n := by
  unfold moveToward
  split <;> split <;> omega

theorem duckStep_le {duck : DuckSettings} {d : Nat} (hd : d ≤ 16384) (hdepth : duck.depth ≤ 16384) (b : Bool) :
    duckStep duck b d ≤ 16384 := by
  unfold duckStep
  split
  · exact moveToward_le hd hdepth
  · exact moveToward_le hd (Nat.le_refl _)

theorem voiceCount_le (b : Bool) (n : Nat) : voiceCount b n ≤ 48001 := by
  unfold voiceCount
  split
  · omega
  · split <;> omega

/-! ### The whole engine -/

theorem State.mixFrame_mixLaw {s : State} (h : s.mixLaw) : s.mixFrame.mixLaw := by
  obtain ⟨hroutes, hduck, -, hdepth, hhold⟩ := h
  refine ⟨fun i => ?_, duckStep_le hduck hdepth _, voiceCount_le _ _, hdepth, hhold⟩
  show (s.ramped[i]).law
  have : s.ramped[i] = s.stageEntry s.mix.routes[i] := vmap_get _ _ i
  rw [this]
  exact s.stageEntry_law (hroutes i)

theorem State.setRoute_mixLaw {s : State} (h : s.mixLaw) (i : RouteId) {r : Route} (hr : r.law) :
    (s.setRoute i r).mixLaw := by
  obtain ⟨hroutes, hrest⟩ := h
  refine ⟨fun j => ?_, hrest⟩
  show ((vset s.mix.routes i r)[j]).law
  rw [vset_get]
  split
  · exact hr
  · exact hroutes j

theorem Route.restarted_law {r : Route} (h : r.law) : r.restarted.law := by
  unfold Route.restarted
  split
  · exact h
  · rename_i huse
    split
    · exact Route.free_law
    · rename_i hclear
      obtain ⟨-, hgain, hgate, -⟩ := (Route.law_iff r).mp h
      refine (Route.law_iff _).mpr ⟨fun hno => ?_, ⟨hgain.target, hgain.target, hgain.exponent, Nat.zero_le _,
        rampLaw_rest _ _⟩, ⟨Nat.zero_le _, Nat.zero_le _, rampLaw_rest 0 0, hgate.pgm⟩, fun hc => absurd hc hclear⟩
      simp_all

/-- The entry that ROUTE_SET writes is in form. -/
theorem Route.written_law (source : RouteSource) (bus : Bus) (target exponent : Nat) (v d : Bool)
    (ht : target ≤ 65535) (hp : (v || d) = true → bus = .pgm) :
    (Route.ramped { Route.free with
      inUse := true, source := source, destination := bus, target := target
      exponent := rampExponent exponent, voice := v, duckable := d }).law := by
  refine (Route.law_iff _).mpr ⟨fun hno => ?_, Route.ramped_gainLaw ht (Nat.zero_le _) (rampExponent_le _),
    Route.ramped_gateLaw ⟨Nat.zero_le _, Nat.zero_le _, rampLaw_rest 0 0, fun h => hp (by simpa using h)⟩,
    fun hc => ?_⟩
  · rw [Route.ramped_inUse] at hno
    cases hno
  · rw [(Route.ramped_clearing _).1] at hc
    cases hc

/-- A new target for a route in use that is not clearing keeps its law. -/
theorem Route.retargeted_law {r : Route} (h : r.law) (huse : r.inUse = true) (hclear : r.clearing = false)
    (target exponent : Nat) (ht : target ≤ 65535) :
    (Route.ramped { r with target := target, exponent := rampExponent exponent }).law := by
  obtain ⟨-, hgain, hgate, -⟩ := (Route.law_iff r).mp h
  refine (Route.law_iff _).mpr ⟨fun hno => ?_, Route.ramped_gainLaw ht hgain.current (rampExponent_le _),
    Route.ramped_gateLaw ⟨hgate.factor, hgate.remaining, hgate.ramp, hgate.pgm⟩, fun hc => ?_⟩
  · rw [Route.ramped_inUse] at hno
    exact absurd (huse.symm.trans hno) (by decide)
  · rw [(Route.ramped_clearing _).1] at hc
    exact absurd (hclear.symm.trans hc) (by decide)

theorem Route.cleared_law {r : Route} (h : r.law) (huse : r.inUse = true) (exponent : Nat) :
    (r.cleared exponent).law := by
  obtain ⟨-, hgain, hgate, -⟩ := (Route.law_iff r).mp h
  unfold Route.cleared
  split
  · exact Route.free_law
  · rename_i hcur
    refine (Route.law_iff _).mpr ⟨fun hno => ?_,
      Route.ramped_gainLaw (Nat.zero_le _) hgain.current (rampExponent_le _),
      Route.ramped_gateLaw ⟨hgate.factor, hgate.remaining, hgate.ramp, hgate.pgm⟩,
      fun _ => ⟨(Route.ramped_clearing _).2, Route.ramped_running (Ne.symm hcur)⟩⟩
    rw [Route.ramped_inUse] at hno
    exact absurd (huse.symm.trans hno) (by decide)

end Sys2Proof.Machine
end

section
/-!
SUPPORT. The link's law: the block being gathered, the ports' health, the active port and the revert timer.
-/

namespace Sys2Proof.Machine

/-! ### The law in two parts -/

/-- The link's law but for its revert timer. -/
structure Link.Formed (l : Link) : Prop where
  block : l.blockLength = 48 ∨ l.blockLength = 96 ∨ l.blockLength = 192
  next : l.nextLength = 48 ∨ l.nextLength = 96 ∨ l.nextLength = 192
  phase : l.phase < l.blockLength
  gathered : l.gathered.length = l.phase
  counter : l.counter ≤ 4294967295
  timeoutLow : 250 ≤ l.timeoutMs
  timeoutHigh : l.timeoutMs ≤ 10000
  silent : ∀ p : Port, (l.port p).heartbeat = 0 ↔ (l.port p).health = .down
  beating : ∀ p : Port, (l.port p).heartbeat ≤ l.timeoutMs * 48
  lagging : ∀ p : Port, (l.port p).health = .lagging → l.active = p

/-- The revert timer runs under its three conditions alone (R187). -/
def Link.RevertsInForm (l : Link) : Prop :=
  l.revertive = true ∧ l.preferred ≠ l.active ∧ (l.port l.preferred).health = .up ∨ l.revertTimer = 0

theorem Link.law_iff (l : Link) : l.law ↔ l.Formed ∧ l.RevertsInForm := by
  constructor
  · rintro ⟨h1, h2, h3, h4, h5, h6, h7, h8, h9, h10, h11⟩
    exact ⟨⟨h1, h2, h3, h4, h5, h6, h7, h8, h9, h10⟩, h11⟩
  · rintro ⟨⟨h1, h2, h3, h4, h5, h6, h7, h8, h9, h10⟩, h11⟩
    exact ⟨h1, h2, h3, h4, h5, h6, h7, h8, h9, h10, h11⟩

/-! ### The port records -/

theorem Link.setPort_port (l : Link) (p q : Port) (x : PortRecord) :
    (l.setPort p x).port q = if q = p then x else l.port q := by
  cases p <;> cases q <;> rfl

/-- The fields of the link other than its port records, kept by every change of a port record. -/
theorem Link.setPort_eq (l : Link) (p : Port) (x : PortRecord) :
    l.setPort p x = { l with portA := (l.setPort p x).portA, portB := (l.setPort p x).portB } := by
  cases p <;> rfl

theorem Link.Formed.setPort {l : Link} (h : l.Formed) (p : Port) {x : PortRecord}
    (hs : x.heartbeat = 0 ↔ x.health = .down) (hb : x.heartbeat ≤ l.timeoutMs * 48)
    (hl : x.health = .lagging → l.active = p) : (l.setPort p x).Formed := by
  obtain ⟨h1, h2, h3, h4, h5, h6, h7, h8, h9, h10⟩ := h
  have ports (P : Port → PortRecord → Prop) (hx : P p x) (hl : ∀ q, P q (l.port q)) (q : Port) :
      P q ((l.setPort p x).port q) := by
    rw [Link.setPort_port]
    split
    · subst_vars; exact hx
    · exact hl q
  have p8 := ports (fun _ y => y.heartbeat = 0 ↔ y.health = .down) hs h8
  have p9 := ports (fun _ y => y.heartbeat ≤ l.timeoutMs * 48) hb h9
  have p10 := ports (fun q y => y.health = .lagging → l.active = q) hl h10
  rw [Link.setPort_eq] at p8 p9 p10 ⊢
  exact ⟨h1, h2, h3, h4, h5, h6, h7, p8, p9, p10⟩

/-- A port that is heard, with a timer that runs, may change its health to any but DOWN; LAGGING is the active port's
alone. -/
theorem Linked.setHealth_formed {x : Linked} (h : x.link.Formed) (p : Port) (n : Health)
    (hs : (x.link.port p).heartbeat = 0 ↔ n = .down) (hl : n = .lagging → x.link.active = p) :
    (x.setHealth p n).link.Formed := by
  unfold Linked.setHealth
  dsimp only
  split
  · exact h
  · exact h.setPort p hs (h.beating p) hl

theorem Linked.setHealth_active (x : Linked) (p : Port) (n : Health) :
    (x.setHealth p n).link.active = x.link.active := by
  unfold Linked.setHealth
  dsimp only
  split
  · rfl
  · rw [Link.setPort_eq]

theorem Linked.setHealth_port (x : Linked) (p q : Port) (n : Health) :
    ((x.setHealth p n).link.port q).health = if q = p then n else (x.link.port q).health := by
  unfold Linked.setHealth
  dsimp only
  split
  · split <;> simp_all
  · rw [Link.setPort_port]
    split <;> rfl

/-- A change of the active port's health leaves the revert timer in form. -/
theorem Linked.setHealth_active_reverts {x : Linked} (h : x.link.RevertsInForm) (n : Health) :
    (x.setHealth x.link.active n).link.RevertsInForm := by
  unfold Linked.setHealth
  dsimp only
  split
  · exact h
  · rcases h with ⟨hr, hp, hu⟩ | ht
    · refine .inl ?_
      have hport := Link.setPort_port x.link x.link.active x.link.preferred
        { x.link.port x.link.active with health := n }
      rw [if_neg hp] at hport
      rw [Link.setPort_eq] at hport ⊢
      exact ⟨hr, hp, by rw [hport]; exact hu⟩
    · rw [Link.setPort_eq]
      exact .inr ht

/-! ### Lag, site and the revert check -/

theorem Link.Formed.heard {l : Link} (h : l.Formed) {p : Port} (hp : (l.port p).health ≠ .down) {n : Health}
    (hn : n ≠ .down) : (l.port p).heartbeat = 0 ↔ n = .down :=
  ⟨fun hz => absurd ((h.silent p).mp hz) hp, fun hd => absurd hd hn⟩

theorem Linked.lagTest_formed {x : Linked} (h : x.link.Formed) : x.lagTest.link.Formed := by
  unfold Linked.lagTest
  dsimp only
  split
  · rename_i hup
    split
    · exact Linked.setHealth_formed h _ _ (h.heard (by simp [hup]) nofun) fun _ => rfl
    · exact h
  · rename_i hlag
    split
    · exact Linked.setHealth_formed h _ _ (h.heard (by simp [hlag]) nofun) nofun
    · exact h
  · exact h
  · exact h

theorem Linked.lagTest_reverts {x : Linked} (h : x.link.RevertsInForm) : x.lagTest.link.RevertsInForm := by
  unfold Linked.lagTest
  dsimp only
  split
  · split
    · exact Linked.setHealth_active_reverts h _
    · exact h
  · split
    · exact Linked.setHealth_active_reverts h _
    · exact h
  · exact h
  · exact h

theorem Linked.lagTest_law {x : Linked} (h : x.link.law) : x.lagTest.link.law := by
  obtain ⟨hf, hr⟩ := (Link.law_iff _).mp h
  exact (Link.law_iff _).mpr ⟨Linked.lagTest_formed hf, Linked.lagTest_reverts hr⟩

/-- Following the site status changes that status and the mismatch flag alone. -/
theorem Linked.followSite_link (x : Linked) (threshold : Nat) :
    ∃ site mismatch, (x.followSite threshold).link = { x.link with site := site, mismatch := mismatch } := by
  have carrier (x : Linked) (v : Option Carrier) :
      ∃ site, (x.followCarrier v).link = { x.link with site := site } := by
    unfold Linked.followCarrier
    split
    · exact ⟨_, rfl⟩
    · split <;> exact ⟨_, rfl⟩
  have power (x : Linked) (v : Option SitePower) :
      ∃ site, (x.followPower v).link = { x.link with site := site } := by
    unfold Linked.followPower
    split
    · exact ⟨_, rfl⟩
    · split <;> exact ⟨_, rfl⟩
  have silence (x : Linked) (v : Option Bool) :
      ∃ site, (x.followSilence v).link = { x.link with site := site } := by
    unfold Linked.followSilence
    split
    · exact ⟨_, rfl⟩
    · split <;> exact ⟨_, rfl⟩
  have test (x : Linked) : ∃ mismatch, (x.mismatchTest threshold).link = { x.link with mismatch := mismatch } := by
    unfold Linked.mismatchTest
    dsimp only
    split <;> exact ⟨_, rfl⟩
  unfold Linked.followSite
  dsimp only
  obtain ⟨m, hm⟩ := test (((x.followCarrier (x.link.port x.link.active).site.carrier).followPower
    (x.link.port x.link.active).site.power).followSilence (x.link.port x.link.active).site.silence)
  obtain ⟨a, ha⟩ := silence ((x.followCarrier (x.link.port x.link.active).site.carrier).followPower
    (x.link.port x.link.active).site.power) (x.link.port x.link.active).site.silence
  obtain ⟨b, hb⟩ := power (x.followCarrier (x.link.port x.link.active).site.carrier)
    (x.link.port x.link.active).site.power
  obtain ⟨c, hc⟩ := carrier x (x.link.port x.link.active).site.carrier
  exact ⟨a, m, by rw [hm, ha, hb, hc]⟩

theorem Linked.followSite_law {x : Linked} (h : x.link.law) (threshold : Nat) :
    (x.followSite threshold).link.law := by
  obtain ⟨site, mismatch, heq⟩ := x.followSite_link threshold
  rw [heq]
  exact h

theorem Link.Formed.withRevertTimer {l : Link} (h : l.Formed) (n : Nat) : ({ l with revertTimer := n }).Formed :=
  ⟨h.block, h.next, h.phase, h.gathered, h.counter, h.timeoutLow, h.timeoutHigh, h.silent, h.beating, h.lagging⟩

theorem Link.reverting_iff (l : Link) : l.reverting = true ↔
    l.revertive = true ∧ l.preferred ≠ l.active ∧ (l.port l.preferred).health = .up := by
  simp [Link.reverting, and_assoc]

/-- The revert check completes the law. -/
theorem Linked.checkRevert_law {x : Linked} (h : x.link.Formed) : x.checkRevert.link.law := by
  unfold Linked.checkRevert
  split
  · rename_i hr
    exact (Link.law_iff _).mpr ⟨h, .inl ((Link.reverting_iff _).mp hr)⟩
  · exact (Link.law_iff _).mpr ⟨h.withRevertTimer 0, .inr rfl⟩

/-! ### The active port -/

theorem Linked.settleOld_formed {x : Linked} (h : x.link.Formed) (p : Port) : (x.settleOld p).link.Formed := by
  unfold Linked.settleOld
  split
  · rename_i hlag
    exact Linked.setHealth_formed h p .up (h.heard (by simp [hlag]) nofun) nofun
  · exact h

/-- Once the active port has been settled, no port is LAGGING. -/
theorem Linked.settleOld_unlagged {x : Linked} (h : x.link.Formed) (q : Port) :
    ((x.settleOld x.link.active).link.port q).health ≠ .lagging := by
  unfold Linked.settleOld
  split
  · rw [Linked.setHealth_port]
    split
    · nofun
    · rename_i hq
      exact fun hl => hq (h.lagging q hl).symm
  · rename_i hno
    intro hl
    exact hno (by rw [h.lagging q hl]; exact hl)

theorem Linked.makeActive_law {x : Linked} (h : x.link.Formed) (p : Port) (cause : PortCause) (threshold : Nat) :
    (x.makeActive p cause threshold).link.law := by
  have settled := Linked.settleOld_formed h x.link.active
  have moved : ({ (x.settleOld x.link.active).link with active := p }).Formed :=
    ⟨settled.block, settled.next, settled.phase, settled.gathered, settled.counter, settled.timeoutLow,
      settled.timeoutHigh, settled.silent, settled.beating,
      fun q hq => absurd hq (Linked.settleOld_unlagged h q)⟩
  unfold Linked.makeActive
  dsimp only
  refine Linked.followSite_law ?_ threshold
  exact Linked.checkRevert_law (Linked.lagTest_formed
    (x := { x.settleOld x.link.active with link := { (x.settleOld x.link.active).link with active := p } }) moved)

theorem Link.law.formed {l : Link} (h : l.law) : l.Formed := ((Link.law_iff l).mp h).1

theorem Linked.portDown_formed {x : Linked} (h : x.link.Formed) (p : Port) (threshold : Nat) :
    (x.portDown p threshold).link.Formed := by
  have active (q : Port) : (x.makeActive q .portDown threshold).link.Formed :=
    (Linked.makeActive_law h q .portDown threshold).formed
  unfold Linked.portDown
  split
  · split
    · exact active _
    · exact active _
    · exact h
    · exact h
  · split <;> exact h

theorem Linked.portUp_formed {x : Linked} (h : x.link.Formed) (p : Port) (threshold : Nat) :
    (x.portUp p threshold).link.Formed := by
  unfold Linked.portUp
  split
  · exact (Linked.makeActive_law h p .portUp threshold).formed
  · exact h

/-! ### The health machine -/

theorem Link.Formed.timeout_pos {l : Link} (h : l.Formed) : l.timeout ≠ 0 := by
  have := h.timeoutLow
  unfold Link.timeout
  omega

/-- A port whose timer has been set to the timeout and whose health is not DOWN. -/
theorem Link.Formed.timed {l : Link} (h : l.Formed) (p : Port) {x : PortRecord} (hb : x.heartbeat = l.timeout)
    (hd : x.health ≠ .down) (hl : x.health = .lagging → l.active = p) : (l.setPort p x).Formed :=
  h.setPort p ⟨fun hz => absurd (hb ▸ hz) h.timeout_pos, fun hz => absurd hz hd⟩ (Nat.le_of_eq hb) hl

theorem Linked.setHealth_of_other (x : Linked) (p : Port) (n : Health) (h : (x.link.port p).health ≠ n) :
    (x.setHealth p n).link = x.link.setPort p { x.link.port p with health := n } := by
  unfold Linked.setHealth
  dsimp only
  rw [if_neg h]

theorem Link.setPort_setPort (l : Link) (p : Port) (x y : PortRecord) :
    (l.setPort p x).setPort p y = l.setPort p y := by
  cases p <;> rfl

theorem Linked.heard_formed {x : Linked} (h : x.link.Formed) (p : Port) (threshold : Nat) :
    (x.heard p threshold).link.Formed := by
  unfold Linked.heard
  dsimp only
  split
  · rename_i hdown
    rw [Linked.setHealth_of_other _ _ _ (by simp [Link.setPort_port, hdown])]
    rw [Link.setPort_setPort, Link.setPort_port, if_pos rfl]
    exact h.timed p rfl nofun nofun
  · rename_i hprov
    have proved : (x.link.setPort p { x.link.port p with
        heartbeat := x.link.timeout, proving := (x.link.port p).proving + 1 }).Formed :=
      h.timed p rfl (by simp [hprov]) (by simp [hprov])
    split
    · refine Linked.portUp_formed (Linked.setHealth_formed proved p .up ?_ nofun) p threshold
      rw [Link.setPort_port, if_pos rfl]
      exact ⟨fun hz => absurd hz h.timeout_pos, nofun⟩
    · exact proved
  · rename_i hup
    exact h.timed p rfl (by simp [hup]) (by simp [hup])
  · rename_i hlag
    exact h.timed p rfl (by simp [hlag]) (fun _ => h.lagging p hlag)

theorem Linked.silent_law {x : Linked} (h : x.link.Formed) (p : Port) (threshold : Nat) :
    (x.silent p threshold).link.law := by
  have setDown (y : PortRecord) (hy : y.heartbeat = 0) :
      (Linked.setHealth { x with link := x.link.setPort p y } p .down).link.Formed := by
    by_cases hd : y.health = .down
    · have hsame : Linked.setHealth { x with link := x.link.setPort p y } p .down =
          { x with link := x.link.setPort p y } := by
        unfold Linked.setHealth
        dsimp only
        rw [if_pos (by rw [Link.setPort_port, if_pos rfl, hd])]
      rw [hsame]
      exact h.setPort p ⟨fun _ => hd, fun _ => hy⟩ (by omega) (by simp [hd])
    · rw [Linked.setHealth_of_other _ _ _ (by rw [Link.setPort_port, if_pos rfl]; exact hd)]
      rw [Link.setPort_setPort, Link.setPort_port, if_pos rfl]
      exact h.setPort p ⟨fun _ => rfl, fun _ => hy⟩ (by simp [hy]) nofun
  exact Linked.checkRevert_law (Linked.portDown_formed (setDown _ rfl) p threshold)

/-- A port record changed in fields that the law does not speak of, or in a timer that runs on, keeps the law. -/
theorem Link.law.setPort {l : Link} (h : l.law) (p : Port) {x : PortRecord} (hh : x.health = (l.port p).health)
    (hs : x.heartbeat = 0 ↔ (l.port p).health = .down) (hb : x.heartbeat ≤ l.timeoutMs * 48) :
    (l.setPort p x).law := by
  obtain ⟨hf, hr⟩ := (Link.law_iff l).mp h
  refine (Link.law_iff _).mpr ⟨hf.setPort p (by rw [hh]; exact hs) hb (fun hl => hf.lagging p (hh ▸ hl)), ?_⟩
  have hport := Link.setPort_port l p l.preferred x
  unfold Link.RevertsInForm at hr ⊢
  rw [Link.setPort_eq] at hport ⊢
  rcases hr with ⟨hv, hp, hu⟩ | ht
  · refine .inl ⟨hv, hp, ?_⟩
    rw [hport]
    split
    · rename_i hq
      rw [hh, ← hq, hu]
    · exact hu
  · exact .inr ht

theorem Linked.beat_law {x : Linked} (h : x.link.law) (p : Port) (threshold : Nat) :
    (x.beat p threshold).link.law := by
  unfold Linked.beat
  dsimp only
  split
  · exact h
  · rename_i hdown
    split
    · exact Linked.silent_law h.formed p threshold
    · rename_i hlong
      have hb := h.formed.beating p
      exact h.setPort p rfl ⟨fun hz => by simp at hz; omega, fun hd => absurd hd hdown⟩
        (by simp only; omega)

theorem Linked.revertFrame_law {x : Linked} (h : x.link.law) (threshold : Nat) :
    (x.revertFrame threshold).link.law := by
  unfold Linked.revertFrame
  split
  · exact (Link.law_iff _).mpr
      ⟨(Linked.makeActive_law h.formed _ .revert threshold).formed.withRevertTimer 0, .inr rfl⟩
  · split
    · rename_i hr
      exact (Link.law_iff _).mpr ⟨h.formed.withRevertTimer _, .inl ((Link.reverting_iff _).mp hr)⟩
    · exact (Link.law_iff _).mpr ⟨h.formed.withRevertTimer 0, .inr rfl⟩

theorem Linked.accept_law {x : Linked} (h : x.link.law) (p : Port) (counter : Nat) (site : SiteStatus)
    (threshold : Nat) : (x.accept p counter site threshold).link.law := by
  have recorded := h.setPort p (x := { x.link.port p with
    taken := stopCount (x.link.port p).taken, acknowledged := counter, site := site }) rfl
    (h.formed.silent p) (h.formed.beating p)
  have heard := Linked.checkRevert_law (Linked.heard_formed (x := { x with link := _ }) recorded.formed p threshold)
  unfold Linked.accept
  dsimp only
  split
  · exact Linked.followSite_law (Linked.lagTest_law heard) threshold
  · exact heard

theorem Link.discard_law {l : Link} (h : l.law) (p : Port) : (l.discard p).law :=
  h.setPort p rfl (h.formed.silent p) (h.formed.beating p)

/-! ### Blocks and settings -/

theorem Link.gather_law {l : Link} (h : l.law) (x : Stereo) (hp : (l.gather x).phase < (l.gather x).blockLength) :
    (l.gather x).law := by
  obtain ⟨hf, hr⟩ := (Link.law_iff l).mp h
  refine (Link.law_iff _).mpr ⟨⟨hf.block, hf.next, hp, ?_, hf.counter, hf.timeoutLow, hf.timeoutHigh, hf.silent,
    hf.beating, hf.lagging⟩, hr⟩
  simp [Link.gather, hf.gathered]

theorem Link.completed_law {l : Link} (h : l.law) (x : Stereo) (live : List Word32) :
    ((l.gather x).completed live).law := by
  obtain ⟨hf, hr⟩ := (Link.law_iff l).mp h
  refine (Link.law_iff _).mpr ⟨⟨hf.next, hf.next, ?_, rfl, ?_, hf.timeoutLow, hf.timeoutHigh, hf.silent,
    hf.beating, hf.lagging⟩, hr⟩
  · show 0 < l.nextLength
    have := hf.next
    omega
  · show nextSerial l.counter ≤ 4294967295
    unfold nextSerial
    omega

theorem PortRecord.limited_health (x : PortRecord) (n : Nat) : (x.limited n).health = x.health := by
  unfold PortRecord.limited
  split <;> rfl

/-- A heartbeat timer limited to a new timeout runs on exactly while it ran, and within the timeout. -/
theorem PortRecord.limited_heartbeat {x : PortRecord} {n : Nat} (h : x.heartbeat = 0 ↔ x.health = .down)
    (hn : n ≠ 0) : ((x.limited n).heartbeat = 0 ↔ x.health = .down) ∧ (x.limited n).heartbeat ≤ n := by
  unfold PortRecord.limited
  split
  · rename_i hd
    exact ⟨h, by have := h.mpr hd; omega⟩
  · rename_i hd
    refine ⟨⟨fun hz => absurd (h.mp ?_) hd, fun hz => absurd hz hd⟩, Nat.min_le_right _ _⟩
    simp only at hz
    omega

/-- The operands of LINK_SETUP that its checks let pass. -/
structure LinkChange.InRange (f : LinkChange) : Prop where
  block : ∀ n, f.blockLength = some n → n = 48 ∨ n = 96 ∨ n = 192
  timeout : ∀ n, f.timeoutMs = some n → 250 ≤ n ∧ n ≤ 10000

/-- The link with the settings of LINK_SETUP in place. -/
def Link.withSettings (l : Link) (f : LinkChange) : Link :=
  { l with
    nextLength := f.blockLength.getD l.nextLength
    timeoutMs := f.timeoutMs.getD l.timeoutMs
    lagLimit := f.lagLimit.getD l.lagLimit
    revertive := f.revertive.getD l.revertive
    revertHold := f.revertHold.getD l.revertHold
    preferred := f.preferred.getD l.preferred }

/-- The link with its running heartbeat timers limited to the timeout. -/
def Link.limitedPorts (l : Link) : Link :=
  { l with portA := l.portA.limited l.timeout, portB := l.portB.limited l.timeout }

/-- The link with the settings in place and, where a timeout was given, its timers limited. -/
def Link.retimed (l : Link) (f : LinkChange) : Link :=
  if f.timeoutMs.isSome then (l.withSettings f).limitedPorts else l.withSettings f

theorem Link.setUp_eq (l : Link) (f : LinkChange) : l.setUp f =
    if (l.withSettings f).revertive = l.revertive ∧ (l.withSettings f).preferred = l.preferred then l.retimed f
    else { l.retimed f with revertTimer := 0 } := rfl

theorem Link.limitedPorts_port (l : Link) (p : Port) : l.limitedPorts.port p = (l.port p).limited l.timeout := by
  cases p <;> rfl

theorem Link.withSettings_port (l : Link) (f : LinkChange) (p : Port) : (l.withSettings f).port p = l.port p := by
  cases p <;> rfl

theorem Link.retimed_formed {l : Link} (h : l.Formed) {f : LinkChange} (hf : f.InRange) : (l.retimed f).Formed := by
  have hnext : (l.withSettings f).nextLength = 48 ∨ (l.withSettings f).nextLength = 96 ∨
      (l.withSettings f).nextLength = 192 := by
    show f.blockLength.getD l.nextLength = 48 ∨ f.blockLength.getD l.nextLength = 96 ∨
      f.blockLength.getD l.nextLength = 192
    cases hb : f.blockLength with
    | none => exact h.next
    | some n => exact hf.block n hb
  unfold Link.retimed
  cases ht : f.timeoutMs with
  | none =>
    have htimeout : (l.withSettings f).timeoutMs = l.timeoutMs := by simp [Link.withSettings, ht]
    refine ⟨h.block, hnext, h.phase, h.gathered, h.counter, ?_, ?_, h.silent, fun p => ?_, h.lagging⟩
    · exact htimeout ▸ h.timeoutLow
    · exact htimeout ▸ h.timeoutHigh
    · exact htimeout ▸ h.beating p
  | some n =>
    have htimeout : (l.withSettings f).timeoutMs = n := by simp [Link.withSettings, ht]
    obtain ⟨hlow, hhigh⟩ := hf.timeout n ht
    have hpos : (l.withSettings f).timeout ≠ 0 := by
      unfold Link.timeout
      omega
    have port (p : Port) : (l.withSettings f).limitedPorts.port p = (l.port p).limited (l.withSettings f).timeout := by
      rw [Link.limitedPorts_port, Link.withSettings_port]
    have limit (p : Port) := PortRecord.limited_heartbeat (h.silent p) hpos
    refine ⟨h.block, hnext, h.phase, h.gathered, h.counter, htimeout ▸ hlow, htimeout ▸ hhigh, fun p => ?_,
      fun p => ?_, fun p hlag => h.lagging p ?_⟩
    · show ((l.withSettings f).limitedPorts.port p).heartbeat = 0 ↔
        ((l.withSettings f).limitedPorts.port p).health = .down
      rw [port, PortRecord.limited_health]
      exact (limit p).1
    · show ((l.withSettings f).limitedPorts.port p).heartbeat ≤ (l.withSettings f).timeout
      rw [port]
      exact (limit p).2
    · rw [← hlag]
      show _ = ((l.withSettings f).limitedPorts.port p).health
      rw [port, PortRecord.limited_health]

theorem Link.retimed_health (l : Link) (f : LinkChange) (p : Port) :
    ((l.retimed f).port p).health = (l.port p).health := by
  unfold Link.retimed
  split
  · rw [Link.limitedPorts_port, Link.withSettings_port, PortRecord.limited_health]
  · rw [Link.withSettings_port]

/-- What LINK_SETUP leaves of the link beside its settings and timers. -/
theorem Link.retimed_keeps (l : Link) (f : LinkChange) : (l.retimed f).active = l.active ∧
    (l.retimed f).revertTimer = l.revertTimer ∧ (l.retimed f).revertive = (l.withSettings f).revertive ∧
    (l.retimed f).preferred = (l.withSettings f).preferred := by
  unfold Link.retimed
  split <;> exact ⟨rfl, rfl, rfl, rfl⟩

theorem Link.setUp_law {l : Link} (h : l.law) {f : LinkChange} (hf : f.InRange) : (l.setUp f).law := by
  obtain ⟨hl, hr⟩ := (Link.law_iff l).mp h
  have formed := Link.retimed_formed hl hf
  rw [Link.setUp_eq]
  split
  · rename_i hsame
    obtain ⟨hv, hp⟩ := hsame
    obtain ⟨hactive, htimer, hrevertive, hpreferred⟩ := l.retimed_keeps f
    refine (Link.law_iff _).mpr ⟨formed, ?_⟩
    unfold Link.RevertsInForm at hr ⊢
    rw [hactive, htimer, hrevertive, hpreferred, hv, hp, Link.retimed_health]
    exact hr
  · exact (Link.law_iff _).mpr ⟨formed.withRevertTimer 0, .inr rfl⟩

end Sys2Proof.Machine
end

section
/-!
SUPPORT. The monitors' law, the extents of the store and the recent identities, under the operations of one event.
-/

namespace Sys2Proof.Machine

/-! ### Monitor cells -/

/-- The law of one monitor cell: CLEAR with its counters at 0 under OFF, and WARNING at silence and quiet cells
alone. -/
structure MonitorCell.InForm (x : MonitorCell) (mode : MonitorMode) (overload : Bool) : Prop where
  off : mode = .off → x.state = .clear ∧ x.persistence = 0 ∧ x.restoreCount = 0
  warning : x.state = .warning → overload = false

theorem Monitors.law_iff (m : Monitors) : m.law ↔ m.phase < 480 ∧
    (∀ c : Fin 18, (m.cells[c]).InForm (m.settings[cellSetting c]).mode (isOverloadSetting (cellSetting c))) ∧
    ∀ i : Fin 8, (m.settings[i]).warn ≤ (m.settings[i]).fault := by
  constructor
  · rintro ⟨hp, hoff, hwarn, htimes⟩
    exact ⟨hp, fun c => ⟨hoff c, hwarn c⟩, htimes⟩
  · rintro ⟨hp, hcell, htimes⟩
    exact ⟨hp, fun c => (hcell c).off, fun c => (hcell c).warning, htimes⟩

theorem MonitorCell.inForm_of_clear {x : MonitorCell}
    (h : x.state = .clear ∧ x.persistence = 0 ∧ x.restoreCount = 0) (mode : MonitorMode) (overload : Bool) :
    x.InForm mode overload :=
  ⟨fun _ => h, fun hw => absurd (h.1.symm.trans hw) nofun⟩

theorem MonitorCell.restoring_state (x : MonitorCell) (m : MonitorSetting) :
    (x.restoring m).state = x.state ∨ (x.restoring m).state = .clear := by
  unfold MonitorCell.restoring
  split
  · exact .inl rfl
  · split
    · exact .inr rfl
    · exact .inl rfl

/-- An overload cell is never in WARNING after its block unless it was before. -/
theorem MonitorCell.overloadBlock_warning {x : MonitorCell} {m : MonitorSetting} {hot : Bool}
    (h : (x.overloadBlock m hot).state = .warning) : x.state = .warning := by
  unfold MonitorCell.overloadBlock at h
  split at h
  · exact h
  · rcases x.restoring_state m with hs | hs
    · exact hs ▸ h
    · exact absurd (hs.symm.trans h) nofun
  · exact h
  · split at h
    · cases h
    · exact h

theorem MonitorCell.counted_inForm {x : MonitorCell} {m : MonitorSetting} {overload : Bool}
    (h : x.InForm m.mode overload) (hm : m.mode ≠ .off) : (x.counted overload m).InForm m.mode overload := by
  refine ⟨fun hoff => absurd hoff hm, fun hw => ?_⟩
  unfold MonitorCell.counted at hw
  split at hw
  · exact h.warning (MonitorCell.overloadBlock_warning hw)
  · rename_i hno
    simpa using hno

/-! ### The monitors under the operations of the rig -/

theorem Rig.setCell_monitorsLaw {r : Rig} (h : r.monitors.law) (c : Fin 18) {x : MonitorCell}
    (hx : x.InForm (r.monitors.settings[cellSetting c]).mode (isOverloadSetting (cellSetting c))) :
    (r.setCell c x).monitors.law := by
  obtain ⟨hp, hcell, htimes⟩ := (Monitors.law_iff _).mp h
  refine (Monitors.law_iff _).mpr ⟨hp, fun j => ?_, htimes⟩
  show ((vset r.monitors.cells c x)[j]).InForm _ _
  rw [vset_get]
  split
  · subst_vars; exact hx
  · exact hcell j

/-- The rig after operations that leave the store's library and the recent identities, and keep the monitors in
form. -/
structure Rig.Calm (r r' : Rig) : Prop where
  library : r'.library = r.library
  recent : r'.alerts.recent = r.alerts.recent
  monitors : r.monitors.law → r'.monitors.law

theorem Rig.Calm.refl (r : Rig) : r.Calm r := ⟨rfl, rfl, id⟩

theorem Rig.Calm.trans {r₁ r₂ r₃ : Rig} (h : r₁.Calm r₂) (k : r₂.Calm r₃) : r₁.Calm r₃ :=
  ⟨k.library.trans h.library, k.recent.trans h.recent, fun hm => k.monitors (h.monitors hm)⟩

theorem Rig.Beside.calm {r r' : Rig} (h : r.Beside r') : r.Calm r' :=
  ⟨h.library, h.recent, fun hm => h.monitors.symm ▸ hm⟩

theorem Rig.Ordered.calm {r r' : Rig} (h : r.Ordered r') : r.Calm r' := h.beside.calm

theorem Rig.reply_calm (r : Rig) (tag : Tag) (k : RequestKind) (st : Status) (d : List Nat) :
    r.Calm (r.reply tag k st d) := ⟨rfl, rfl, id⟩

theorem Rig.command_calm (r : Rig) (m : Outbound) : r.Calm (r.command m) := ⟨rfl, rfl, id⟩

theorem Rig.requestCommand_calm (r : Rig) (m : Outbound) : r.Calm (r.requestCommand m) := ⟨rfl, rfl, id⟩

theorem Rig.notify_calm (r : Rig) (n : LineNotice) : r.Calm (r.notify n) := ⟨rfl, rfl, id⟩

theorem Rig.handOn_calm (r : Rig) (c : Fin 18) (was : Bool) : r.Calm (r.handOn c was) := by
  unfold Rig.handOn
  split
  · exact .refl r
  · split
    · exact (r.evaluateOwner_sounded _).toBeside.calm
    · split
      · exact .refl r
      · split
        · split
          · exact .refl r
          · exact r.notify_calm _
        · exact r.notify_calm _

theorem Rig.endBlock_calm (r : Rig) (c : Fin 18) : r.Calm (r.endBlock c) := by
  unfold Rig.endBlock
  dsimp only
  refine Rig.Calm.trans ?_ (Rig.handOn_calm _ c _)
  have set : r.Calm (r.setCell c { (if (r.cell c).discard || (r.monitors.settings[cellSetting c]).mode == .off
      then r.cell c
      else (r.cell c).counted (isOverloadSetting (cellSetting c)) r.monitors.settings[cellSetting c]) with
        peakL := 0, peakR := 0, discard := false }) := by
    refine ⟨rfl, rfl, fun hm => Rig.setCell_monitorsLaw hm c ?_⟩
    have hcell : (r.cell c).InForm _ _ := ((Monitors.law_iff _).mp hm).2.1 c
    split
    · exact ⟨hcell.off, hcell.warning⟩
    · rename_i hon
      have hcounted := MonitorCell.counted_inForm hcell (by simp_all)
      exact ⟨hcounted.off, hcounted.warning⟩
  generalize (if (r.cell c).discard || (r.monitors.settings[cellSetting c]).mode == .off then r.cell c
      else (r.cell c).counted (isOverloadSetting (cellSetting c)) r.monitors.settings[cellSetting c]) = y at set ⊢
  split
  · exact set
  · exact set.trans (Rig.report_beside _ _).calm

theorem Rig.endBlocks_calm (r : Rig) : r.Calm r.endBlocks := by
  unfold Rig.endBlocks
  exact foldl_related Rig.Calm.refl Rig.Calm.trans (fun r c => r.endBlock_calm c) allCells r

theorem Rig.resetLineCells_calm (r : Rig) (k : LineId) : r.Calm (r.resetLineCells k) :=
  ⟨rfl, rfl, fun hm => Rig.setCell_monitorsLaw
    (Rig.setCell_monitorsLaw hm (quietCell k) (MonitorCell.inForm_of_clear ⟨rfl, rfl, rfl⟩ _ _)) (overloadCell k)
    (MonitorCell.inForm_of_clear ⟨rfl, rfl, rfl⟩ _ _)⟩

theorem Rig.handOnAll_calm (r : Rig) (cs : List (Fin 18)) (m : Monitors) : r.Calm (r.handOnAll cs m) := by
  unfold Rig.handOnAll
  exact foldl_related Rig.Calm.refl Rig.Calm.trans (fun r c => r.handOn_calm c _) cs r

/-- Cells changed together by a change that clears them: the named cells are changed, the others and the settings
stay. -/
theorem Rig.changeCells_spec (r : Rig) (cs : List (Fin 18)) (f : MonitorCell → MonitorCell) :
    (r.changeCells cs f).library = r.library ∧ (r.changeCells cs f).alerts = r.alerts ∧
      (r.changeCells cs f).monitors.settings = r.monitors.settings ∧
      (r.changeCells cs f).monitors.phase = r.monitors.phase ∧
      ∀ c, (r.changeCells cs f).cell c = r.cell c ∨ ∃ x, (r.changeCells cs f).cell c = f x := by
  unfold Rig.changeCells
  induction cs generalizing r with
  | nil => exact ⟨rfl, rfl, rfl, rfl, fun _ => .inl rfl⟩
  | cons b cs ih =>
    obtain ⟨hl, ha, hs, hp, hc⟩ := ih (r.setCell b (f (r.cell b)))
    refine ⟨hl, ha, hs, hp, fun c => ?_⟩
    rcases hc c with h | h
    · rw [List.foldl_cons, h, Rig.cell_setCell]
      split
      · exact .inr ⟨_, rfl⟩
      · exact .inl rfl
    · exact .inr h

/-- A cell that is named among those changed together has been changed. -/
theorem Rig.changeCells_named (r : Rig) (cs : List (Fin 18)) (f : MonitorCell → MonitorCell) (c : Fin 18)
    (hc : c ∈ cs) : ∃ x, (r.changeCells cs f).cell c = f x := by
  unfold Rig.changeCells
  induction cs generalizing r with
  | nil => cases hc
  | cons b cs ih =>
    rw [List.foldl_cons]
    by_cases hin : c ∈ cs
    · exact ih _ hin
    · have hb : c = b := by simpa [hin] using hc
      subst hb
      obtain ⟨-, -, -, -, hkeep⟩ := Rig.changeCells_spec (r.setCell c (f (r.cell c))) cs f
      rcases hkeep c with h | h
      · exact ⟨r.cell c, h.trans (by rw [Rig.cell_setCell, if_pos rfl])⟩
      · exact h

theorem mem_cellsOf (c : Fin 18) (i : Fin 8) : c ∈ cellsOf i ↔ cellSetting c = i := by
  unfold cellsOf
  rw [List.mem_filter]
  have hall : c ∈ allCells := by revert c; decide
  simp [hall]

theorem Rig.clearCells_calm (r : Rig) (cs : List (Fin 18)) : r.Calm (r.changeCells cs MonitorCell.cleared) := by
  obtain ⟨hl, ha, hs, hp, hc⟩ := r.changeCells_spec cs MonitorCell.cleared
  refine ⟨hl, congrArg Alerts.recent ha, fun hm => ?_⟩
  obtain ⟨hphase, hcell, htimes⟩ := (Monitors.law_iff _).mp hm
  refine (Monitors.law_iff _).mpr ⟨hp ▸ hphase, fun c => ?_, fun i => hs ▸ htimes i⟩
  rw [hs]
  show ((r.changeCells cs MonitorCell.cleared).cell c).InForm _ _
  rcases hc c with h | ⟨x, h⟩ <;> rw [h]
  · exact hcell c
  · exact MonitorCell.inForm_of_clear ⟨rfl, rfl, rfl⟩ _ _

/-- The rig with a monitor setting replaced. -/
def Rig.withSetting (r : Rig) (i : Fin 8) (m : MonitorSetting) : Rig :=
  { r with monitors := { r.monitors with settings := vset r.monitors.settings i m } }

/-- A replaced setting keeps its times in order. -/
theorem Rig.withSetting_times {r : Rig} {i : Fin 8} {m : MonitorSetting} (hm : m.warn ≤ m.fault)
    (h : ∀ j : Fin 8, (r.monitors.settings[j]).warn ≤ (r.monitors.settings[j]).fault) (j : Fin 8) :
    ((r.withSetting i m).monitors.settings[j]).warn ≤ ((r.withSetting i m).monitors.settings[j]).fault := by
  show ((vset r.monitors.settings i m)[j]).warn ≤ ((vset r.monitors.settings i m)[j]).fault
  rw [vset_get]
  split
  · exact hm
  · exact h j

/-- A setting whose mode becomes OFF, with its cells cleared. -/
theorem Rig.withSetting_switchedOff_calm (r : Rig) (i : Fin 8) {m : MonitorSetting} (hm : m.warn ≤ m.fault) :
    r.Calm ((r.withSetting i m).changeCells (cellsOf i) MonitorCell.switchedOff) := by
  obtain ⟨hl, ha, hs, hp, hc⟩ := (r.withSetting i m).changeCells_spec (cellsOf i) MonitorCell.switchedOff
  have hnamed := (r.withSetting i m).changeCells_named (cellsOf i) MonitorCell.switchedOff
  refine ⟨hl, congrArg Alerts.recent ha, fun hlaw => ?_⟩
  obtain ⟨hphase, hcell, htimes⟩ := (Monitors.law_iff _).mp hlaw
  refine (Monitors.law_iff _).mpr ⟨hp ▸ hphase, fun c => ?_, fun j => hs ▸ Rig.withSetting_times hm htimes j⟩
  rw [hs]
  show (((r.withSetting i m).changeCells (cellsOf i) MonitorCell.switchedOff).cell c).InForm
    ((vset r.monitors.settings i m)[cellSetting c]).mode _
  by_cases hci : cellSetting c = i
  · obtain ⟨x, h⟩ := hnamed c ((mem_cellsOf c i).mpr hci)
    rw [h]
    exact MonitorCell.inForm_of_clear ⟨rfl, rfl, rfl⟩ _ _
  · rw [vset_other _ _ _ _ (Ne.symm hci)]
    rcases hc c with h | ⟨x, h⟩ <;> rw [h]
    · exact hcell c
    · exact MonitorCell.inForm_of_clear ⟨rfl, rfl, rfl⟩ _ _

/-- A setting whose mode does not become OFF. -/
theorem Rig.withSetting_calm (r : Rig) (i : Fin 8) {m : MonitorSetting} (hm : m.warn ≤ m.fault)
    (hkeep : ¬ (m.mode = .off ∧ (r.monitors.settings[i]).mode ≠ .off)) : r.Calm (r.withSetting i m) := by
  refine ⟨rfl, rfl, fun hlaw => ?_⟩
  obtain ⟨hphase, hcell, htimes⟩ := (Monitors.law_iff _).mp hlaw
  refine (Monitors.law_iff _).mpr ⟨hphase, fun c => ?_, Rig.withSetting_times hm htimes⟩
  show (r.monitors.cells[c]).InForm ((vset r.monitors.settings i m)[cellSetting c]).mode _
  refine ⟨fun hoff => (hcell c).off ?_, (hcell c).warning⟩
  rw [vset_get] at hoff
  split at hoff
  · rename_i hci
    by_contra hold
    exact hkeep ⟨hoff, by rw [hci]; exact hold⟩
  · exact hoff

/-- A changed setting, with its cells cleared where its mode becomes OFF, keeps the monitors in form. -/
theorem Rig.changeSetting_calm (r : Rig) (i : Fin 8) {m : MonitorSetting} (hm : m.warn ≤ m.fault) :
    r.Calm (r.changeSetting i m) := by
  have moded : r.Calm (if m.mode = .off ∧ (r.monitors.settings[i]).mode ≠ .off then
      (r.withSetting i m).changeCells (cellsOf i) MonitorCell.switchedOff else r.withSetting i m) := by
    split
    · exact r.withSetting_switchedOff_calm i hm
    · rename_i hkeep
      exact r.withSetting_calm i hm hkeep
  unfold Rig.changeSetting
  dsimp only
  split
  · exact moded.trans (Rig.handOnAll_calm _ _ _)
  · exact (moded.trans (Rig.handOnAll_calm _ _ _)).trans (Rig.notify_calm _ _)

/-! ### Extents -/

/-- A recorder bound to a cart is bound to one that is not EMPTY. -/
def Library.boundLaw (l : Library) : Prop :=
  ∀ (k : RecorderId) (c : CartId), (l.recorders[k]).binding = .cart c → (l.carts[c]).state ≠ .empty

/-- The regions are the same, and the same carts stand on the same pages. -/
structure Library.SameExtents (l l' : Library) : Prop where
  delay : l'.delayRegion = l.delayRegion
  alert : l'.alertRegion = l.alertRegion
  empty : ∀ c : CartId, (l'.carts[c]).state = .empty ↔ (l.carts[c]).state = .empty
  start : ∀ c : CartId, (l'.carts[c]).start = (l.carts[c]).start
  pages : ∀ c : CartId, (l'.carts[c]).pages = (l.carts[c]).pages

theorem Library.SameExtents.refl (l : Library) : l.SameExtents l :=
  ⟨rfl, rfl, fun _ => Iff.rfl, fun _ => rfl, fun _ => rfl⟩

theorem Library.SameExtents.trans {l₁ l₂ l₃ : Library} (h : l₁.SameExtents l₂) (k : l₂.SameExtents l₃) :
    l₁.SameExtents l₃ :=
  ⟨k.delay.trans h.delay, k.alert.trans h.alert, fun c => (k.empty c).trans (h.empty c),
    fun c => (k.start c).trans (h.start c), fun c => (k.pages c).trans (h.pages c)⟩

theorem Library.SameExtents.law {l l' : Library} (h : l.SameExtents l') (hl : l.extentLaw) : l'.extentLaw := by
  obtain ⟨hd, ha, he, hs, hp⟩ := h
  unfold Library.extentLaw at hl ⊢
  simpa only [hd, ha, hs, hp, ne_eq, he] using hl

theorem Rig.alertLaw.bound {r : Rig} (h : r.alertLaw) : r.library.boundLaw := by
  obtain ⟨-, -, -, -, hcart, -⟩ := h
  intro k c hk hempty
  have hrec : (r.cart c).state = .recording := (hcart c).mpr ⟨k, hk⟩
  exact absurd (hrec.symm.trans hempty) nofun

/-- The rig after operations on recordings: where every recorder bound to a cart is bound to one that stands on
pages, they keep that and every extent; the recent identities and the monitors stay. -/
structure Rig.Recorded (r r' : Rig) : Prop where
  library : r.library.boundLaw → r'.library.boundLaw ∧ r.library.SameExtents r'.library
  recent : r'.alerts.recent = r.alerts.recent
  monitors : r'.monitors = r.monitors

theorem Rig.Recorded.refl (r : Rig) : r.Recorded r := ⟨fun h => ⟨h, .refl _⟩, rfl, rfl⟩

theorem Rig.Recorded.trans {r₁ r₂ r₃ : Rig} (h : r₁.Recorded r₂) (k : r₂.Recorded r₃) : r₁.Recorded r₃ := by
  refine ⟨fun hb => ?_, k.recent.trans h.recent, k.monitors.trans h.monitors⟩
  obtain ⟨hb₂, hs₂⟩ := h.library hb
  obtain ⟨hb₃, hs₃⟩ := k.library hb₂
  exact ⟨hb₃, hs₂.trans hs₃⟩

theorem Rig.Beside.recorded {r r' : Rig} (h : r.Beside r') : r.Recorded r' :=
  ⟨fun hb => h.library.symm ▸ ⟨hb, .refl _⟩, h.recent, h.monitors⟩

theorem Rig.reply_recorded (r : Rig) (tag : Tag) (k : RequestKind) (st : Status) (d : List Nat) :
    r.Recorded (r.reply tag k st d) := ⟨fun h => ⟨h, .refl _⟩, rfl, rfl⟩

/-- A cart record replaced by one on the same pages, where neither is EMPTY. -/
theorem Rig.setCart_recorded {r : Rig} {c : CartId} {x : Cart}
    (hold : r.library.boundLaw → (r.cart c).state ≠ .empty) (hx : x.state ≠ .empty)
    (hs : x.start = (r.cart c).start) (hp : x.pages = (r.cart c).pages) : r.Recorded (r.setCart c x) := by
  refine ⟨fun hb => ⟨fun k b hk => ?_, rfl, rfl, fun b => ?_, fun b => ?_, fun b => ?_⟩, rfl, rfl⟩
  · show ((vset r.library.carts c x)[b]).state ≠ .empty
    rw [vset_get]
    split
    · exact hx
    · exact hb k b hk
  · show ((vset r.library.carts c x)[b]).state = .empty ↔ _
    rw [vset_get]
    split
    · rename_i h
      subst h
      exact ⟨fun e => absurd e hx, fun e => absurd e (hold hb)⟩
    · exact Iff.rfl
  · show ((vset r.library.carts c x)[b]).start = _
    rw [vset_get]
    split
    · rename_i h
      subst h
      exact hs
    · rfl
  · show ((vset r.library.carts c x)[b]).pages = _
    rw [vset_get]
    split
    · rename_i h
      subst h
      exact hp
    · rfl

/-- A recorder record replaced by one that is bound to no EMPTY cart. -/
theorem Rig.setRecorder_recorded {r : Rig} {k : RecorderId} {x : Recorder}
    (hx : ∀ c, x.binding = .cart c → r.library.boundLaw → (r.cart c).state ≠ .empty) :
    r.Recorded (r.setRecorder k x) := by
  refine ⟨fun hb => ⟨fun j c hj => ?_, rfl, rfl, fun _ => Iff.rfl, fun _ => rfl, fun _ => rfl⟩, rfl, rfl⟩
  have hj' : ((vset r.library.recorders k x)[j]).binding = .cart c := hj
  rw [vset_get] at hj'
  split at hj'
  · exact hx c hj' hb
  · exact hb j c hj'

theorem Rig.freeRecorder_recorded (r : Rig) (k : RecorderId) : r.Recorded (r.setRecorder k .free) :=
  Rig.setRecorder_recorded nofun

/-! ### The operations on recordings -/

theorem Rig.abandonCart_recorded {r : Rig} {k : RecorderId} {c : CartId} (h : (r.recorder k).binding = .cart c)
    (cause : AbandonCause) : r.Recorded (r.abandonCart k c cause) :=
  ((Rig.setCart_recorded (x := (r.cart c).cleared .defined) (fun hb => hb k c h) nofun rfl rfl).trans
    (Rig.freeRecorder_recorded _ k)).trans (Rig.report_beside _ _).recorded

theorem Rig.cartRecordingEnds_recorded {r : Rig} {k : RecorderId} {c : CartId}
    (h : (r.recorder k).binding = .cart c) (cause : DoneCause) : r.Recorded (r.cartRecordingEnds k c cause) :=
  ((Rig.setCart_recorded (x := (r.cart c).recorded (r.recorder k).position) (fun hb => hb k c h) nofun rfl rfl).trans
    (Rig.freeRecorder_recorded _ k)).trans (Rig.report_beside _ _).recorded

theorem Rig.abandonCarts_recorded (r : Rig) (cause : AbandonCause) : r.Recorded (r.abandonCarts cause) := by
  unfold Rig.abandonCarts
  refine foldl_related Rig.Recorded.refl Rig.Recorded.trans (fun r k => ?_) allRecorders r
  split
  · rename_i c hk
    exact Rig.abandonCart_recorded hk cause
  · exact .refl r

theorem Rig.bindRecorder_recorded {r : Rig} (k : RecorderId) {b : Binding} (src : RecordSource) (n : Nat)
    (hb : ∀ c, b = .cart c → (r.cart c).state ≠ .empty) : r.Recorded (r.bindRecorder k b src n) := by
  have bound := Rig.setRecorder_recorded (r := r) (k := k) (x := { binding := b, source := src, position := 0
                                                                   limit := n
                                                                   grantOrder := nextSerial r.library.lastGrant })
    (fun c hc _ => hb c hc)
  refine bound.trans ⟨fun h => ⟨h, ?_⟩, rfl, rfl⟩
  exact ⟨rfl, rfl, fun _ => Iff.rfl, fun _ => rfl, fun _ => rfl⟩

/-- The recorder of the youngest cart recording is bound to that cart. -/
theorem Rig.youngestCart_binding {r : Rig} {k : RecorderId} {c : CartId} (h : r.youngestCart = some (k, c)) :
    (r.recorder k).binding = .cart c := by
  have holds (l : List RecorderId) (best : Option (RecorderId × CartId))
      (hbest : ∀ j b, best = some (j, b) → (r.recorder j).binding = .cart b) :
      ∀ j b, l.foldl (fun best k => match (r.recorder k).binding, best with
        | .cart c, none => some (k, c)
        | .cart c, some (b, _) =>
          if serialGreater (r.recorder k).grantOrder (r.recorder b).grantOrder then some (k, c) else best
        | _, _ => best) best = some (j, b) → (r.recorder j).binding = .cart b := by
    induction l generalizing best with
    | nil => exact hbest
    | cons x l ih =>
      rw [List.foldl_cons]
      refine ih _ fun j b hjb => ?_
      split at hjb
      · rename_i hx
        cases hjb
        exact hx
      · rename_i hx
        split at hjb
        · cases hjb
          exact hx
        · exact hbest j b hjb
      · exact hbest j b hjb
  exact holds allRecorders none nofun k c h

theorem Rig.claimForAlert_recorded {r r' : Rig} {i : RecordId} {lane : Fin 16}
    (h : r.claimForAlert i lane = some r') : r.Recorded r' := by
  unfold Rig.claimForAlert at h
  dsimp only at h
  split at h
  · cases h
    exact Rig.bindRecorder_recorded _ _ _ nofun
  · split at h
    · rename_i k c hy
      cases h
      exact (Rig.abandonCart_recorded (Rig.youngestCart_binding hy) .alert).trans
        (Rig.bindRecorder_recorded _ _ _ nofun)
    · cases h

theorem Rig.freeAlertRecorder_recorded (r : Rig) (i : RecordId) : r.Recorded (r.freeAlertRecorder i) := by
  unfold Rig.freeAlertRecorder
  split
  · exact r.freeRecorder_recorded _
  · exact .refl r

theorem Rig.setRecord_recorded (r : Rig) (i : RecordId) (a : AlertRecord) : r.Recorded (r.setRecord i a) :=
  (r.setRecord_beside i a).recorded

theorem Rig.closeAlertRecording_recorded (r : Rig) (i : RecordId) (truncated : Bool) (now : Nat) :
    r.Recorded (r.closeAlertRecording i truncated now) :=
  (((r.freeAlertRecorder_recorded i).trans (Rig.setRecord_recorded _ i _)).trans
    (Rig.report_beside _ _).recorded).trans (Rig.placeRecorded_beside _ i now).recorded

theorem Rig.alertRecordingEnds_recorded (r : Rig) (i : RecordId) (truncated : Bool) (now : Nat) :
    r.Recorded (r.alertRecordingEnds i truncated now) :=
  (r.closeAlertRecording_recorded i truncated now).trans (Rig.airIfIdle_beside _).recorded

theorem Rig.alertRecordingLost_recorded (r : Rig) (i : RecordId) (now : Nat) :
    r.Recorded (r.alertRecordingLost i now) := by
  unfold Rig.alertRecordingLost
  split
  · exact .refl r
  · split
    · exact r.closeAlertRecording_recorded i true now
    · exact ((r.freeAlertRecorder_recorded i).trans (Rig.setRecord_recorded _ i _)).trans
        (Rig.report_beside _ _).recorded

theorem Rig.alertRecordingsLost_recorded (r : Rig) (now : Nat) : r.Recorded (r.alertRecordingsLost now) := by
  unfold Rig.alertRecordingsLost
  exact (foldl_related Rig.Recorded.refl Rig.Recorded.trans (fun r i => r.alertRecordingLost_recorded i now)
    allRecords r).trans (Rig.airIfIdle_beside _).recorded

theorem Rig.recorderAdvances_recorded (r : Rig) (k : RecorderId) : r.Recorded (r.recorderAdvances k) := by
  have moved : r.Recorded (r.setRecorder k { r.recorder k with position := (r.recorder k).position + 1 }) :=
    Rig.setRecorder_recorded fun c hc hb => hb k c hc
  unfold Rig.recorderAdvances
  dsimp only
  split
  · exact .refl r
  · rename_i c hk
    have hstay : ((r.setRecorder k { r.recorder k with position := (r.recorder k).position + 1 }).recorder k).binding =
        .cart c := by
      rw [Rig.recorder_setRecorder, if_pos rfl]
      exact hk
    by_cases hempty : (r.cart c).state = .empty
    · exact ⟨fun hb => absurd hempty (hb k c hk), rfl, rfl⟩
    · exact moved.trans (Rig.setCart_recorded (fun hb => hb k c hstay) hempty rfl rfl)
  · exact moved.trans (Rig.setRecord_recorded _ _ _)

theorem Rig.recorderEnds_recorded (r : Rig) (k : RecorderId) (now : Nat) : r.Recorded (r.recorderEnds k now) := by
  unfold Rig.recorderEnds
  dsimp only
  split
  · exact .refl r
  · rename_i c hk
    split
    · exact Rig.cartRecordingEnds_recorded hk .full
    · exact .refl r
  · split
    · exact r.alertRecordingEnds_recorded _ _ now
    · split
      · exact r.alertRecordingEnds_recorded _ _ now
      · exact .refl r

theorem Rig.cancelAlert_recorded (r : Rig) (i : RecordId) : r.Recorded (r.cancelAlert i) := by
  unfold Rig.cancelAlert
  dsimp only
  split
  · exact (r.stopAiring_beside i _ _).recorded
  · exact ((r.freeAlertRecorder_recorded i).trans (Rig.setRecord_recorded _ i _)).trans
      (Rig.report_beside _ _).recorded
  · exact ((r.setAlertState_beside i _).trans (Rig.report_beside _ _)).recorded

theorem Rig.confirmAlert_beside (r : Rig) (i : RecordId) : r.Beside (r.confirmAlert i) := by
  unfold Rig.confirmAlert
  split
  · exact (r.setRecord_beside i _).trans (Rig.report_beside _ _)
  · exact ((r.enqueue_beside i).trans (Rig.report_beside _ _)).trans (Rig.airIfIdle_beside _)

theorem Rig.declineAlert_recorded (r : Rig) (i : RecordId) : r.Recorded (r.declineAlert i) := by
  unfold Rig.declineAlert
  refine Rig.Recorded.trans (Rig.Recorded.trans ?_ (Rig.setRecord_recorded _ i _)) (Rig.report_beside _ _).recorded
  split
  · exact r.freeAlertRecorder_recorded i
  · exact .refl r

/-! ### Regions and definitions -/

theorem pagesMeet_comm (a m b n : Nat) : pagesMeet a m b n = pagesMeet b n a m := by
  rw [Bool.eq_iff_iff]
  simp only [pagesMeet, Bool.and_eq_true, decide_eq_true_eq]
  omega

theorem pagesMeet_zero (a b n : Nat) : pagesMeet a 0 b n = false := by simp [pagesMeet]

/-- A page count of 0 takes the start page out of account. -/
theorem pagesMeet_regionOf (start pages b n : Nat) :
    pagesMeet (regionOf start pages).start (regionOf start pages).pages b n = pagesMeet start pages b n := by
  unfold regionOf
  dsimp only
  split
  · subst_vars
    rw [pagesMeet_zero, pagesMeet_zero]
  · rfl

theorem Library.meetsCart_eq_false {l : Library} {start count : Nat} {except : Option CartId}
    (h : l.meetsCart start count except = false) (c : CartId) (hc : (l.carts[c]).state ≠ .empty)
    (hx : some c ≠ except) : pagesMeet start count (l.carts[c]).start (l.carts[c]).pages = false := by
  unfold Library.meetsCart at h
  rw [List.any_eq_false] at h
  have := h c (List.mem_finRange c)
  simp_all

theorem inPages_regionOf {start pages : Nat} (h : pages ≠ 0 → start + pages ≤ 4096) :
    inPages (regionOf start pages).start (regionOf start pages).pages := by
  unfold inPages regionOf
  dsimp only
  split
  · omega
  · exact h ‹_›

theorem Library.setDelayRegion_extentLaw {l : Library} (h : l.extentLaw) {start pages : Nat} (hp : pages ≤ 128)
    (hin : pages ≠ 0 → start + pages ≤ 4096)
    (halert : pagesMeet start pages l.alertRegion.start l.alertRegion.pages = false)
    (hcart : l.meetsCart start pages none = false) :
    ({ l with delayRegion := regionOf start pages }).extentLaw := by
  obtain ⟨-, -, hal, ha16, hain, -, hcarts⟩ := h
  refine ⟨hp, inPages_regionOf hin, hal, ha16, hain, by rw [pagesMeet_regionOf]; exact halert, fun c hc => ?_⟩
  obtain ⟨hpos, hcin, -, hca, hcc⟩ := hcarts c hc
  refine ⟨hpos, hcin, ?_, hca, hcc⟩
  rw [pagesMeet_comm, pagesMeet_regionOf]
  exact Library.meetsCart_eq_false hcart c hc nofun

theorem Library.setAlertRegion_extentLaw {l : Library} (h : l.extentLaw) {start pages : Nat} (hp : pages ≤ 2048)
    (h16 : pages % 16 = 0) (hin : pages ≠ 0 → start + pages ≤ 4096)
    (hdelay : pagesMeet start pages l.delayRegion.start l.delayRegion.pages = false)
    (hcart : l.meetsCart start pages none = false) :
    ({ l with alertRegion := regionOf start pages }).extentLaw := by
  obtain ⟨hdl, hdin, -, -, -, -, hcarts⟩ := h
  refine ⟨hdl, hdin, hp, h16, inPages_regionOf hin, by rw [pagesMeet_comm, pagesMeet_regionOf]; exact hdelay,
    fun c hc => ?_⟩
  obtain ⟨hpos, hcin, hcd, -, hcc⟩ := hcarts c hc
  refine ⟨hpos, hcin, hcd, ?_, hcc⟩
  rw [pagesMeet_comm, pagesMeet_regionOf]
  exact Library.meetsCart_eq_false hcart c hc nofun

/-- A cart's record replaced by one that is EMPTY, or that lies in the store and meets nothing else, keeps the law. -/
theorem Library.setCart_extentLaw {l : Library} (h : l.extentLaw) (c : CartId) {x : Cart}
    (hx : x.state ≠ .empty → 0 < x.pages ∧ inPages x.start x.pages ∧
      pagesMeet x.start x.pages l.delayRegion.start l.delayRegion.pages = false ∧
      pagesMeet x.start x.pages l.alertRegion.start l.alertRegion.pages = false ∧
      l.meetsCart x.start x.pages (some c) = false) :
    ({ l with carts := vset l.carts c x }).extentLaw := by
  obtain ⟨hdl, hdin, hal, ha16, hain, hda, hcarts⟩ := h
  refine ⟨hdl, hdin, hal, ha16, hain, hda, fun b => ?_⟩
  dsimp only
  rw [vset_get]
  split
  · rename_i hcb
    subst hcb
    intro hne
    obtain ⟨hpos, hin, hd, ha, hm⟩ := hx hne
    refine ⟨hpos, hin, hd, ha, fun j hj => ?_⟩
    rw [vset_other _ _ _ _ (Ne.symm hj)]
    exact fun hje => Library.meetsCart_eq_false hm j hje (fun e => hj (Option.some.inj e))
  · rename_i hcb
    intro hne
    obtain ⟨hpos, hin, hd, ha, hm⟩ := hcarts b hne
    refine ⟨hpos, hin, hd, ha, fun j hj => ?_⟩
    rw [vset_get]
    split
    · rename_i hcj
      subst hcj
      intro hxe
      obtain ⟨-, -, -, -, hxm⟩ := hx hxe
      rw [pagesMeet_comm]
      exact Library.meetsCart_eq_false hxm b hne (fun e => hcb (Option.some.inj e).symm)
    · exact hm j hj

/-! ### Recent identities -/

theorem rememberPair_recentLaw {recent : List (Nat × Nat)} {pair : Nat × Nat} (hlen : recent.length ≤ 32)
    (hdup : recent.Nodup) (hnew : pair ∉ recent) :
    (rememberPair recent pair).length ≤ 32 ∧ (rememberPair recent pair).Nodup := by
  unfold rememberPair
  split
  · refine ⟨by simp; omega, ?_⟩
    rw [List.nodup_append]
    exact ⟨hdup.sublist (List.drop_sublist 1 recent), List.nodup_singleton pair, fun a ha b hb e =>
      hnew (by rw [← List.mem_singleton.mp hb, ← e]; exact List.mem_of_mem_drop ha)⟩
  · refine ⟨by simp; omega, ?_⟩
    rw [List.nodup_append]
    exact ⟨hdup, List.nodup_singleton pair, fun a ha b hb e =>
      hnew (by rw [← List.mem_singleton.mp hb, ← e]; exact ha)⟩

end Sys2Proof.Machine
end

section
/-!
SUPPORT. What every command keeps in form: the clock, the mix, the link, the extents, the recent identities and the
monitors, command by command.
-/

namespace Sys2Proof.Machine

/-! ### Form kept by the rig and by the part -/

/-- The rig's laws on extents, recent identities and monitors pass from `r` to `r'`; that on extents where a cart is
RECORDING exactly while a recorder is bound to it. -/
structure Rig.KeepsForm (r r' : Rig) : Prop where
  extents : r.alertLaw → r.library.extentLaw → r'.library.extentLaw
  recent : r.alerts.recentLaw → r'.alerts.recentLaw
  monitors : r.monitors.law → r'.monitors.law

theorem Alerts.recentLaw_congr {a b : Alerts} (h : b.recent = a.recent) : a.recentLaw → b.recentLaw := by
  unfold Alerts.recentLaw
  rw [h]
  exact id

theorem Rig.Calm.keepsForm {r r' : Rig} (h : r.Calm r') : r.KeepsForm r' :=
  ⟨fun _ hx => h.library.symm ▸ hx, Alerts.recentLaw_congr h.recent, h.monitors⟩

theorem Rig.Recorded.keepsForm {r r' : Rig} (h : r.Recorded r') : r.KeepsForm r' :=
  ⟨fun ha hx => (h.library ha.bound).2.law hx, Alerts.recentLaw_congr h.recent, fun hm => h.monitors.symm ▸ hm⟩

theorem Rig.KeepsForm.calm {r₁ r₂ r₃ : Rig} (h : r₁.KeepsForm r₂) (k : r₂.Calm r₃) : r₁.KeepsForm r₃ :=
  ⟨fun ha hx => k.library.symm ▸ h.extents ha hx, fun hr => k.keepsForm.recent (h.recent hr),
    fun hm => k.monitors (h.monitors hm)⟩

/-- The part after operations that leave the receiver, the clock and the open message, keep the mix and the link in
form, and are calm on the rig. -/
structure State.Calm (s t : State) : Prop where
  trunk : t.trunk = s.trunk
  clock : t.clock = s.clock
  inbound : t.inbound = s.inbound
  mix : s.mixLaw → t.mixLaw
  link : s.link.law → t.link.law
  rig : s.rig.Calm t.rig

theorem State.Calm.refl (s : State) : s.Calm s := ⟨rfl, rfl, rfl, id, id, .refl _⟩

theorem State.Calm.trans {s₁ s₂ s₃ : State} (h : s₁.Calm s₂) (k : s₂.Calm s₃) : s₁.Calm s₃ :=
  ⟨k.trunk.trans h.trunk, k.clock.trans h.clock, k.inbound.trans h.inbound, fun hm => k.mix (h.mix hm),
    fun hl => k.link (h.link hl), h.rig.trans k.rig⟩

/-- Every law of the blocks beside the store, the queue, the delay, the alerts, the decks and the lines passes from
`s` to `t`. -/
structure State.KeepsForm (s t : State) : Prop where
  clock : s.clockLaw → t.clockLaw
  mix : s.mixLaw → t.mixLaw
  link : s.link.law → t.link.law
  rig : s.rig.KeepsForm t.rig

/-- The clock's law speaks of the receiver, the clock and the open message, and closing a message keeps it. -/
theorem State.clockLaw_of {s t : State} (h : s.clockLaw) (ht : t.trunk = s.trunk) (hc : t.clock = s.clock)
    (hi : t.inbound = s.inbound ∨ t.inbound = none) : t.clockLaw := by
  unfold State.clockLaw at h ⊢
  rw [ht, hc]
  obtain ⟨h1, h2, h3, h4, h5, h6, h7, h8, h9, hopen⟩ := h
  refine ⟨h1, h2, h3, h4, h5, h6, h7, h8, h9, ?_⟩
  rcases hi with hi | hi
  · rw [hi]; exact hopen
  · rw [hi]; nofun

theorem State.Calm.keepsForm {s t : State} (h : s.Calm t) : s.KeepsForm t :=
  ⟨fun hc => State.clockLaw_of hc h.trunk h.clock (.inl h.inbound), h.mix, h.link, h.rig.keepsForm⟩

theorem State.KeepsForm.calm {s₁ s₂ s₃ : State} (h : s₁.KeepsForm s₂) (k : s₂.Calm s₃) : s₁.KeepsForm s₃ :=
  ⟨fun hc => k.keepsForm.clock (h.clock hc), fun hm => k.mix (h.mix hm), fun hl => k.link (h.link hl),
    h.rig.calm k.rig⟩

/-- An operation on the rig alone. -/
theorem State.onRig_keepsForm {s : State} {f : Rig → Rig} (h : s.rig.KeepsForm (f s.rig)) :
    s.KeepsForm (s.onRig f) := ⟨id, id, id, h⟩

theorem State.onRig_calm {s : State} {f : Rig → Rig} (h : s.rig.Calm (f s.rig)) : s.Calm (s.onRig f) :=
  ⟨rfl, rfl, rfl, id, id, h⟩

theorem State.reply_calm (s : State) (tag : Tag) (k : RequestKind) (st : Status) (d : List Nat) :
    s.Calm (s.reply tag k st d) := State.onRig_calm (Rig.reply_calm _ tag k st d)

theorem State.report_calm (s : State) (m : Report) : s.Calm (s.report m) :=
  State.onRig_calm (Rig.report_beside _ m).calm

/-! ### Answers -/

/-- An answer of a command from `s`: where it is a next state, the laws pass to it. -/
def FormKept (s : State) (a : Answer) : Prop := ∀ t, a = .next t → s.KeepsForm t

theorem formKept_next {s t : State} (h : s.KeepsForm t) : FormKept s (.next t) := by
  intro u hu
  cases hu
  exact h

theorem formKept_fault (s : State) (x : Fault) : FormKept s (.fault x) := by
  intro t ht
  cases ht

theorem formKept_whenDue {s : State} {b : Bool} {f : State → Answer} (h : FormKept s (f s)) :
    FormKept s (whenDue b s f) := by
  unfold whenDue
  split
  · exact h
  · exact formKept_next (State.Calm.refl s).keepsForm

theorem State.take_keepsForm {s : State} {n : Nat} {f : State → State}
    (h : ∀ s' : State, s'.inbound = none → s'.KeepsForm (f s')) : s.KeepsForm (s.take n f) := by
  unfold State.take
  split
  · rename_i e _
    have carried := h { s with inbound := none, rig := { s.rig with egress := e } } rfl
    exact ⟨fun hc => carried.clock (State.clockLaw_of hc rfl rfl (.inr rfl)), carried.mix, carried.link,
      ⟨carried.rig.extents, carried.rig.recent, carried.rig.monitors⟩⟩
  · exact ⟨fun hc => State.clockLaw_of hc rfl rfl (.inr rfl), id, id, ⟨fun _ => id, id, id⟩⟩

theorem formKept_take {s : State} {n : Nat} {f : State → State}
    (h : ∀ s' : State, s'.inbound = none → s'.KeepsForm (f s')) : FormKept s (.next (s.take n f)) :=
  formKept_next (State.take_keepsForm h)

theorem formKept_takeOnRig {s : State} {f : Rig → Rig} (h : ∀ r : Rig, r.KeepsForm (f r)) :
    FormKept s (.next (s.takeOnRig f)) :=
  formKept_take fun _ _ => State.onRig_keepsForm (h _)

theorem State.judged_keepsForm {α : Type} {s : State} {tag : Tag} {k : RequestKind} {check : Except Status α}
    {f : α → State} (h : ∀ a, check = .ok a → s.KeepsForm (f a)) : s.KeepsForm (s.judged tag k check f) := by
  unfold State.judged
  split
  · exact (s.reply_calm tag k _ []).keepsForm
  · exact h _ rfl

theorem Rig.judged_keepsForm {α : Type} {r : Rig} {tag : Tag} {k : RequestKind} {check : Except Status α}
    {f : α → Rig} (h : ∀ a, check = .ok a → r.KeepsForm (f a)) : r.KeepsForm (r.judged tag k check f) := by
  unfold Rig.judged
  split
  · exact (r.reply_calm tag k _ []).keepsForm
  · exact h _ rfl

/-- A request that is judged and then calm on the rig. -/
theorem formKept_calmOnRig {α : Type} {s : State} {tag : Tag} {k : RequestKind} {check : Rig → Except Status α}
    {f : Rig → α → Rig} (h : ∀ (r : Rig) a, r.Calm (f r a)) :
    FormKept s (.next (s.takeOnRig fun r => r.judged tag k (check r) (f r))) :=
  formKept_takeOnRig fun r => Rig.judged_keepsForm fun a _ => (h r a).keepsForm

/-- A request that is judged and then calm on the part. -/
theorem formKept_calm {α : Type} {s : State} {n : Nat} {tag : Tag} {k : RequestKind}
    {check : State → Except Status α} {f : State → α → State} (h : ∀ (s : State) a, s.Calm (f s a)) :
    FormKept s (.next (s.take n fun s => s.judged tag k (check s) (f s))) :=
  formKept_take fun s _ => State.judged_keepsForm fun a _ => (h s a).keepsForm

/-! ### Checks that have passed -/

/-- A sequence of checks passes where its first check and then the rest do. -/
theorem bind_ok {α β : Type} {x : Except Status α} {f : α → Except Status β} {b : β} (h : (x >>= f) = .ok b) :
    ∃ a, x = .ok a ∧ f a = .ok b := by
  cases x with
  | error e => cases h
  | ok a => exact ⟨a, rfl, h⟩

theorem refuse_bind_ok {β : Type} {x : Status} {c : Bool} {f : Unit → Except Status β} {b : β}
    (h : (refuse x c >>= f) = .ok b) : c = false ∧ f () = .ok b := by
  obtain ⟨a, ha, hf⟩ := bind_ok h
  exact ⟨refuse_ok ha, hf⟩

theorem require_bind_ok {α β : Type} {x : Status} {o : Option α} {f : α → Except Status β} {b : β}
    (h : (require x o >>= f) = .ok b) : ∃ a, o = some a ∧ f a = .ok b := by
  obtain ⟨a, ha, hf⟩ := bind_ok h
  exact ⟨a, require_ok ha, hf⟩

theorem inRange?_some {lo hi k n : Nat} (h : inRange? lo hi k = some n) : n = k ∧ lo ≤ n ∧ n ≤ hi := by
  unfold inRange? at h
  split at h
  · cases h
    exact ⟨rfl, ‹_›⟩
  · cases h

theorem optional?_some {α : Type} {f : Nat → Option α} {o : Option Nat} {a : α}
    (h : optional? f o = some (some a)) : ∃ k, o = some k ∧ f k = some a := by
  cases o with
  | none => cases h
  | some k =>
    refine ⟨k, rfl, ?_⟩
    unfold optional? at h
    simpa using h

/-! ### Caller lines -/

theorem State.setLine_calm (s : State) (k : LineId) (l : Line) : s.Calm (s.setLine k l) :=
  ⟨rfl, rfl, rfl, id, id, .refl _⟩

theorem State.setQueue_calm (s : State) (q : List LineId) : s.Calm (s.setQueue q) :=
  ⟨rfl, rfl, rfl, id, id, .refl _⟩

theorem State.setNotices_calm (s : State) (ns : List LineNotice) : s.Calm (s.setNotices ns) :=
  State.onRig_calm ⟨rfl, rfl, id⟩

theorem State.tellMonitors_calm (s : State) (k : LineId) : s.Calm (s.tellMonitors k) :=
  State.onRig_calm (Rig.resetLineCells_calm _ k)

theorem State.command_calm (s : State) (m : Outbound) : s.Calm (s.onRig (·.command m)) :=
  State.onRig_calm (Rig.command_calm _ m)

theorem State.requestCommand_calm (s : State) (m : Outbound) : s.Calm (s.onRig (·.requestCommand m)) :=
  State.onRig_calm (Rig.requestCommand_calm _ m)

theorem State.remuteLine_calm (s : State) (k : LineId) : s.Calm (s.remuteLine k) := by
  unfold State.remuteLine
  dsimp only
  split
  · exact .refl s
  · exact (s.setLine_calm k _).trans (State.report_calm _ _)

theorem State.remute_calm (s : State) : s.Calm s.remute := by
  unfold State.remute
  exact foldl_related State.Calm.refl State.Calm.trans (fun s k => s.remuteLine_calm k) allLines s

theorem State.remuteAfter_calm (s : State) (left : LineState) : s.Calm (s.remuteAfter left) := by
  unfold State.remuteAfter
  split
  · exact s.remute_calm
  · exact .refl s

theorem State.endCall_calm (s : State) (k : LineId) : s.Calm (s.endCall k) := by
  have idle := (s.setLine_calm k (s.line k).idled).trans
    (State.setQueue_calm _ (s.callers.queue.filter (· != k)))
  unfold State.endCall
  dsimp only
  split
  · exact idle.trans (State.tellMonitors_calm _ k)
  · exact idle

theorem State.answerFails_calm (s : State) (k : LineId) : s.Calm (s.answerFails k) :=
  ((s.endCall_calm k).trans (State.command_calm _ _)).trans (State.report_calm _ _)

theorem State.countAnswerTimers_calm (s : State) : s.Calm s.countAnswerTimers := by
  unfold State.countAnswerTimers
  refine foldl_related State.Calm.refl State.Calm.trans (fun s k => ?_) allLines s
  unfold State.countAnswerTimer
  dsimp only
  split
  · exact .refl s
  · split
    · exact s.answerFails_calm k
    · exact s.setLine_calm k _

theorem State.restartCallers_calm (s : State) : s.Calm s.restartCallers := by
  unfold State.restartCallers
  refine State.Calm.trans ?_ (State.setQueue_calm _ [])
  refine foldl_related State.Calm.refl State.Calm.trans (fun s k => ?_) allLines s
  unfold State.restartLine
  dsimp only
  split
  · exact .refl s
  · exact (s.setLine_calm k _).trans (State.command_calm _ _)

theorem execLineQuietFault_formKept (k : LineId) (s : State) : FormKept s (execLineQuietFault k s) := by
  refine formKept_whenDue (formKept_next (State.Calm.keepsForm ?_))
  have taken := s.setNotices_calm (takeNotice (.quietFault k) s.rig.monitors.lineNotices)
  split
  · exact taken
  · exact (((taken.trans (State.endCall_calm _ k)).trans (State.command_calm _ _)).trans
      (State.report_calm _ _)).trans (State.remute_calm _)

theorem execLineOverloadChange_formKept (s : State) : FormKept s (execLineOverloadChange s) := by
  unfold execLineOverloadChange
  split
  · exact formKept_next (State.Calm.refl s).keepsForm
  · exact formKept_next ((s.setNotices_calm _).trans (State.remute_calm _)).keepsForm

theorem execCallAnswer_formKept (tag : Tag) (line : Nat) (s : State) : FormKept s (execCallAnswer tag line s) :=
  formKept_calm fun s k => ((s.setLine_calm k _).trans (State.requestCommand_calm _ _)).trans
    (State.reply_calm _ _ _ _ _)

theorem execCallReady_formKept (tag : Tag) (line : Nat) (s : State) : FormKept s (execCallReady tag line s) :=
  formKept_calm fun s k => ((s.setLine_calm k _).trans (State.setQueue_calm _ _)).trans
    (State.reply_calm _ _ _ _ _)

theorem execCallTake_formKept (tag : Tag) (line : Nat) (s : State) : FormKept s (execCallTake tag line s) :=
  formKept_calm fun s k => ((((s.setLine_calm k _).trans (State.setQueue_calm _ _)).trans
    (State.tellMonitors_calm _ k)).trans (State.remute_calm _)).trans (State.reply_calm _ _ _ _ _)

theorem execCallPark_formKept (tag : Tag) (line : Nat) (s : State) : FormKept s (execCallPark tag line s) :=
  formKept_calm fun s k => ((((s.setLine_calm k _).trans (State.setQueue_calm _ _)).trans
    (State.tellMonitors_calm _ k)).trans (State.remute_calm _)).trans (State.reply_calm _ _ _ _ _)

theorem execCallDrop_formKept (tag : Tag) (line : Nat) (s : State) : FormKept s (execCallDrop tag line s) :=
  formKept_calm fun s k => (((s.endCall_calm k).trans (State.requestCommand_calm _ _)).trans
    (State.reply_calm _ _ _ _ _)).trans (State.remuteAfter_calm _ _)

theorem execCallSetup_formKept (tag : Tag) (limit holdGain : Option Nat) (items : List LineFields) (s : State) :
    FormKept s (execCallSetup tag limit holdGain items s) := by
  refine formKept_calm fun s v => State.Calm.trans ?_ (State.reply_calm _ _ _ _ _)
  have set : s.Calm { s with callers := { s.callers with
      limit := v.1.getD s.callers.limit, holdGain := v.2.1.getD s.callers.holdGain } } :=
    ⟨rfl, rfl, rfl, id, id, .refl _⟩
  exact set.trans (foldl_related State.Calm.refl State.Calm.trans (fun s i => s.setLine_calm i.1 _) v.2.2 _)

theorem execLineRead_formKept (tag : Tag) (line : Nat) (s : State) : FormKept s (execLineRead tag line s) :=
  formKept_calm fun s _ => s.reply_calm _ _ _ _

theorem execLineRing_formKept (tag : Tag) (line ref : Nat) (s : State) : FormKept s (execLineRing tag line ref s) :=
  formKept_calm fun s k => ((s.setLine_calm k _).trans (State.reply_calm _ _ _ _ _)).trans (State.report_calm _ _)

theorem execLineConnected_formKept (tag : Tag) (line ref : Nat) (s : State) :
    FormKept s (execLineConnected tag line ref s) :=
  formKept_calm fun s k => ((s.setLine_calm k _).trans (State.report_calm _ _)).trans (State.reply_calm _ _ _ _ _)

theorem execLineHangup_formKept (tag : Tag) (line ref : Nat) (s : State) :
    FormKept s (execLineHangup tag line ref s) :=
  formKept_calm fun s k => (((s.endCall_calm k).trans (State.report_calm _ _)).trans
    (State.reply_calm _ _ _ _ _)).trans (State.remuteAfter_calm _ _)

/-! ### The receiver and the clock -/

/-- NO_SIGNAL and the crystal, with no message open. -/
theorem State.clockLaw_noSignal {s t : State} (h : s.clockLaw) (ht : t.trunk = .reset)
    (hc : t.clock = { s.clock with source := .crystal, holdover := t.clock.holdover })
    (hh : t.clock.holdover ≤ 4294967295) (hi : t.inbound = none) : t.clockLaw := by
  unfold State.clockLaw at h ⊢
  obtain ⟨h1, h2, -⟩ := h
  rw [ht, hi]
  refine ⟨by rw [hc]; exact h1, by rw [hc]; exact h2, hh, ?_, ?_⟩
  · rw [hc]
    exact ⟨nofun, nofun⟩
  · exact ⟨by decide, by decide, fun _ => rfl, fun _ => rfl, nofun, nofun⟩

theorem State.clockLaw.crystal {s : State} (h : s.clockLaw) (hl : s.trunk.lock ≠ .locked) :
    s.clock.source = .crystal := by
  obtain ⟨-, -, -, hsource, -⟩ := h
  cases hs : s.clock.source with
  | trunk => exact absurd (hsource.mp hs) hl
  | crystal => rfl

/-- Losing the signal outside LOCKED. -/
theorem State.noSignal_keepsForm {s : State} (hl : s.trunk.lock ≠ .locked) : s.KeepsForm s.noSignal := by
  refine ⟨fun h => State.clockLaw_noSignal h rfl ?_ ?_ rfl, id, id, (Rig.Calm.refl _).keepsForm⟩
  · show s.clock = { s.clock with source := .crystal }
    rw [← h.crystal hl]
  · obtain ⟨-, -, hh, -⟩ := h
    exact hh

theorem State.loseFrame_keepsForm (s : State) : s.KeepsForm s.loseFrame := by
  refine ⟨fun h => State.clockLaw_noSignal h rfl rfl (Nat.zero_le _) rfl, id, id, Rig.Recorded.keepsForm ?_⟩
  exact ((s.rig.abandonCarts_recorded .lost).trans (Rig.alertRecordingsLost_recorded _ _)).trans
    (Rig.report_beside _ _).recorded

theorem State.settleFrame_keepsForm {s : State} (hl : s.trunk.lock = .settling) : s.KeepsForm s.settleFrame := by
  unfold State.settleFrame
  split
  · refine ⟨fun h => ?_, id, id, (Rig.report_beside _ _).calm.keepsForm⟩
    obtain ⟨h1, h2, h3, -, -, -, -, -, -, hopen⟩ := h
    refine ⟨h1, h2, h3, ⟨fun _ => rfl, fun _ => rfl⟩, by show 0 < 4800; decide, by show 0 < 3; decide,
      fun _ => rfl, fun _ => rfl, nofun, fun m hm => ?_⟩
    obtain ⟨hlock, -⟩ := hopen m hm
    exact absurd (hl.symm.trans hlock) nofun
  · refine ⟨fun h => ?_, id, id, (Rig.Calm.refl _).keepsForm⟩
    obtain ⟨h1, h2, h3, hs, -, -, -, -, hw, hopen⟩ := h
    exact ⟨h1, h2, h3, hs, by show s.trunk.settleCount + 1 < 4800; omega, by show 0 < 3; decide,
      fun hn => absurd hl hn, fun _ => rfl, hw, hopen⟩

theorem State.settleFailure_keepsForm {s : State} (hl : s.trunk.lock = .settling) :
    s.KeepsForm s.settleFailure := by
  unfold State.settleFailure
  split
  · exact State.noSignal_keepsForm (by rw [hl]; nofun)
  · refine ⟨fun h => ?_, id, id, (Rig.Calm.refl _).keepsForm⟩
    obtain ⟨h1, h2, h3, hs, -, -, -, -, hw, hopen⟩ := h
    refine ⟨h1, h2, h3, hs, by show 0 < 4800; decide, by show s.trunk.failureCount + 1 < 3; omega,
      fun _ => rfl, fun hn => ?_, hw, hopen⟩
    have hn' : s.trunk.lock = .noSignal ∨ s.trunk.lock = .acquiring := hn
    rw [hl] at hn'
    exact absurd hn' (by decide)

theorem State.lockedFailure_keepsForm {s : State} (hl : s.trunk.lock = .locked) : s.KeepsForm s.lockedFailure := by
  unfold State.lockedFailure
  split
  · exact s.loseFrame_keepsForm
  · refine ⟨fun h => ?_, id, id, (Rig.Calm.refl _).keepsForm⟩
    obtain ⟨h1, h2, h3, hs, h5, -, h7, -, -, -⟩ := h
    refine ⟨h1, h2, h3, hs, h5, by show s.trunk.failureCount + 1 < 3; omega, h7, fun hn => ?_, nofun, nofun⟩
    have hn' : s.trunk.lock = .noSignal ∨ s.trunk.lock = .acquiring := hn
    rw [hl] at hn'
    exact absurd hn' (by decide)

theorem execActivitySeen_formKept (s : State) : FormKept s (execActivitySeen s) := by
  refine formKept_next ?_
  split
  · rename_i hl
    refine ⟨fun h => ?_, id, id, (Rig.Calm.refl _).keepsForm⟩
    obtain ⟨h1, h2, h3, hs, h5, h6, h7, h8, hw, hopen⟩ := h
    refine ⟨h1, h2, h3, ?_, h5, h6, fun _ => h7 (by rw [hl]; nofun), fun _ => h8 (.inl hl), fun hw' => ?_,
      fun m hm => ?_⟩
    · exact ⟨fun hs' => absurd (hl.symm.trans (hs.mp hs')) nofun, nofun⟩
    · exact absurd (hl.symm.trans (hw hw')) nofun
    · exact absurd (hl.symm.trans (hopen m hm).1) nofun
  · exact (State.Calm.refl s).keepsForm

theorem execActivityCeases_formKept (s : State) : FormKept s (execActivityCeases s) := by
  refine formKept_next ?_
  split
  · exact (State.Calm.refl s).keepsForm
  · rename_i hl
    exact State.noSignal_keepsForm (by rw [hl]; nofun)
  · rename_i hl
    exact State.noSignal_keepsForm (by rw [hl]; nofun)
  · exact s.loseFrame_keepsForm

theorem execAlignmentFound_formKept (s : State) : FormKept s (execAlignmentFound s) := by
  refine formKept_next ?_
  split
  · rename_i hl
    refine ⟨fun h => ?_, id, id, (Rig.Calm.refl _).keepsForm⟩
    obtain ⟨h1, h2, h3, hs, -, -, -, -, hw, hopen⟩ := h
    refine ⟨h1, h2, h3, ?_, by show 0 < 4800; decide, by show 0 < 3; decide, fun _ => rfl, fun _ => rfl,
      fun hw' => ?_, fun m hm => ?_⟩
    · exact ⟨fun hs' => absurd (hl.symm.trans (hs.mp hs')) nofun, nofun⟩
    · exact absurd (hl.symm.trans (hw hw')) nofun
    · exact absurd (hl.symm.trans (hopen m hm).1) nofun
  · exact (State.Calm.refl s).keepsForm

theorem execAlignedFrame_formKept (lanes : Vector Sample 16) (s : State) :
    FormKept s (execAlignedFrame lanes s) := by
  refine formKept_next ?_
  split
  · exact (State.Calm.refl s).keepsForm
  · exact (State.Calm.refl s).keepsForm
  · rename_i hl
    exact State.settleFrame_keepsForm hl
  · rename_i hl
    refine ⟨fun h => ?_, id, id, (Rig.Calm.refl _).keepsForm⟩
    obtain ⟨h1, h2, h3, hs, h5, -, h7, -, -, hopen⟩ := h
    exact ⟨h1, h2, h3, hs, h5, by show 0 < 3; decide, h7, fun _ => rfl, fun _ => hl, hopen⟩

theorem execFailedPosition_formKept (s : State) : FormKept s (execFailedPosition s) := by
  refine formKept_next ?_
  split
  · exact (State.Calm.refl s).keepsForm
  · exact (State.Calm.refl s).keepsForm
  · rename_i hl
    exact State.settleFailure_keepsForm hl
  · rename_i hl
    exact State.lockedFailure_keepsForm hl

/-- A row that names a moment of a lock state is carried out in that state alone. -/
theorem formKept_whenDue_of {s : State} {b : Bool} {f : State → Answer} (h : b = true → FormKept s (f s)) :
    FormKept s (whenDue b s f) := by
  cases b with
  | true => exact formKept_whenDue (h rfl)
  | false => exact formKept_next (State.Calm.refl s).keepsForm

theorem execSettlingFailure_formKept (s : State) : FormKept s (execSettlingFailure s) :=
  formKept_whenDue_of fun h => formKept_next (State.settleFailure_keepsForm (by simp at h; exact h.1))

theorem execLockEvent_formKept (s : State) : FormKept s (execLockEvent s) :=
  formKept_whenDue_of fun h => formKept_next (State.settleFrame_keepsForm (by simp at h; exact h.1))

theorem execFrameLoss_formKept (s : State) : FormKept s (execFrameLoss s) :=
  formKept_whenDue_of fun h => formKept_next (State.lockedFailure_keepsForm (by simp at h; exact h.1))

theorem Clock.counted_inForm {c : Clock} (hf : c.frameCount < 48000) (hs : c.seconds ≤ 1073741823)
    (hh : c.holdover ≤ 4294967295) :
    c.counted.frameCount < 48000 ∧ c.counted.seconds ≤ 1073741823 ∧ c.counted.holdover ≤ 4294967295 := by
  refine ⟨?_, ?_, ?_⟩
  · simp only [Clock.counted, Clock.secondDue, decide_eq_true_eq]
    split <;> omega
  · simp only [Clock.counted, Clock.nextSeconds]
    split
    · split <;> omega
    · exact hs
  · simp only [Clock.counted, stopCount]
    split
    · split <;> omega
    · exact hh

/-- The frame opened and counted leaves the receiver, the message, the mix, the link and the rig. -/
theorem State.openFrame_keeps (s : State) : s.openFrame.trunk = s.trunk ∧ s.openFrame.inbound = s.inbound ∧
    s.openFrame.mix = s.mix ∧ s.openFrame.link = s.link ∧ s.openFrame.rig = s.rig := by
  unfold State.openFrame
  dsimp only
  split <;> exact ⟨rfl, rfl, rfl, rfl, rfl⟩

theorem State.clockFrame_keepsForm (s : State) : s.KeepsForm s.clockFrame := by
  obtain ⟨htrunk, hin, hmix, hlink, hrig⟩ := s.openFrame_keeps
  have counted : s.KeepsForm { s.openFrame with clock := s.clock.counted } := by
    refine ⟨fun h => ?_, fun h => ?_, fun h => ?_, ?_⟩
    · unfold State.clockLaw at h ⊢
      dsimp only
      rw [htrunk, hin]
      obtain ⟨h1, h2, h3, hrest⟩ := h
      obtain ⟨k1, k2, k3⟩ := Clock.counted_inForm h1 h2 h3
      exact ⟨k1, k2, k3, hrest⟩
    · unfold State.mixLaw at h ⊢
      dsimp only
      rw [hmix]
      exact h
    · show s.openFrame.link.law
      rw [hlink]
      exact h
    · show s.rig.KeepsForm s.openFrame.rig
      rw [hrig]
      exact (Rig.Calm.refl _).keepsForm
  unfold State.clockFrame
  dsimp only
  refine State.KeepsForm.calm ?_ (State.countAnswerTimers_calm _)
  split
  · exact counted.calm (State.onRig_calm (Rig.secondAdvance_beside _ _ _).calm)
  · exact counted

theorem formKept_clockFrame (s : State) : FormKept s (.next s.clockFrame) := formKept_next s.clockFrame_keepsForm

theorem execTimeSet_formKept (tag : Tag) (n : Nat) (s : State) : FormKept s (execTimeSet tag n s) := by
  refine formKept_take fun s hi => State.judged_keepsForm fun _ hc => ?_
  have hn : n ≤ 1073741823 := by simpa using refuse_ok hc
  have set : s.KeepsForm { s with clock := { s.clock with seconds := n, frameCount := 0, timeValid := true } } := by
    refine ⟨fun h => ?_, id, id, (Rig.Calm.refl _).keepsForm⟩
    obtain ⟨-, -, h3, hrest⟩ := h
    exact ⟨by show 0 < 48000; decide, hn, h3, hrest⟩
  refine (set.calm (State.reply_calm _ _ _ _ _)).calm (State.onRig_calm ?_)
  refine Rig.Calm.trans ?_ (Rig.newSeconds_beside _ n).calm
  split
  · exact .refl _
  · exact (Rig.moveDeadlines_beside _ _).calm

/-! ### The mix -/

/-- A change of the mix that keeps its law, and then messages. -/
theorem State.mixed_calm {s t : State} (h : s.mixLaw → t.mixLaw)
    (ht : t = { s with mix := t.mix, completed := t.completed }) : s.Calm t := by
  rw [ht] at h ⊢
  exact ⟨rfl, rfl, rfl, h, id, .refl _⟩

theorem State.mixFrame_calm (s : State) : s.Calm s.mixFrame :=
  ⟨rfl, rfl, rfl, State.mixFrame_mixLaw, id, (Rig.reports_ordered _ _).calm⟩

theorem formKept_mixFrame (s : State) : FormKept s (.next s.mixFrame) := formKept_next s.mixFrame_calm.keepsForm

theorem State.setRoute_calm {s : State} {i : RouteId} {r : Route} (h : s.mixLaw → r.law) : s.Calm (s.setRoute i r) :=
  State.mixed_calm (fun hm => State.setRoute_mixLaw hm i (h hm)) rfl

theorem execRouteSet_formKept (tag : Tag) (index kind number destination gain exponent voice duckable : Nat)
    (s : State) : FormKept s (execRouteSet tag index kind number destination gain exponent voice duckable s) := by
  refine formKept_take fun s _ => State.judged_keepsForm ?_
  rintro ⟨i, source, bus, target, v, d⟩ hc
  obtain ⟨i', -, hc⟩ := require_bind_ok hc
  obtain ⟨source', -, hc⟩ := require_bind_ok hc
  obtain ⟨bus', -, hc⟩ := require_bind_ok hc
  obtain ⟨target', ht, hc⟩ := require_bind_ok hc
  obtain ⟨v', -, hc⟩ := require_bind_ok hc
  obtain ⟨d', -, hc⟩ := require_bind_ok hc
  obtain ⟨hp, hc⟩ := refuse_bind_ok hc
  obtain ⟨-, hc⟩ := refuse_bind_ok hc
  cases hc
  obtain ⟨-, -, ht⟩ := inRange?_some ht
  refine ((State.setRoute_calm fun _ => Route.written_law source bus target exponent v d ht fun hvd => ?_).trans
    (State.reply_calm _ _ _ _ _)).keepsForm
  rw [hvd] at hp
  simpa using hp

theorem execRouteGain_formKept (tag : Tag) (index gain exponent : Nat) (s : State) :
    FormKept s (execRouteGain tag index gain exponent s) := by
  refine formKept_take fun s _ => State.judged_keepsForm ?_
  rintro ⟨i, target⟩ hc
  obtain ⟨i', -, hc⟩ := require_bind_ok hc
  obtain ⟨target', ht, hc⟩ := require_bind_ok hc
  obtain ⟨huse, hc⟩ := refuse_bind_ok hc
  obtain ⟨hclear, hc⟩ := refuse_bind_ok hc
  cases hc
  obtain ⟨-, -, ht⟩ := inRange?_some ht
  exact ((State.setRoute_calm fun hm => Route.retargeted_law (hm.1 i) (by simpa using huse) hclear target exponent
    ht).trans (State.reply_calm _ _ _ _ _)).keepsForm

theorem execRouteClear_formKept (tag : Tag) (index exponent : Nat) (s : State) :
    FormKept s (execRouteClear tag index exponent s) := by
  refine formKept_take fun s _ => State.judged_keepsForm fun i hc => ?_
  obtain ⟨i', -, hc⟩ := require_bind_ok hc
  obtain ⟨huse, hc⟩ := refuse_bind_ok hc
  cases hc
  have done := (State.setRoute_calm (s := s) (i := i) (r := s.mix.routes[i].cleared exponent)
    fun hm => Route.cleared_law (hm.1 i) (by simpa using huse) exponent).trans
    (State.reply_calm _ tag .routeClear .done [])
  dsimp only
  split
  · exact (done.trans (State.report_calm _ _)).keepsForm
  · exact done.keepsForm

theorem execDuckSet_formKept (tag : Tag) (depth attack release threshold hold : Nat) (s : State) :
    FormKept s (execDuckSet tag depth attack release threshold hold s) := by
  refine formKept_take fun s _ => State.judged_keepsForm fun duck hc => ?_
  obtain ⟨depth', hd, hc⟩ := require_bind_ok hc
  obtain ⟨attack', -, hc⟩ := require_bind_ok hc
  obtain ⟨release', -, hc⟩ := require_bind_ok hc
  obtain ⟨threshold', -, hc⟩ := require_bind_ok hc
  obtain ⟨hold', hh, hc⟩ := require_bind_ok hc
  cases hc
  obtain ⟨-, -, hd⟩ := inRange?_some hd
  obtain ⟨-, -, hh⟩ := inRange?_some hh
  refine State.KeepsForm.calm (State.Calm.keepsForm (State.mixed_calm (fun hm => ?_) rfl))
    (State.reply_calm _ _ _ _ _)
  obtain ⟨hr, hf, hv, -, -⟩ := hm
  exact ⟨hr, hf, hv, hd, hh⟩

theorem execRouteRead_formKept (tag : Tag) (index : Nat) (s : State) : FormKept s (execRouteRead tag index s) :=
  formKept_calm fun s _ => s.reply_calm _ _ _ _

/-! ### The link -/

/-- An event of the Link controller that keeps the link's law. -/
theorem State.onLink_calm {s : State} {f : Linked → Linked}
    (h : s.link.law → (f { link := s.link, raised := [] }).link.law) : s.Calm (s.onLink f) :=
  ⟨rfl, rfl, rfl, id, h, (Rig.reports_ordered _ _).calm⟩

theorem State.gatherFrame_calm (s : State) : s.Calm s.gatherFrame := by
  unfold State.gatherFrame
  dsimp only
  split
  · exact State.Calm.trans (s₂ := { s with link := (s.link.gather s.taken.air).completed _ })
      ⟨rfl, rfl, rfl, id, fun h => Link.completed_law h _ _, .refl _⟩ (State.onLink_calm fun h => Linked.lagTest_law h)
  · rename_i hp
    exact ⟨rfl, rfl, rfl, id, fun h => Link.gather_law h _ (by simpa using hp), .refl _⟩

theorem State.beatFrame_calm (s : State) (p : Port) : s.Calm (s.beatFrame p) := by
  unfold State.beatFrame
  exact State.onLink_calm fun h => Linked.beat_law h p _

theorem State.revertFrame_calm (s : State) (threshold : Nat) : s.Calm (s.onLink (·.revertFrame threshold)) :=
  State.onLink_calm fun h => Linked.revertFrame_law h threshold

theorem State.linkFrame_calm (s : State) : s.Calm s.linkFrame := by
  unfold State.linkFrame State.beforeRevert
  exact ((s.gatherFrame_calm.trans (State.beatFrame_calm _ .a)).trans (State.beatFrame_calm _ .b)).trans
    (State.revertFrame_calm _ _)

theorem formKept_linkFrame (s : State) : FormKept s (.next s.linkFrame) := formKept_next s.linkFrame_calm.keepsForm

theorem execSiteReport_formKept (p : Port) (w0 w1 w2 : Word32) (s : State) :
    FormKept s (execSiteReport p w0 w1 w2 s) := by
  refine formKept_next (State.Calm.keepsForm ?_)
  split
  · exact ⟨rfl, rfl, rfl, id, fun h => Link.discard_law h p, .refl _⟩
  · exact State.onLink_calm fun h => Linked.accept_law h p _ _ _

theorem linkCheck_inRange {f : LinkFields} {change : LinkChange} (h : linkCheck f = .ok change) : change.InRange := by
  obtain ⟨-, h⟩ := refuse_bind_ok h
  obtain ⟨length, hlength, h⟩ := require_bind_ok h
  obtain ⟨timeout, htimeout, h⟩ := require_bind_ok h
  obtain ⟨lag, -, h⟩ := require_bind_ok h
  obtain ⟨revertive, -, h⟩ := require_bind_ok h
  obtain ⟨hold, -, h⟩ := require_bind_ok h
  obtain ⟨preferred, -, h⟩ := require_bind_ok h
  cases h
  refine ⟨fun n hn => ?_, fun n hn => ?_⟩
  · subst hn
    obtain ⟨k, -, hk⟩ := optional?_some hlength
    unfold blockLength? at hk
    split at hk
    · cases hk
      assumption
    · cases hk
  · subst hn
    obtain ⟨k, -, hk⟩ := optional?_some htimeout
    exact (inRange?_some hk).2

theorem execLinkSetup_formKept (tag : Tag) (f : LinkFields) (s : State) : FormKept s (execLinkSetup tag f s) := by
  refine formKept_take fun s _ => State.judged_keepsForm fun change hc => State.Calm.keepsForm ?_
  have set : s.Calm (({ s with link := s.link.setUp change } : State).reply tag .linkSetup .done []) :=
    State.Calm.trans (s₂ := { s with link := s.link.setUp change })
      ⟨rfl, rfl, rfl, id, fun h => Link.setUp_law h (linkCheck_inRange hc), .refl _⟩ (State.reply_calm _ _ _ _ _)
  dsimp only
  split
  · exact set.trans (State.onLink_calm fun h => Linked.lagTest_law h)
  · exact set

theorem execLinkSelect_formKept (tag : Tag) (port force : Nat) (s : State) :
    FormKept s (execLinkSelect tag port force s) := by
  refine formKept_calm fun s p => State.Calm.trans ?_ (State.reply_calm _ _ _ _ _)
  split
  · exact .refl s
  · exact State.onLink_calm fun h => Linked.makeActive_law h.formed p .select _

theorem execLinkRead_formKept (tag : Tag) (s : State) : FormKept s (execLinkRead tag s) :=
  formKept_take fun s _ => (s.reply_calm _ _ _ _).keepsForm

/-! ### The monitors, the switch and the delay -/

/-- The rig once every cell has measured its frame, before a block ends. -/
def State.measuredRig (s : State) : Rig :=
  { s.rig with monitors := { s.rig.monitors with
      cells := s.measureAll
      phase := if s.rig.monitors.blockEnds then 0 else s.rig.monitors.phase + 1 } }

theorem State.monitorFrame_eq (s : State) : s.monitorFrame = s.onRig fun _ =>
    if s.rig.monitors.blockEnds then s.measuredRig.endBlocks else s.measuredRig := by
  simp only [State.monitorFrame, State.onRig, State.measuredRig]

theorem State.measuredRig_calm (s : State) : s.rig.Calm s.measuredRig := by
  refine ⟨rfl, rfl, fun hm => ?_⟩
  obtain ⟨hphase, hcell, htimes⟩ := (Monitors.law_iff _).mp hm
  refine (Monitors.law_iff _).mpr ⟨?_, fun c => ?_, htimes⟩
  · simp only [State.measuredRig, Monitors.blockEnds, decide_eq_true_eq]
    split <;> omega
  · show (s.measureAll[c]).InForm _ _
    unfold State.measureAll
    rw [vtable_get]
    exact ⟨(hcell c).off, (hcell c).warning⟩

theorem State.monitorFrame_calm (s : State) : s.Calm s.monitorFrame := by
  rw [State.monitorFrame_eq]
  refine State.onRig_calm ?_
  split
  · exact s.measuredRig_calm.trans (Rig.endBlocks_calm _)
  · exact s.measuredRig_calm

theorem execMonitorSet_formKept (tag : Tag) (setting : Nat) (f : MonitorFields) (s : State) :
    FormKept s (execMonitorSet tag setting f s) :=
  formKept_calmOnRig fun r a => (r.changeSetting_calm a.1 (Nat.le_max_right _ _)).trans (Rig.reply_calm _ _ _ _ _)

theorem execMonitorClear_formKept (tag : Tag) (setting line : Nat) (s : State) :
    FormKept s (execMonitorClear tag setting line s) :=
  formKept_calmOnRig fun r cs => ((r.clearCells_calm cs).trans (Rig.reply_calm _ _ _ _ _)).trans
    (Rig.handOnAll_calm _ _ _)

theorem execMonitorRead_formKept (tag : Tag) (setting line : Nat) (s : State) :
    FormKept s (execMonitorRead tag setting line s) :=
  formKept_calmOnRig fun r _ => r.reply_calm _ _ _ _

theorem State.switchFrame_calm (s : State) : s.Calm s.switchFrame := by
  refine ⟨rfl, rfl, rfl, id, id, Rig.Beside.calm (Rig.Sounded.toBeside ?_)⟩
  show s.rig.Sounded s.rig.switchFaded
  unfold Rig.switchFaded
  dsimp only
  split
  · exact (s.rig.setAirSwitch_sounded _).trans (Rig.emptyDeck_sounded _ deckF)
  · exact s.rig.setAirSwitch_sounded _

theorem execAirSetup_formKept (tag : Tag) (cart enable fadeMs : Option Nat) (s : State) :
    FormKept s (execAirSetup tag cart enable fadeMs s) := by
  refine formKept_calmOnRig fun r a => ?_
  have set := (r.setAirSwitch_sounded (r.airSwitch.setUp a.1 a.2.1 a.2.2)).toBeside.calm.trans
    (Rig.reply_calm _ tag .airSetup .done [])
  dsimp only
  split
  · exact set
  · exact set.trans (Rig.evaluateOwner_sounded _ _).toBeside.calm

theorem Rig.changeDelay_calm (r : Rig) (d : Delay) (cause : DelayCause) : r.Calm (r.changeDelay d cause) :=
  (r.changeDelay_sounded d cause).toBeside.calm

theorem Rig.heldFrame_calm (r : Rig) : r.Calm r.heldFrame := by
  unfold Rig.heldFrame
  dsimp only
  refine Rig.Calm.trans ?_ (Rig.changeDelay_calm _ _ _)
  split
  · exact (r.report_beside _).calm
  · exact .refl r

theorem State.delayFrame_formKept (s : State) : FormKept s s.delayFrame := by
  unfold State.delayFrame
  dsimp only
  split
  · exact formKept_next (State.Calm.keepsForm ⟨rfl, rfl, rfl, id, id, ⟨rfl, rfl, id⟩⟩)
  · split
    · exact formKept_fault s _
    · split
      · exact formKept_next (State.Calm.keepsForm ⟨rfl, rfl, rfl, id, id, Rig.heldFrame_calm _⟩)
      · split <;>
          exact formKept_next (State.Calm.keepsForm ⟨rfl, rfl, rfl, id, id, Rig.changeDelay_calm _ _ _⟩)

theorem execDelaySetup_formKept (tag : Tag) (target dump build catchup : Option Nat) (s : State) :
    FormKept s (execDelaySetup tag target dump build catchup s) :=
  formKept_calmOnRig fun r _ => (r.reply_calm _ _ _ _).trans (Rig.changeDelay_calm _ _ _)

theorem execDelayStart_formKept (tag : Tag) (s : State) : FormKept s (execDelayStart tag s) :=
  formKept_calmOnRig fun r _ => (r.changeDelay_calm _ _).trans (Rig.reply_calm _ _ _ _ _)

theorem execDelayExit_formKept (tag : Tag) (s : State) : FormKept s (execDelayExit tag s) := by
  refine formKept_calm fun s _ => State.onRig_calm ?_
  exact (s.rig.changeDelay_calm _ _).trans (Rig.reply_calm _ _ _ _ _)

theorem execDelayDump_formKept (tag : Tag) (s : State) : FormKept s (execDelayDump tag s) :=
  formKept_calmOnRig fun r _ => ((r.report_beside _).calm.trans (Rig.changeDelay_calm _ _ _)).trans
    (Rig.reply_calm _ _ _ _ _)

theorem execDelayRead_formKept (tag : Tag) (s : State) : FormKept s (execDelayRead tag s) :=
  formKept_takeOnRig fun r => (r.reply_calm _ _ _ _).keepsForm

/-! ### Decks -/

theorem Rig.closeDeckFrame_beside (r : Rig) (d : DeckId) (done : Bool) : r.Beside (r.closeDeckFrame d done) := by
  unfold Rig.closeDeckFrame
  split
  · have sent := (r.finishDeck_ordered d .played).trans (Rig.sendSegue_ordered _ d)
    unfold Rig.afterDone
    split
    · exact (sent.trans ((Rig.releaseDeck_ordered _ d).trans (Rig.settle_ordered _))).beside
    · split
      · exact sent.beside.trans (Rig.partEnded_beside _)
      · exact sent.beside
  · exact (r.sendSegue_ordered d).beside

theorem Rig.prefetched_beside (r : Rig) (d : DeckId) : r.Beside (r.prefetched d) := by
  unfold Rig.prefetched
  dsimp only
  have cued := (r.setDeck_ordered d { r.deck d with state := .cued, position := (r.deck d).cueIn }).trans
    (Rig.report_ordered _ (.deckLoaded d (r.deck d).source))
  split
  · exact (cued.trans (Rig.orderPrefetched_ordered _ d)).beside
  · split
    · exact (cued.trans (Rig.startDeck_ordered _ _)).beside
    · unfold Rig.fallbackPrefetched
      split
      · exact (cued.trans (Rig.startDeck_ordered _ _)).beside
      · exact cued.beside

theorem Rig.loadFrame_beside (r : Rig) (d : DeckId) : r.Beside (r.loadFrame d) := by
  unfold Rig.loadFrame
  dsimp only
  split
  · exact (r.setDeck_ordered d _).beside.trans (Rig.prefetched_beside _ d)
  · exact (r.setDeck_ordered d _).beside

/-- A deck's frame puts its output, and acts beside the library, the monitors and the recent identities. -/
theorem formKept_putDeck {s : State} {d : DeckId} {x : Frame} {f : Rig → Rig} (h : s.rig.Beside (f s.rig)) :
    FormKept s (.next ((s.putDeck d x).onRig f)) :=
  formKept_next (State.Calm.keepsForm ⟨rfl, rfl, rfl, id, id, h.calm⟩)

theorem State.deckFrame_formKept (s : State) (d : DeckId) : FormKept s (s.deckFrame d) := by
  have plays : FormKept s (s.playFrame d) := by
    have closed (k : Deck) (done : Bool) : s.rig.Beside ((s.rig.setDeck d k).closeDeckFrame d done) :=
      (s.rig.setDeck_ordered d k).beside.trans (Rig.closeDeckFrame_beside _ d done)
    unfold State.playFrame
    dsimp only
    split
    · exact formKept_putDeck (closed _ _)
    · split
      · exact formKept_putDeck (closed _ _)
      · split
        · exact formKept_putDeck (closed _ _)
        · exact formKept_fault s _
  have rests : FormKept s (.next (s.putDeck d (silenceIn (s.rig.deck d).form))) :=
    formKept_next (State.Calm.keepsForm ⟨rfl, rfl, rfl, id, id, .refl _⟩)
  unfold State.deckFrame
  dsimp only
  split
  · exact plays
  · exact plays
  · exact formKept_putDeck (s.rig.loadFrame_beside d)
  all_goals exact rests

theorem execPrefetchComplete_formKept (d : DeckId) (s : State) : FormKept s (execPrefetchComplete d s) :=
  formKept_whenDue (formKept_next (State.onRig_calm (s.rig.prefetched_beside d).calm).keepsForm)

theorem execDeckStart_formKept (tag : Tag) (deck : Nat) (s : State) : FormKept s (execDeckStart tag deck s) :=
  formKept_calmOnRig fun r e => ((r.startEntry_ordered e .request).calm.trans (Rig.reply_calm _ _ _ _ _)).trans
    (Rig.assignThenSettle_ordered _).calm

theorem execDeckFade_formKept (tag : Tag) (deck : Nat) (s : State) : FormKept s (execDeckFade tag deck s) :=
  formKept_calmOnRig fun r d => ((r.fadeDeck_ordered d _).calm.trans (Rig.reply_calm _ _ _ _ _)).trans
    (Rig.settle_ordered _).calm

theorem execDeckCut_formKept (tag : Tag) (deck : Nat) (s : State) : FormKept s (execDeckCut tag deck s) :=
  formKept_calmOnRig fun r d => ((r.cutDeck_ordered d).calm.trans (Rig.reply_calm _ _ _ _ _)).trans
    (Rig.settle_ordered _).calm

theorem execDeckPause_formKept (tag : Tag) (deck : Nat) (s : State) : FormKept s (execDeckPause tag deck s) :=
  formKept_calmOnRig fun r d => (r.setDeck_ordered d _).calm.trans (Rig.reply_calm _ _ _ _ _)

theorem execDeckResume_formKept (tag : Tag) (deck : Nat) (s : State) : FormKept s (execDeckResume tag deck s) :=
  formKept_calmOnRig fun r d => ((r.resumeDeck_ordered d).calm.trans (Rig.reply_calm _ _ _ _ _)).trans
    (Rig.settle_ordered _).calm

theorem execDeckRead_formKept (tag : Tag) (deck : Nat) (s : State) : FormKept s (execDeckRead tag deck s) :=
  formKept_calmOnRig fun r _ => r.reply_calm _ _ _ _

/-! ### The running order -/

theorem execOrderAppend_formKept (tag : Tag) (f : EntryFields) (s : State) : FormKept s (execOrderAppend tag f s) := by
  refine formKept_calm fun s _ => State.onRig_calm ?_
  exact ((s.rig.setEntries_ordered _).calm.trans (Rig.reply_calm _ _ _ _ _)).trans
    (Rig.assignThenSettle_ordered _).calm

theorem execOrderInsert_formKept (tag : Tag) (f : EntryFields) (before : Nat) (s : State) :
    FormKept s (execOrderInsert tag f before s) := by
  refine formKept_calm fun s _ => State.onRig_calm ?_
  exact ((s.rig.setEntries_ordered _).calm.trans (Rig.reply_calm _ _ _ _ _)).trans
    (Rig.assignThenSettle_ordered _).calm

theorem execOrderRemove_formKept (tag : Tag) (entryTag : Nat) (s : State) :
    FormKept s (execOrderRemove tag entryTag s) :=
  formKept_calmOnRig fun r e => (((r.unloadEntries_ordered [e]).trans (Rig.setEntries_ordered _ _)).calm.trans
    (Rig.reply_calm _ _ _ _ _)).trans (Rig.assignThenSettle_ordered _).calm

theorem execOrderClear_formKept (tag : Tag) (s : State) : FormKept s (execOrderClear tag s) :=
  formKept_takeOnRig fun r => ((((r.unloadEntries_ordered _).trans (Rig.setEntries_ordered _ _)).calm.trans
    (Rig.reply_calm _ _ _ _ _)).trans (Rig.settle_ordered _).calm).keepsForm

theorem execOrderNext_formKept (tag : Tag) (s : State) : FormKept s (execOrderNext tag s) :=
  formKept_calmOnRig fun r e => ((r.startEntry_ordered e .request).calm.trans (Rig.reply_calm _ _ _ _ _)).trans
    (Rig.assignThenSettle_ordered _).calm

theorem execOrderHold_formKept (tag : Tag) (s : State) : FormKept s (execOrderHold tag s) :=
  formKept_takeOnRig fun r => (((r.setHold_ordered true).calm.trans (Rig.reply_calm _ _ _ _ _)).trans
    (Rig.settle_ordered _).calm).keepsForm

theorem execOrderRun_formKept (tag : Tag) (s : State) : FormKept s (execOrderRun tag s) :=
  formKept_takeOnRig fun r => (((r.setHold_ordered false).calm.trans (Rig.reply_calm _ _ _ _ _)).trans
    (Rig.settle_ordered _).calm).keepsForm

theorem execOrderRead_formKept (tag : Tag) (position : Nat) (s : State) :
    FormKept s (execOrderRead tag position s) :=
  formKept_calmOnRig fun r _ => r.reply_calm _ _ _ _

/-! ### The store -/

theorem State.recorderFrame_formKept (s : State) (k : RecorderId) : FormKept s (s.recorderFrame k) := by
  unfold State.recorderFrame
  dsimp only
  split
  · exact formKept_next (State.Calm.refl s).keepsForm
  · split
    · exact formKept_next ⟨fun h => State.clockLaw_of h rfl rfl (.inl rfl), id, id,
        ((s.rig.recorderAdvances_recorded k).trans (Rig.recorderEnds_recorded _ k _)).keepsForm⟩
    · exact formKept_fault s _

theorem execRegionSet_formKept (tag : Tag) (region start pages : Nat) (s : State) :
    FormKept s (execRegionSet tag region start pages s) := by
  refine formKept_takeOnRig fun r => ?_
  split
  · split
    · exact (r.reply_calm _ _ _ _).keepsForm
    · rename_i hc
      obtain ⟨hrange, hc⟩ := refuse_bind_ok hc
      obtain ⟨-, hc⟩ := refuse_bind_ok hc
      have hmeets := refuse_ok hc
      rw [Bool.or_eq_false_iff] at hrange hmeets
      refine ⟨fun _ hx => Library.setDelayRegion_extentLaw hx (by simpa using hrange.1) (fun hp => ?_) hmeets.1
        hmeets.2, id, id⟩
      have := hrange.2
      simp_all
  · split
    · exact (r.reply_calm _ _ _ _).keepsForm
    · rename_i hc
      obtain ⟨hrange, hc⟩ := refuse_bind_ok hc
      obtain ⟨-, hc⟩ := refuse_bind_ok hc
      have hmeets := refuse_ok hc
      rw [Bool.or_eq_false_iff, Bool.or_eq_false_iff] at hrange
      rw [Bool.or_eq_false_iff] at hmeets
      obtain ⟨⟨h16, hlow⟩, hhigh⟩ := hrange
      refine ⟨fun _ hx => Library.setAlertRegion_extentLaw hx (by simpa using hlow) (by simpa using h16)
        (fun hp => ?_) hmeets.1 hmeets.2, id, id⟩
      simp_all
  · exact (r.reply_calm _ _ _ _).keepsForm

/-- A cart's record set, and then calm operations. -/
theorem Rig.setCart_keepsForm {r : Rig} {c : CartId} {x : Cart}
    (h : r.library.extentLaw → ({ r.library with carts := vset r.library.carts c x }).extentLaw) :
    r.KeepsForm (r.setCart c x) := ⟨fun _ => h, id, id⟩

theorem execCartDefine_formKept (tag : Tag) (cart start pages form cls : Nat) (s : State) :
    FormKept s (execCartDefine tag cart start pages form cls s) := by
  refine formKept_takeOnRig fun r => Rig.judged_keepsForm ?_
  rintro ⟨c, f, k⟩ hc
  obtain ⟨c', -, hc⟩ := require_bind_ok hc
  obtain ⟨hrange, hc⟩ := refuse_bind_ok hc
  obtain ⟨f', -, hc⟩ := require_bind_ok hc
  obtain ⟨k', -, hc⟩ := require_bind_ok hc
  obtain ⟨-, hc⟩ := refuse_bind_ok hc
  obtain ⟨-, hc⟩ := refuse_bind_ok hc
  obtain ⟨hmeets, hc⟩ := refuse_bind_ok hc
  cases hc
  rw [Bool.or_eq_false_iff, Bool.or_eq_false_iff] at hrange hmeets
  obtain ⟨⟨hzero, -⟩, hend⟩ := hrange
  obtain ⟨⟨hdelay, halert⟩, hcart⟩ := hmeets
  refine (Rig.setCart_keepsForm fun hx => Library.setCart_extentLaw hx c fun _ => ?_).calm (Rig.reply_calm _ _ _ _ _)
  refine ⟨?_, ?_, hdelay, halert, hcart⟩
  · simp at hzero
    show 0 < pages
    omega
  · simpa [inPages] using hend

theorem execCartDelete_formKept (tag : Tag) (cart : Nat) (s : State) : FormKept s (execCartDelete tag cart s) := by
  refine formKept_takeOnRig fun r => Rig.judged_keepsForm fun c _ => ?_
  split
  · exact (r.reply_calm _ _ _ _).keepsForm
  · refine Rig.KeepsForm.calm (Rig.setCart_keepsForm (x := Cart.empty) fun hx =>
      Library.setCart_extentLaw hx c fun h => absurd rfl h) ?_
    exact ((Rig.removeWaitingFor_ordered _ c).calm.trans (Rig.reply_calm _ _ _ _ _)).trans
      (Rig.settle_ordered _).calm

theorem execCartMarks_formKept (tag : Tag) (cart cueIn cueOut : Nat) (intro segue : Option Nat) (s : State) :
    FormKept s (execCartMarks tag cart cueIn cueOut intro segue s) := by
  refine formKept_takeOnRig fun r => Rig.judged_keepsForm fun c hc => ?_
  obtain ⟨c', -, hc⟩ := require_bind_ok hc
  obtain ⟨hready, hc⟩ := refuse_bind_ok hc
  obtain ⟨-, hc⟩ := refuse_bind_ok hc
  obtain ⟨-, hc⟩ := refuse_bind_ok hc
  cases hc
  have hstate : (r.cart c).state = .ready := by simpa using hready
  exact ((Rig.setCart_recorded (x := (r.cart c).marked cueIn cueOut intro segue) (fun _ => by rw [hstate]; nofun)
    (by show (r.cart c).state ≠ .empty; rw [hstate]; nofun) rfl rfl).trans
    (Rig.reply_recorded _ _ _ _ _)).keepsForm

theorem execCartRecord_formKept (tag : Tag) (cart kind number : Nat) (s : State) :
    FormKept s (execCartRecord tag cart kind number s) := by
  refine formKept_takeOnRig fun r => Rig.judged_keepsForm ?_
  rintro ⟨c, source, k⟩ hc
  obtain ⟨c', -, hc⟩ := require_bind_ok hc
  obtain ⟨source', -, hc⟩ := require_bind_ok hc
  obtain ⟨-, hc⟩ := refuse_bind_ok hc
  obtain ⟨hstate, hc⟩ := refuse_bind_ok hc
  obtain ⟨-, hc⟩ := refuse_bind_ok hc
  obtain ⟨k', -, hc⟩ := require_bind_ok hc
  cases hc
  have hne : (r.cart c).state ≠ .empty := by
    rw [Bool.or_eq_false_iff] at hstate
    simpa using hstate.1
  have recording := Rig.setCart_recorded (r := r) (x := (r.cart c).cleared .recording) (fun _ => hne) nofun rfl rfl
  have bound := recording.trans (Rig.bindRecorder_recorded (r := r.setCart c ((r.cart c).cleared .recording)) k
    (b := .cart c) source (r.cart c).capacity fun b hb => by
      cases hb
      rw [Rig.cart_setCart, if_pos rfl]
      nofun)
  exact bound.keepsForm.calm (((Rig.removeWaitingFor_ordered _ c).calm.trans (Rig.reply_calm _ _ _ _ _)).trans
    (Rig.settle_ordered _).calm)

/-- The recorder found for a target is bound to it. -/
theorem Rig.recorderOf_binding {r : Rig} {b : Binding} {k : RecorderId} (h : r.recorderOf b = some k) :
    (r.recorder k).binding = b := by
  simpa using List.find?_some h

theorem execCartRecordStop_formKept (tag : Tag) (cart : Nat) (s : State) :
    FormKept s (execCartRecordStop tag cart s) := by
  refine formKept_takeOnRig fun r => Rig.judged_keepsForm ?_
  rintro ⟨c, k⟩ hc
  obtain ⟨c', -, hc⟩ := require_bind_ok hc
  obtain ⟨-, hc⟩ := refuse_bind_ok hc
  obtain ⟨k', hk, hc⟩ := require_bind_ok hc
  cases hc
  exact ((r.reply_recorded tag .cartRecordStop .done []).trans
    (Rig.cartRecordingEnds_recorded (r := r.reply tag .cartRecordStop .done [])
      (Rig.recorderOf_binding hk) .stop)).keepsForm

theorem execCartRead_formKept (tag : Tag) (cart : Nat) (s : State) : FormKept s (execCartRead tag cart s) :=
  formKept_calmOnRig fun r _ => r.reply_calm _ _ _ _

/-! ### Alerts -/

theorem Rig.takeRecord_beside (r : Rig) (i : RecordId) (n : Notice) (st : AlertState) (v : Nat)
    (index : Option (Fin 24)) (f : Filter) : r.Beside (r.takeRecord i n st v index f) := ⟨.refl _, rfl, rfl, rfl, rfl⟩

theorem Rig.acceptNotice_recorded (r : Rig) (n : Notice) (v : Nat) (index : Option (Fin 24)) (f : Filter) :
    r.Recorded (r.acceptNotice n v index f).1 := by
  have reports (m : Report) := (r.report_beside m).recorded
  unfold Rig.acceptNotice
  dsimp only
  split
  · exact reports _
  · split
    · exact reports _
    · split
      · exact reports _
      · rename_i hclaim
        exact (Rig.claimForAlert_recorded hclaim).trans
          ((Rig.takeRecord_beside _ _ _ _ _ _ _).trans (Rig.report_beside _ _)).recorded

theorem Rig.filterNotice_recorded (r : Rig) (n : Notice) (v : Nat) : r.Recorded (r.filterNotice n v).1 := by
  unfold Rig.filterNotice
  dsimp only
  split
  · exact (r.report_beside _).recorded
  · unfold Rig.logNotice
    split
    · exact (r.report_beside _).recorded
    · exact ((r.takeRecord_beside _ _ _ _ _ _).trans (Rig.report_beside _ _)).recorded
  · exact r.acceptNotice_recorded n v _ _
  · exact r.acceptNotice_recorded n v _ _

theorem Rig.intake_keepsForm (r : Rig) (clock : Clock) (n : Notice) : r.KeepsForm (r.intake clock n).1 := by
  unfold Rig.intake
  split
  · exact (r.report_beside _).calm.keepsForm
  · rename_i hnew
    have known : ∀ r' : Rig, (({ r with alerts := { r.alerts with
        recent := rememberPair r.alerts.recent (n.originator, n.identity) } } : Rig).Recorded r') →
        r.KeepsForm r' := by
      intro r' h
      refine ⟨h.keepsForm.extents, fun hr => h.keepsForm.recent ?_, h.keepsForm.monitors⟩
      obtain ⟨hlen, hdup⟩ := hr
      refine rememberPair_recentLaw hlen hdup fun hin => hnew ?_
      unfold Alerts.duplicate
      rw [List.contains_iff_mem.mpr hin]
      rfl
    dsimp only
    split
    · exact known _ (Rig.report_beside _ _).recorded
    · exact known _ (Rig.filterNotice_recorded _ n _)

theorem execAlertNotice_formKept (tag : Tag) (f : NoticeFields) (s : State) : FormKept s (execAlertNotice tag f s) :=
  formKept_takeOnRig fun r => Rig.judged_keepsForm fun n _ =>
    (r.intake_keepsForm s.clock n).calm (Rig.reply_calm _ _ _ _ _)

theorem execAlertAudioEnd_formKept (tag : Tag) (originator identity : Nat) (s : State) :
    FormKept s (execAlertAudioEnd tag originator identity s) :=
  formKept_takeOnRig fun r => Rig.judged_keepsForm fun i _ =>
    ((r.reply_recorded _ _ _ _).trans (Rig.alertRecordingEnds_recorded _ i false _)).keepsForm

theorem execAlertCancel_formKept (tag : Tag) (originator identity : Nat) (s : State) :
    FormKept s (execAlertCancel tag originator identity s) :=
  formKept_takeOnRig fun r => Rig.judged_keepsForm fun i _ =>
    ((r.reply_recorded _ _ _ _).trans (Rig.cancelAlert_recorded _ i)).keepsForm

theorem execAlertConfirm_formKept (tag : Tag) (record : Nat) (s : State) : FormKept s (execAlertConfirm tag record s) :=
  formKept_calmOnRig fun r i => (r.reply_calm _ _ _ _).trans (Rig.confirmAlert_beside _ i).calm

theorem execAlertDecline_formKept (tag : Tag) (record : Nat) (s : State) : FormKept s (execAlertDecline tag record s) :=
  formKept_takeOnRig fun r => Rig.judged_keepsForm fun i _ =>
    ((r.reply_recorded _ _ _ _).trans (Rig.declineAlert_recorded _ i)).keepsForm

theorem execAlertAbort_formKept (tag : Tag) (record : Nat) (s : State) : FormKept s (execAlertAbort tag record s) :=
  formKept_calmOnRig fun r i => (r.stopAiring_beside i _ _).calm.trans (Rig.reply_calm _ _ _ _ _)

theorem execAlertForget_formKept (tag : Tag) (record : Nat) (s : State) : FormKept s (execAlertForget tag record s) :=
  formKept_calmOnRig fun r i => (r.setRecord_beside i _).calm.trans (Rig.reply_calm _ _ _ _ _)

theorem execAlertRead_formKept (tag : Tag) (record : Nat) (s : State) : FormKept s (execAlertRead tag record s) :=
  formKept_calmOnRig fun r _ => r.reply_calm _ _ _ _

theorem Rig.setFilter_calm (r : Rig) (i : Fin 24) (f : Filter) : r.Calm (r.setFilter i f) := ⟨rfl, rfl, id⟩

theorem execFilterSet_formKept (tag : Tag) (f : FilterFields) (s : State) : FormKept s (execFilterSet tag f s) :=
  formKept_calmOnRig fun r a => (r.setFilter_calm a.1 a.2).trans (Rig.reply_calm _ _ _ _ _)

theorem execFilterClear_formKept (tag : Tag) (index : Nat) (s : State) : FormKept s (execFilterClear tag index s) :=
  formKept_calmOnRig fun r i => (r.setFilter_calm i _).trans (Rig.reply_calm _ _ _ _ _)

/-! ### Restart, power-on and the small requests -/

theorem Library.restarted_sameExtents (l : Library) : l.SameExtents l.restarted := by
  have cart (c : CartId) : l.restarted.carts[c] = (l.carts[c]).restarted := vmap_get _ _ c
  refine ⟨rfl, rfl, fun c => ?_, fun c => ?_, fun c => ?_⟩ <;> rw [cart] <;> unfold Cart.restarted <;> split
  · rename_i hrec
    rw [hrec]
    exact ⟨nofun, nofun⟩
  all_goals first | exact Iff.rfl | rfl

theorem Monitors.restarted_law {m : Monitors} (h : m.law) : m.restarted.law := by
  obtain ⟨-, -, htimes⟩ := (Monitors.law_iff m).mp h
  refine (Monitors.law_iff _).mpr ⟨by show 0 < 480; decide, fun c => ?_, htimes⟩
  have hcell : m.restarted.cells[c] = .reset := by simp [Monitors.restarted]
  rw [hcell]
  exact MonitorCell.inForm_of_clear ⟨rfl, rfl, rfl⟩ _ _

theorem State.restarted_mixLaw {s : State} (h : s.mixLaw) : ({ s with mix := s.mix.restarted }).mixLaw := by
  obtain ⟨hroutes, -, -, hdepth, hhold⟩ := h
  refine ⟨fun i => ?_, Nat.le_refl 16384, Nat.le_refl 48001, hdepth, hhold⟩
  have : s.mix.restarted.routes[i] = (s.mix.routes[i]).restarted := vmap_get _ _ i
  show (s.mix.restarted.routes[i]).law
  rw [this]
  exact Route.restarted_law (hroutes i)

theorem execRestart_formKept (tag : Tag) (s : State) : FormKept s (execRestart tag s) := by
  refine formKept_take fun s _ => State.KeepsForm.calm ?_ (State.restartCallers_calm _)
  exact ⟨fun h => State.clockLaw_of h rfl rfl (.inl rfl), State.restarted_mixLaw, id,
    ⟨fun _ hx => (Library.restarted_sameExtents _).law hx, id, Monitors.restarted_law⟩⟩

theorem execStatusRead_formKept (tag : Tag) (s : State) : FormKept s (execStatusRead tag s) :=
  formKept_take fun _ _ => State.Calm.keepsForm ⟨rfl, rfl, rfl, id, id, ⟨rfl, rfl, id⟩⟩

theorem execOutmapSet_formKept (tag : Tag) (items : List (Nat × Nat)) (s : State) :
    FormKept s (execOutmapSet tag items s) :=
  formKept_calm fun _ _ => ⟨rfl, rfl, rfl, id, id, Rig.reply_calm _ _ _ _ _⟩

end Sys2Proof.Machine
end

section
/-!
SUPPORT and the statements on what holds at power-on and after every step: O54 and O60.
-/

namespace Sys2Proof.Machine

/-! ### The part at reset -/

theorem reset_clockLaw : State.reset.clockLaw := by
  refine ⟨?_, ?_, ?_, ?_, ?_, ?_, ?_, ?_, nofun, nofun⟩ <;> decide

theorem reset_mixLaw : State.reset.mixLaw := by
  refine ⟨fun i => ?_, ?_, ?_, ?_, ?_⟩
  · have : State.reset.mix.routes[i] = .free := by simp [State.reset, Mix.reset]
    rw [this]
    exact Route.free_law
  all_goals decide

theorem reset_cart (c : CartId) : Rig.reset.library.carts[c] = .empty := by simp [Rig.reset, Library.reset]

theorem reset_recorder (k : RecorderId) : Rig.reset.library.recorders[k] = .free := by
  simp [Rig.reset, Library.reset]

theorem reset_record (i : RecordId) : Rig.reset.alerts.records[i] = .free := by simp [Rig.reset, Alerts.reset]

theorem reset_deck (d : DeckId) : Rig.reset.decks.decks[d] = .reset := by simp [Rig.reset, Decks.reset]

theorem reset_line (k : LineId) : State.reset.callers.lines[k] = .reset := by simp [State.reset, Callers.reset]

theorem reset_extentLaw : Rig.reset.library.extentLaw := by
  refine ⟨?_, ?_, ?_, ?_, ?_, ?_, fun c hc => absurd ?_ hc⟩
  · decide
  · unfold inPages; decide
  · decide
  · decide
  · unfold inPages; decide
  · decide
  · rw [reset_cart]
    rfl

theorem reset_callersLaw : State.reset.callers.law := by
  have lines (k : LineId) : (State.reset.callers.lines[k]).law := by
    rw [reset_line]
    unfold Line.law
    decide
  refine ⟨lines, List.nodup_nil, fun k => ?_, ?_, ?_, ?_, ?_⟩
  · rw [reset_line]
    exact ⟨nofun, nofun⟩
  all_goals decide

theorem reset_delayLaw : Rig.reset.delayLaw := by
  unfold Rig.delayLaw
  decide

theorem reset_alertLaw : Rig.reset.alertLaw := by
  refine ⟨fun i => ?_, rfl, fun _ i => ?_, fun i => ?_, fun c => ?_, fun j k _ hj => absurd ?_ hj⟩
  · show (Rig.reset.alerts.records[i]).state = .airing ↔ _
    rw [reset_record]
    exact ⟨nofun, nofun⟩
  · show (Rig.reset.alerts.records[i]).state ≠ .queued
    rw [reset_record]
    nofun
  · show (Rig.reset.alerts.records[i]).state = .recording ↔
      ∃ k : RecorderId, (Rig.reset.library.recorders[k]).binding = .alert i
    simp only [reset_record, reset_recorder]
    exact ⟨nofun, fun ⟨_, h⟩ => nomatch h⟩
  · show (Rig.reset.library.carts[c]).state = .recording ↔
      ∃ k : RecorderId, (Rig.reset.library.recorders[k]).binding = .cart c
    simp only [reset_cart, reset_recorder]
    exact ⟨nofun, fun ⟨_, h⟩ => nomatch h⟩
  · show (Rig.reset.library.recorders[j]).binding = .free
    rw [reset_recorder]
    rfl

theorem reset_ownerLaw : Rig.reset.ownerLaw := by
  refine ⟨?_, ?_, ?_, ?_, ?_, ?_, ?_, ?_, fun _ _ => ?_⟩
  case refine_9 =>
    show (Rig.reset.decks.decks[deckF]).state = .empty
    rw [reset_deck]
    rfl
  all_goals decide

theorem reset_recentLaw : Rig.reset.alerts.recentLaw := ⟨Nat.zero_le _, List.nodup_nil⟩

theorem reset_monitorsLaw : Rig.reset.monitors.law := by
  have cell (c : Fin 18) : Rig.reset.monitors.cells[c] = .reset := by simp [Rig.reset, Monitors.reset]
  refine (Monitors.law_iff _).mpr ⟨by decide, fun c => ?_, by decide⟩
  rw [cell]
  exact MonitorCell.inForm_of_clear ⟨rfl, rfl, rfl⟩ _ _

theorem reset_linkLaw : State.reset.link.law := by
  have port (p : Port) : State.reset.link.port p = .reset := by cases p <;> rfl
  refine (Link.law_iff _).mpr ⟨⟨?_, ?_, ?_, rfl, ?_, ?_, ?_, fun p => ?_, fun p => ?_, fun p => ?_⟩, .inr rfl⟩
  case refine_7 => rw [port]; exact ⟨fun _ => rfl, fun _ => rfl⟩
  case refine_8 => rw [port]; exact Nat.zero_le _
  case refine_9 => rw [port]; nofun
  all_goals decide

/-- Settles O54, law by law: at power-on every table holds its power-on entry throughout. -/
theorem resetMeetsEveryLaw : Obligations.ResetMeetsEveryLaw := by
  refine ⟨State.reset_store_wf, ⟨by decide, rfl, rfl⟩, reset_clockLaw, reset_mixLaw, reset_extentLaw, ?_,
    ⟨by decide, List.nodup_nil, nofun, by decide⟩, reset_callersLaw, reset_delayLaw,
    reset_recentLaw, reset_alertLaw, reset_ownerLaw, reset_monitorsLaw, reset_linkLaw⟩
  unfold State.audibleLaw
  decide

/-! ### Power-on and the service channel -/

theorem execPowerOn_formKept (s : State) : FormKept s (execPowerOn s) :=
  formKept_next ⟨fun _ => reset_clockLaw, fun _ => reset_mixLaw, fun _ => reset_linkLaw,
    ⟨fun _ _ => reset_extentLaw, fun _ => reset_recentLaw, fun _ => reset_monitorsLaw⟩⟩

/-- A change of the open message alone, beside a reply of the Service Channel Interface. -/
theorem State.rejectMessage_keepsForm (s : State) (m : OpenMessage) (st : Status) :
    s.KeepsForm (s.rejectMessage m st) :=
  ⟨fun h => State.clockLaw_of h rfl rfl (.inr rfl), id, id, (Rig.command_calm _ _).keepsForm⟩

theorem State.badForm_keepsForm (s : State) : s.KeepsForm s.badForm := by
  unfold State.badForm
  split
  · exact (State.Calm.refl s).keepsForm
  · exact s.rejectMessage_keepsForm _ _

theorem State.badForm_trunk (s : State) : s.badForm.trunk = s.trunk := by
  unfold State.badForm
  split <;> rfl

/-- A message opened or extended while the receiver hands on words. -/
theorem State.setInbound_clockLaw {s : State} (h : s.clockLaw) (hw : s.trunk.handsWord = true) {m : OpenMessage}
    (hm : m.fields.length ≤ m.count ∧ m.count ≤ 63) : ({ s with inbound := some m }).clockLaw := by
  obtain ⟨h1, h2, h3, h4, h5, h6, h7, h8, h9, -⟩ := h
  refine ⟨h1, h2, h3, h4, h5, h6, h7, h8, h9, fun m' hm' => ?_⟩
  cases hm'
  exact ⟨h9 hw, hm⟩

theorem State.firstWord_keepsForm {s : State} (hw : s.trunk.handsWord = true) (p : Nat) :
    s.KeepsForm (s.firstWord p) := by
  have cleared := s.badForm_keepsForm
  unfold State.firstWord
  dsimp only
  split
  · exact cleared
  · refine ⟨fun h => State.setInbound_clockLaw (cleared.clock h) (by rw [State.badForm_trunk]; exact hw)
      ⟨Nat.zero_le _, ?_⟩, cleared.mix, cleared.link, cleared.rig⟩
    show p / 32 % 64 ≤ 63
    omega

theorem State.nextWord_keepsForm {s : State} (hw : s.trunk.handsWord = true) (p : Nat) :
    s.KeepsForm (s.nextWord p) := by
  unfold State.nextWord
  split
  · exact (State.Calm.refl s).keepsForm
  · rename_i m hm
    split
    · rename_i hroom
      refine ⟨fun h => State.setInbound_clockLaw h hw ⟨?_, ?_⟩, id, id, (Rig.Calm.refl _).keepsForm⟩
      · simp only [OpenMessage.extended, List.length_append, List.length_singleton]
        omega
      · obtain ⟨-, -, -, -, -, -, -, -, -, hopen⟩ := h
        exact (hopen m hm).2.2
    · exact s.rejectMessage_keepsForm m _

/-- Every request that a message carries keeps the laws. -/
theorem carryOut_formKept (i : Instr) (s : State) : FormKept s (carryOut i s) := by
  cases i
  case statusRead tag => exact execStatusRead_formKept tag s
  case timeSet tag n => exact execTimeSet_formKept tag n s
  case restart tag => exact execRestart_formKept tag s
  case routeSet tag a b c d e f g h => exact execRouteSet_formKept tag a b c d e f g h s
  case routeGain tag a b c => exact execRouteGain_formKept tag a b c s
  case routeClear tag a b => exact execRouteClear_formKept tag a b s
  case routeRead tag a => exact execRouteRead_formKept tag a s
  case duckSet tag a b c d e => exact execDuckSet_formKept tag a b c d e s
  case outmapSet tag items => exact execOutmapSet_formKept tag items s
  case regionSet tag a b c => exact execRegionSet_formKept tag a b c s
  case cartDefine tag a b c d e => exact execCartDefine_formKept tag a b c d e s
  case cartDelete tag a => exact execCartDelete_formKept tag a s
  case cartMarks tag a b c d e => exact execCartMarks_formKept tag a b c d e s
  case cartRecord tag a b c => exact execCartRecord_formKept tag a b c s
  case cartRecordStop tag a => exact execCartRecordStop_formKept tag a s
  case cartRead tag a => exact execCartRead_formKept tag a s
  case deckStart tag a => exact execDeckStart_formKept tag a s
  case deckFade tag a => exact execDeckFade_formKept tag a s
  case deckCut tag a => exact execDeckCut_formKept tag a s
  case deckPause tag a => exact execDeckPause_formKept tag a s
  case deckResume tag a => exact execDeckResume_formKept tag a s
  case deckRead tag a => exact execDeckRead_formKept tag a s
  case orderAppend tag e => exact execOrderAppend_formKept tag e s
  case orderInsert tag e b => exact execOrderInsert_formKept tag e b s
  case orderRemove tag a => exact execOrderRemove_formKept tag a s
  case orderClear tag => exact execOrderClear_formKept tag s
  case orderNext tag => exact execOrderNext_formKept tag s
  case orderHold tag => exact execOrderHold_formKept tag s
  case orderRun tag => exact execOrderRun_formKept tag s
  case orderRead tag a => exact execOrderRead_formKept tag a s
  case callAnswer tag a => exact execCallAnswer_formKept tag a s
  case callReady tag a => exact execCallReady_formKept tag a s
  case callTake tag a => exact execCallTake_formKept tag a s
  case callPark tag a => exact execCallPark_formKept tag a s
  case callDrop tag a => exact execCallDrop_formKept tag a s
  case callSetup tag a b items => exact execCallSetup_formKept tag a b items s
  case lineRead tag a => exact execLineRead_formKept tag a s
  case lineRing tag a b => exact execLineRing_formKept tag a b s
  case lineConnected tag a b => exact execLineConnected_formKept tag a b s
  case lineHangup tag a b => exact execLineHangup_formKept tag a b s
  case delaySetup tag a b c d => exact execDelaySetup_formKept tag a b c d s
  case delayStart tag => exact execDelayStart_formKept tag s
  case delayExit tag => exact execDelayExit_formKept tag s
  case delayDump tag => exact execDelayDump_formKept tag s
  case delayRead tag => exact execDelayRead_formKept tag s
  case alertNotice tag n => exact execAlertNotice_formKept tag n s
  case alertAudioEnd tag a b => exact execAlertAudioEnd_formKept tag a b s
  case alertCancel tag a b => exact execAlertCancel_formKept tag a b s
  case alertConfirm tag a => exact execAlertConfirm_formKept tag a s
  case alertDecline tag a => exact execAlertDecline_formKept tag a s
  case alertAbort tag a => exact execAlertAbort_formKept tag a s
  case alertForget tag a => exact execAlertForget_formKept tag a s
  case alertRead tag a => exact execAlertRead_formKept tag a s
  case filterSet tag f => exact execFilterSet_formKept tag f s
  case filterClear tag a => exact execFilterClear_formKept tag a s
  case airSetup tag a b c => exact execAirSetup_formKept tag a b c s
  case monitorSet tag a f => exact execMonitorSet_formKept tag a f s
  case monitorClear tag a b => exact execMonitorClear_formKept tag a b s
  case monitorRead tag a b => exact execMonitorRead_formKept tag a b s
  case linkSetup tag f => exact execLinkSetup_formKept tag f s
  case linkSelect tag a b => exact execLinkSelect_formKept tag a b s
  case linkRead tag => exact execLinkRead_formKept tag s
  all_goals exact formKept_next (State.Calm.refl s).keepsForm

theorem execServiceWord_formKept (w : Word32) (s : State) : FormKept s (execServiceWord w s) := by
  unfold execServiceWord
  split
  · exact formKept_next (State.Calm.refl s).keepsForm
  · rename_i hno
    have hw : s.trunk.handsWord = true := by simpa using hno
    split
    · exact formKept_next s.badForm_keepsForm
    · exact formKept_next (State.firstWord_keepsForm hw _)
    · exact formKept_next (State.nextWord_keepsForm hw _)
    · unfold State.lastWord
      split
      · exact formKept_next (State.Calm.refl s).keepsForm
      · split
        · exact formKept_next (s.rejectMessage_keepsForm _ _)
        · exact carryOut_formKept _ s

theorem execBadMessage_formKept (p : BitVec 30) (s : State) : FormKept s (execBadMessage p s) := by
  have same : FormKept s (.next s) := formKept_next (State.Calm.refl s).keepsForm
  unfold execBadMessage
  split
  · exact same
  · split
    · exact same
    · split
      · exact formKept_next (s.rejectMessage_keepsForm _ _)
      · exact same

/-! ### Every command, every step -/

/-- Every command keeps the laws: the events of the part one by one, and the requests as a message carries them. -/
theorem exec_formKept (i : Instr) (s : State) : FormKept s (exec i s) := by
  have request := carryOut_formKept i s
  cases i
  case powerOn => exact execPowerOn_formKept s
  case activitySeen => exact execActivitySeen_formKept s
  case activityCeases => exact execActivityCeases_formKept s
  case alignmentFound => exact execAlignmentFound_formKept s
  case alignedFrame lanes => exact execAlignedFrame_formKept lanes s
  case failedPosition => exact execFailedPosition_formKept s
  case settlingFailure => exact execSettlingFailure_formKept s
  case lockEvent => exact execLockEvent_formKept s
  case frameLoss => exact execFrameLoss_formKept s
  case stationClockFrame => exact formKept_clockFrame s
  case secondAdvance | timeReached | validityExpiry | windowExpiry | answerTimerExpiry =>
    exact formKept_whenDue (f := fun s => .next s.clockFrame) (formKept_clockFrame s)
  case mixFrame => exact formKept_mixFrame s
  case routeRampEnd | gateRampEnd | voiceHoldExpiry =>
    exact formKept_whenDue (f := fun s => .next s.mixFrame) (formKept_mixFrame s)
  case transmitFrame =>
    exact formKept_next (State.Calm.keepsForm ⟨rfl, rfl, rfl, id, id, ⟨rfl, rfl, id⟩⟩)
  case deckFrame d => exact s.deckFrame_formKept d
  case prefetchComplete d => exact execPrefetchComplete_formKept d s
  case autoFadeStart d | segueEvent d | playEnd d | fadeEnd d =>
    exact formKept_whenDue (f := fun s => s.deckFrame d) (s.deckFrame_formKept d)
  case recorderFrame k => exact s.recorderFrame_formKept k
  case cartRecordingFull k | alertDeclaredLength k | alertSlotFull k =>
    exact formKept_whenDue (f := fun s => s.recorderFrame k) (s.recorderFrame_formKept k)
  case delayFrame => exact s.delayFrame_formKept
  case targetLanding | bypassReached | delayOverrun | dumpCrossfadeEnd =>
    exact formKept_whenDue (f := fun s => s.delayFrame) s.delayFrame_formKept
  case switchFrame => exact formKept_next s.switchFrame_calm.keepsForm
  case crossfadeEnd =>
    exact formKept_whenDue (f := fun s => .next s.switchFrame) (formKept_next s.switchFrame_calm.keepsForm)
  case monitorFrame => exact formKept_next s.monitorFrame_calm.keepsForm
  case monitorBlockEnd =>
    exact formKept_whenDue (f := fun s => .next s.monitorFrame) (formKept_next s.monitorFrame_calm.keepsForm)
  case lineQuietFault k => exact execLineQuietFault_formKept k s
  case lineOverloadChange => exact execLineOverloadChange_formKept s
  case linkFrame => exact formKept_linkFrame s
  case linkBlockComplete | heartbeatExpiry | revertiveReturn =>
    exact formKept_whenDue (f := fun s => .next s.linkFrame) (formKept_linkFrame s)
  case siteReport p w0 w1 w2 => exact execSiteReport_formKept p w0 w1 w2 s
  case serviceWord w => exact execServiceWord_formKept w s
  case badMessage p => exact execBadMessage_formKept p s
  all_goals exact request

/-- A step takes nothing from the laws: the queue's rest is no part of any block. -/
theorem step_keepsForm {s t : State} (h : step s = .next t) : s.KeepsForm t := by
  unfold step at h
  split at h
  · cases h
    exact (State.Calm.refl s).keepsForm
  · have kept := exec_formKept _ _ t h
    exact ⟨kept.clock, kept.mix, kept.link, ⟨kept.rig.extents, kept.rig.recent, kept.rig.monitors⟩⟩

/-- Settles O60: every command keeps each block's law, by the lemma of its own for each command. -/
theorem everyStepKeepsTheOtherBlocksInForm : Obligations.EveryStepKeepsTheOtherBlocksInForm := by
  intro s t h
  have kept := step_keepsForm h
  exact ⟨kept.clock, kept.mix, kept.rig.extents, kept.rig.recent, kept.rig.monitors, kept.link⟩

end Sys2Proof.Machine
end

section
/-!
SUPPORT and the statements on service words, the outbound frame and the out-map: O11, O13 and O19.
-/

namespace Sys2Proof.Machine

/-! ### Service words -/

theorem wordCode_serviceWordOf {c p : Nat} (hc : c < 4) (hp : p < 1073741824) : wordCode (serviceWordOf c p) = c := by
  simp only [wordCode, serviceWordOf, BitVec.toNat_ofNat]
  omega

theorem wordPayload_serviceWordOf (c : Nat) {p : Nat} (hp : p < 1073741824) :
    wordPayload (serviceWordOf c p) = p := by
  simp only [wordPayload, serviceWordOf, BitVec.toNat_ofNat]
  omega

/-- A word that the receiver hands on is taken by its code. -/
theorem execServiceWord_handed {s : State} (hw : s.trunk.handsWord = true) {p : Nat} (hp : p < 1073741824) :
    execServiceWord (serviceWordOf 0 p) s = .next s.badForm ∧
      execServiceWord (serviceWordOf 1 p) s = .next (s.firstWord p) ∧
      execServiceWord (serviceWordOf 2 p) s = .next (s.nextWord p) ∧
      execServiceWord (serviceWordOf 3 p) s = s.lastWord p := by
  have hcode (c : Nat) (hc : c < 4) := wordCode_serviceWordOf hc hp
  refine ⟨?_, ?_, ?_, ?_⟩ <;> unfold execServiceWord <;>
    rw [hcode _ (by decide), wordPayload_serviceWordOf _ hp, hw] <;> rfl

theorem execServiceWord_discarded {s : State} (hw : s.trunk.handsWord = false) (w : Word32) :
    execServiceWord w s = .next s := by
  unfold execServiceWord
  rw [hw]
  rfl

theorem State.badForm_closed {s : State} (h : s.inbound = none) : s.badForm = s := by
  unfold State.badForm
  rw [h]

theorem State.badForm_open {s : State} {m : OpenMessage} (h : s.inbound = some m) :
    s.badForm = s.rejectMessage m .badForm := by
  unfold State.badForm
  rw [h]

theorem State.nextWord_closed {s : State} (h : s.inbound = none) (p : Nat) : s.nextWord p = s := by
  unfold State.nextWord
  rw [h]

theorem State.nextWord_open {s : State} {m : OpenMessage} (h : s.inbound = some m) (p : Nat) :
    s.nextWord p = if m.fields.length < m.count then { s with inbound := some (m.extended p) }
      else s.rejectMessage m .badForm := by
  unfold State.nextWord
  rw [h]

theorem State.lastWord_closed {s : State} (h : s.inbound = none) (p : Nat) : s.lastWord p = .next s := by
  unfold State.lastWord
  rw [h]

/-- Settles O11, word code by word code, with no message open and with one. -/
theorem serviceWordActsByItsCode : Obligations.ServiceWordActsByItsCode := by
  intro s p hp
  refine ⟨fun hw w => execServiceWord_discarded hw w, fun hw hin => ?_, fun m hw hin => ?_⟩
  · obtain ⟨hidle, hfirst, hnext, hlast⟩ := execServiceWord_handed hw hp
    refine ⟨fun c hc => ?_, hfirst.trans ?_⟩
    · rcases hc with rfl | rfl | rfl
      · exact hidle.trans (congrArg _ (State.badForm_closed hin))
      · exact hnext.trans (congrArg _ (State.nextWord_closed hin p))
      · exact hlast.trans (State.lastWord_closed hin p)
    · simp only [State.firstWord, State.badForm_closed hin]
      rfl
  · obtain ⟨hidle, hfirst, hnext, -⟩ := execServiceWord_handed hw hp
    refine ⟨hidle.trans (congrArg _ (State.badForm_open hin)), hnext.trans (congrArg _ (State.nextWord_open hin p)),
      hfirst.trans ?_⟩
    simp only [State.firstWord, State.badForm_open hin]
    rfl

/-! ### The outbound frame -/

theorem Outbound.words_length (m : Outbound) : m.words.length = m.fields.length + 2 := by
  simp [Outbound.words]

/-- The head's next word, while words of it are left. -/
theorem Egress.word_head {e : Egress} {m : Outbound} {rest : List Outbound} (h : e.queue = m :: rest)
    (hs : e.sent < m.fields.length + 2) : m.words[e.sent]? = some e.word := by
  have hlt : e.sent < m.words.length := by rw [Outbound.words_length]; exact hs
  unfold Egress.word
  rw [h]
  simp [hlt]

theorem Egress.advanced_head {e : Egress} {m : Outbound} {rest : List Outbound} (h : e.queue = m :: rest) :
    e.advanced = if m.fields.length + 1 ≤ e.sent then { e with queue := rest, sent := 0 }
      else { e with sent := e.sent + 1 } := by
  unfold Egress.advanced
  rw [h]
  have hiff : m.fields.length + 2 ≤ e.sent + 1 ↔ m.fields.length + 1 ≤ e.sent := by omega
  simp only [Outbound.words_length, hiff]

theorem Egress.advanced_eq (e : Egress) : e.advanced = { e with
    queue := e.advanced.queue, sent := e.advanced.sent } := by
  unfold Egress.advanced
  split
  · rfl
  · split <;> rfl

theorem execTransmitFrame_lanes (s : State) (i : Fin 16) :
    (vmap s.taken.signal s.outMap)[i] = s.taken.signal s.outMap[i] := vmap_get _ _ i

/-- Settles O13: the next word of the head by the words' number, and the queue after it by whether it was the last. -/
theorem transmitFrameSendsOneFrame : Obligations.TransmitFrameSendsOneFrame := by
  intro s
  refine ⟨_, rfl, execTransmitFrame_lanes s, fun hq => ?_, fun m rest hq hs => ⟨Egress.word_head hq hs, ?_, ?_⟩, ?_⟩
  · simp [Egress.word, Egress.advanced, hq]
  · intro hlt
    show s.rig.egress.advanced.queue = m :: rest ∧ s.rig.egress.advanced.sent = s.rig.egress.sent + 1
    rw [Egress.advanced_head hq, if_neg (by omega)]
    exact ⟨hq, rfl⟩
  · intro heq
    show s.rig.egress.advanced.queue = rest ∧ s.rig.egress.advanced.sent = 0
    rw [Egress.advanced_head hq, if_pos (by omega)]
    exact ⟨rfl, rfl⟩
  · dsimp only
    rw [← Egress.advanced_eq]

/-! ### The out-map -/

/-- A list is read whole exactly where each of its items is. -/
theorem readAll?_eq_none {α β : Type} {f : α → Option β} {l : List α} (h : ∃ x ∈ l, f x = none) :
    readAll? f l = none := by
  induction l with
  | nil => obtain ⟨x, hx, -⟩ := h; cases hx
  | cons y l ih =>
    obtain ⟨x, hx, hn⟩ := h
    unfold readAll?
    rcases List.mem_cons.mp hx with rfl | hx
    · rw [hn]
    · rw [ih ⟨x, hx, hn⟩]
      cases f y <;> rfl

theorem readAll?_forall₂ {α β : Type} {f : α → Option β} {l : List α} {ys : List β} (h : readAll? f l = some ys) :
    List.Forall₂ (fun x y => f x = some y) l ys := by
  induction l generalizing ys with
  | nil => cases h; exact .nil
  | cons x l ih =>
    unfold readAll? at h
    split at h
    · cases h
      exact .cons ‹_› (ih ‹_›)
    · cases h

theorem readAll?_of_forall {α β : Type} {f : α → Option β} {l : List α} (h : ∀ x ∈ l, f x ≠ none) :
    ∃ ys, readAll? f l = some ys := by
  induction l with
  | nil => exact ⟨[], rfl⟩
  | cons x l ih =>
    obtain ⟨y, hy⟩ := Option.ne_none_iff_exists'.mp (h x (List.mem_cons_self ..))
    obtain ⟨ys, hys⟩ := ih fun z hz => h z (List.mem_cons_of_mem _ hz)
    exact ⟨y :: ys, by unfold readAll?; rw [hy, hys]⟩

theorem allDistinct_iff {α : Type} [DecidableEq α] (l : List α) : allDistinct l = true ↔ l.Nodup := by
  induction l with
  | nil => simp [allDistinct]
  | cons x l ih => simp [allDistinct, ih]

/-- An assignment read: its lane and its signal. -/
theorem mapItem?_eq_some {item : Nat × Nat} {x : Fin 16 × Signal} :
    mapItem? item = some x ↔ item.1 = x.1.val ∧ signal? item.2 = some x.2 := by
  unfold mapItem?
  split
  · rename_i lane signal hl hs
    rw [index?_eq_some] at hl
    rw [hl, hs, Option.some.injEq, Option.some.injEq]
    constructor
    · rintro rfl
      exact ⟨rfl, rfl⟩
    · rintro ⟨h1, h2⟩
      exact Prod.ext (Fin.ext h1) h2
  · rename_i hno
    refine ⟨nofun, fun ⟨h1, h2⟩ => absurd h2 ?_⟩
    exact hno _ _ (index?_eq_some.mpr h1)

theorem mapItem?_eq_none {item : Nat × Nat} : mapItem? item = none ↔ 16 ≤ item.1 ∨ signal? item.2 = none := by
  unfold mapItem?
  split
  · rename_i lane signal hl hs
    have : item.1 < 16 := by rw [index?_eq_some.mp hl]; exact lane.isLt
    simp [hs]
    omega
  · rename_i hno
    refine ⟨fun _ => ?_, fun _ => rfl⟩
    by_contra hboth
    rw [not_or] at hboth
    obtain ⟨hlane, hsignal⟩ := hboth
    obtain ⟨x, hx⟩ := Option.ne_none_iff_exists'.mp hsignal
    exact hno ⟨item.1, by omega⟩ x (index?_eq_some.mpr rfl) hx

theorem readAll?_mem {α β : Type} {f : α → Option β} {l : List α} {ys : List β} (h : readAll? f l = some ys) {x : α}
    (hx : x ∈ l) : ∃ y ∈ ys, f x = some y := by
  have pairs := readAll?_forall₂ h
  clear h
  induction pairs with
  | nil => cases hx
  | cons hy _ ih =>
    rcases List.mem_cons.mp hx with rfl | hx
    · exact ⟨_, List.mem_cons_self .., hy⟩
    · obtain ⟨y, hmem, hy⟩ := ih hx
      exact ⟨y, List.mem_cons_of_mem _ hmem, hy⟩

/-- The lanes of the assignments read are those of the list. -/
theorem readAll?_mapItem?_lanes {items : List (Nat × Nat)} {is : List (Fin 16 × Signal)}
    (h : readAll? mapItem? items = some is) : items.map Prod.fst = is.map fun x => x.1.val := by
  have pairs := readAll?_forall₂ h
  clear h
  induction pairs with
  | nil => rfl
  | cons hx _ ih => rw [List.map_cons, List.map_cons, ih, (mapItem?_eq_some.mp hx).1]

/-- Assignments with distinct lanes are distinct as the list gives them. -/
theorem nodup_lanes_iff {items : List (Nat × Nat)} {is : List (Fin 16 × Signal)}
    (h : readAll? mapItem? items = some is) : (is.map Prod.fst).Nodup ↔ (items.map Prod.fst).Nodup := by
  rw [readAll?_mapItem?_lanes h, ← List.nodup_map_iff Fin.val_injective, List.map_map]
  rfl

/-- The table after assignments, each entry once: a named entry has what was assigned, every other stays. -/
theorem foldl_vset_get {α : Type} {n : Nat} (is : List (Fin n × α)) (v : Vector α n)
    (hd : (is.map Prod.fst).Nodup) (i : Fin n) :
    (∀ x, (i, x) ∈ is → (is.foldl (fun m a => vset m a.1 a.2) v)[i] = x) ∧
      (i ∉ is.map Prod.fst → (is.foldl (fun m a => vset m a.1 a.2) v)[i] = v[i]) := by
  induction is generalizing v with
  | nil => exact ⟨nofun, fun _ => rfl⟩
  | cons a is ih =>
    rw [List.map_cons, List.nodup_cons] at hd
    obtain ⟨hfresh, hd⟩ := hd
    obtain ⟨hin, hout⟩ := ih (vset v a.1 a.2) hd
    refine ⟨fun x hx => ?_, fun hi => ?_⟩
    · rcases List.mem_cons.mp hx with rfl | hx
      · exact (hout hfresh).trans (vset_same _ _ _)
      · exact hin x hx
    · rw [List.map_cons, List.mem_cons, not_or] at hi
      exact (hout hi.2).trans (vset_other _ _ _ _ (Ne.symm hi.1))

/-- The checks of OUTMAP_SET refuse with RANGE alone. -/
theorem outmapCheck_refused {items : List (Nat × Nat)}
    (h : items = [] ∨ 16 < items.length ∨ ¬ (items.map Prod.fst).Nodup ∨
      (∃ i ∈ items, 16 ≤ i.1 ∨ signal? i.2 = none)) : outmapCheck items = .error .range := by
  unfold outmapCheck
  by_cases hlen : items.isEmpty || 16 < items.length
  · rw [hlen, refuse_true]
    rfl
  · rw [Bool.not_eq_true] at hlen
    rw [hlen, refuse_false]
    simp only [Bool.or_eq_false_iff, List.isEmpty_eq_false_iff, decide_eq_false_iff_not] at hlen
    rw [ok_bind]
    cases hr : readAll? mapItem? items with
    | none => rfl
    | some is =>
      rw [require_some, ok_bind]
      have hdup : allDistinct (is.map (·.1)) = false := by
        rw [Bool.eq_false_iff, ne_eq, allDistinct_iff, nodup_lanes_iff hr]
        rcases h with h | h | h | h
        · exact absurd h hlen.1
        · exact absurd h hlen.2
        · exact h
        · obtain ⟨i, hi, hbad⟩ := h
          rw [readAll?_eq_none ⟨i, hi, mapItem?_eq_none.mpr hbad⟩] at hr
          cases hr
      rw [hdup]
      rfl

theorem outmapCheck_passed {items : List (Nat × Nat)} {is : List (Fin 16 × Signal)} (hne : items ≠ [])
    (hlen : items.length ≤ 16) (hd : (items.map Prod.fst).Nodup) (hr : readAll? mapItem? items = some is) :
    outmapCheck items = .ok is := by
  have hdistinct : allDistinct (is.map (·.1)) = true := by
    rw [allDistinct_iff, nodup_lanes_iff hr]
    exact hd
  have hrange : (items.isEmpty || decide (16 < items.length)) = false := by
    simp [hne, hlen]
  unfold outmapCheck
  rw [hrange, hr, refuse_false, ok_bind, require_some, ok_bind, hdistinct]
  rfl

/-- Settles O19: the refusals by the checks, and the assignments by the fold that makes them. -/
theorem outmapSetAssignsTheGivenLanes : Obligations.OutmapSetAssignsTheGivenLanes := by
  refine ⟨fun s => ⟨_, rfl, rfl, execTransmitFrame_lanes s⟩, fun s e tag items he => ⟨fun hbad => ?_,
    fun hne hlen hd hall => ?_⟩⟩
  · show execOutmapSet tag items s = _
    unfold execOutmapSet
    rw [State.take_room _ he]
    simp only [outmapCheck_refused hbad, State.judged_error]
    rfl
  · obtain ⟨is, hr⟩ := readAll?_of_forall (f := mapItem?) (l := items) fun x hx hn => by
      rcases mapItem?_eq_none.mp hn with h | h
      · exact absurd (hall x hx).1 (by omega)
      · exact (hall x hx).2 h
    obtain hset := fun i => foldl_vset_get is s.outMap ((nodup_lanes_iff hr).mpr hd) i
    refine ⟨is.foldl (fun m a => vset m a.1 a.2) s.outMap, ?_, fun i c hc => ?_, fun i hno => ?_⟩
    · show execOutmapSet tag items s = _
      unfold execOutmapSet
      rw [State.take_room _ he]
      simp only [outmapCheck_passed hne hlen hd hr, State.judged_ok]
      rfl
    · obtain ⟨y, hy, hmap⟩ : ∃ y ∈ is, mapItem? (i.val, c) = some y := readAll?_mem hr hc
      obtain ⟨hlane, hsignal⟩ := mapItem?_eq_some.mp hmap
      have : y = (i, y.2) := Prod.ext (Fin.ext hlane.symm) rfl
      rw [(hset i).1 y.2 (this ▸ hy)]
      exact hsignal.symm
    · refine (hset i).2 fun hi => ?_
      have hval : i.val ∈ is.map fun x => x.1.val := by
        obtain ⟨x, hx, rfl⟩ := List.mem_map.mp hi
        exact List.mem_map.mpr ⟨x, hx, rfl⟩
      rw [← readAll?_mapItem?_lanes hr] at hval
      obtain ⟨⟨l, c⟩, hx, hl⟩ := List.mem_map.mp hval
      exact hno c (by rw [← hl]; exact hx)

end Sys2Proof.Machine
end

section
/-!
SUPPORT and the statements on the lock machine and frame loss: O14 and O15.
-/

namespace Sys2Proof.Machine

/-! ### The lock machine's events, state by state -/

theorem execActivityCeases_locked {s : State} (h : s.trunk.lock = .locked) :
    execActivityCeases s = .next s.loseFrame := by
  simp only [execActivityCeases, h]

theorem execActivityCeases_unlocked {s : State} (h : s.trunk.lock = .acquiring ∨ s.trunk.lock = .settling) :
    execActivityCeases s = .next s.noSignal := by
  rcases h with h | h <;> simp only [execActivityCeases, h]

theorem execAlignedFrame_settling {s : State} (h : s.trunk.lock = .settling) (lanes : Vector Sample 16) :
    execAlignedFrame lanes s = .next s.settleFrame := by
  simp only [execAlignedFrame, h]

theorem execFailedPosition_settling {s : State} (h : s.trunk.lock = .settling) :
    execFailedPosition s = .next s.settleFailure := by
  simp only [execFailedPosition, h]

theorem execFailedPosition_locked {s : State} (h : s.trunk.lock = .locked) :
    execFailedPosition s = .next s.lockedFailure := by
  simp only [execFailedPosition, h]

theorem execSettlingFailure_due {s : State} (h : s.trunk.lock = .settling) (hc : 3 ≤ s.trunk.failureCount + 1) :
    execSettlingFailure s = .next s.settleFailure := by
  unfold execSettlingFailure
  exact whenDue_due _ _ (by simp [h, hc])

theorem execLockEvent_due {s : State} (h : s.trunk.lock = .settling) (hc : 4800 ≤ s.trunk.settleCount + 1) :
    execLockEvent s = .next s.settleFrame := by
  unfold execLockEvent
  exact whenDue_due _ _ (by simp [h, hc])

theorem execFrameLoss_due {s : State} (h : s.trunk.lock = .locked) (hc : 3 ≤ s.trunk.failureCount + 1) :
    execFrameLoss s = .next s.lockedFailure := by
  unfold execFrameLoss
  exact whenDue_due _ _ (by simp [h, hc])

theorem execSettlingFailure_notDue {s : State} (hc : s.trunk.failureCount + 1 < 3) :
    execSettlingFailure s = .next s := by
  unfold execSettlingFailure
  exact whenDue_not _ _ (by simp; omega)

theorem execLockEvent_notDue {s : State} (hc : s.trunk.settleCount + 1 < 4800) : execLockEvent s = .next s := by
  unfold execLockEvent
  exact whenDue_not _ _ (by simp; omega)

theorem State.settleFrame_settled {s : State} (hc : 4800 ≤ s.trunk.settleCount + 1) :
    s.settleFrame = s.enterLocked := if_pos hc

theorem State.settleFailure_last {s : State} (hc : 3 ≤ s.trunk.failureCount + 1) : s.settleFailure = s.noSignal :=
  if_pos hc

theorem State.lockedFailure_last {s : State} (hc : 3 ≤ s.trunk.failureCount + 1) : s.lockedFailure = s.loseFrame :=
  if_pos hc

theorem State.settleFailure_counted {s : State} (hc : s.trunk.failureCount + 1 < 3) : s.settleFailure = { s with
    trunk := { s.trunk with settleCount := 0, failureCount := s.trunk.failureCount + 1 } } :=
  if_neg (by omega)

/-- Settles O14, event by event in each state of the table. -/
theorem lockMachineFollowsItsTable : Obligations.LockMachineFollowsItsTable := by
  refine ⟨fun s lanes => ⟨rfl, rfl, fun h => ?ceasesUnlocked, fun h => ?ceasesNoSignal, fun h => ?waiting,
    fun h hc => ?aligned, fun h hc => ?failed, fun h hc => ?lastFailure, fun h => ?handed, fun h hc => ?failedLocked⟩,
    fun s lanes h => ⟨fun hc => ?locked, fun hc => ?notDue⟩⟩
  case ceasesUnlocked => exact execActivityCeases_unlocked h
  case ceasesNoSignal =>
    show execActivityCeases s = _
    simp only [execActivityCeases, h]
  case waiting =>
    show execAlignedFrame lanes s = _ ∧ execFailedPosition s = _
    rcases h with h | h <;> simp only [execAlignedFrame, execFailedPosition, h, and_self]
  case aligned => exact (execAlignedFrame_settling h lanes).trans (congrArg _ (if_neg (by omega)))
  case failed =>
    exact ⟨(execFailedPosition_settling h).trans (congrArg _ (State.settleFailure_counted hc)),
      execSettlingFailure_notDue hc⟩
  case lastFailure =>
    exact ⟨(execSettlingFailure_due h hc).trans (congrArg _ (State.settleFailure_last hc)),
      (execFailedPosition_settling h).trans (execSettlingFailure_due h hc).symm⟩
  case handed =>
    show execAlignedFrame lanes s = _
    simp only [execAlignedFrame, h]
    rfl
  case failedLocked => exact (execFailedPosition_locked h).trans (congrArg _ (if_neg (by omega)))
  case locked =>
    exact ⟨(execLockEvent_due h hc).trans (congrArg _ (State.settleFrame_settled hc)),
      (execAlignedFrame_settling h lanes).trans (execLockEvent_due h hc).symm⟩
  case notDue => exact execLockEvent_notDue hc

/-! ### Indexes visited once each -/

/-- A fold over distinct indexes whose step at an index leaves what stands at every other index: an index that is not
visited keeps what it had, and a visited one ends with what its own step made of what it had. -/
theorem foldl_visits {σ ι α : Type} {P : σ → Prop} {f : σ → ι → σ} (hP : ∀ s i, P s → P (f s i)) {g : σ → ι → α}
    (hother : ∀ s i j, P s → j ≠ i → g (f s i) j = g s j) {l : List ι} (hd : l.Nodup) {s : σ} (hs : P s) :
    P (l.foldl f s) ∧ ∀ i, (i ∉ l → g (l.foldl f s) i = g s i) ∧
      (i ∈ l → ∃ before, P before ∧ g before i = g s i ∧ g (l.foldl f s) i = g (f before i) i) := by
  induction l generalizing s with
  | nil => exact ⟨hs, fun i => ⟨fun _ => rfl, nofun⟩⟩
  | cons x l ih =>
    rw [List.nodup_cons] at hd
    obtain ⟨hend, hvisits⟩ := ih hd.2 (hP s x hs)
    refine ⟨hend, fun i => ⟨fun hi => ?_, fun hi => ?_⟩⟩
    · rw [List.mem_cons, not_or] at hi
      exact ((hvisits i).1 hi.2).trans (hother s x i hs hi.1)
    · by_cases hx : i = x
      · subst hx
        exact ⟨s, hs, rfl, (hvisits i).1 hd.1⟩
      · obtain ⟨before, hb, hkept, hafter⟩ := (hvisits i).2 ((List.mem_cons.mp hi).resolve_left hx)
        exact ⟨before, hb, hkept.trans (hother s x i hs hx), hafter⟩

theorem mem_allRecords (i : RecordId) : i ∈ allRecords := by revert i; decide

theorem mem_allRecorders (k : RecorderId) : k ∈ allRecorders := by revert k; decide

theorem nodup_allRecords : allRecords.Nodup := by decide

theorem nodup_allRecorders : allRecorders.Nodup := by decide

/-! ### The head of the alert queue airs when nothing does -/

theorem Alerts.head_queued {a : Alerts} {i : RecordId} (h : a.head = some i) : (a.records[i]).state = .queued := by
  have holds (l : List RecordId) (hl : ∀ j ∈ l, (a.records[j]).state = .queued) (best : Option RecordId)
      (hbest : ∀ b, best = some b → (a.records[b]).state = .queued) :
      ∀ b, l.foldl (fun best i => match best with
        | none => some i
        | some b => if a.records[i].queuesBefore a.records[b] then some i else some b) best = some b →
        (a.records[b]).state = .queued := by
    induction l generalizing best with
    | nil => exact hbest
    | cons j l ih =>
      refine ih (fun x hx => hl x (List.mem_cons_of_mem _ hx)) _ fun b hb => ?_
      have hj := hl j (List.mem_cons_self ..)
      dsimp only at hb
      split at hb
      · cases hb
        exact hj
      · rename_i c hc
        split at hb
        · cases hb
          exact hj
        · exact hbest b hb
  refine holds _ (fun j hj => ?_) none nofun i h
  exact eq_of_beq (List.mem_filter.mp hj).2

/-- Only a QUEUED record begins to air, and only when no record is AIRING; its record differs in its state alone. -/
theorem Rig.airIfIdle_record (r : Rig) (i : RecordId) : (r.airIfIdle).record i = r.record i ∨
    r.alerts.airing = none ∧ (r.record i).state = .queued ∧
      (r.airIfIdle).record i = { r.record i with state := .airing } := by
  unfold Rig.airIfIdle
  split
  · rename_i j hidle hhead
    have hrecord : (r.airRecord j true).record i = (r.setAlertState j .airing).record i :=
      congrArg (fun v : Vector AlertRecord 16 => v[i]) (r.airRecord_sounded j true).records
    rw [hrecord]
    unfold Rig.setAlertState
    rw [Rig.record_setRecord]
    split
    · rename_i hji
      subst hji
      exact .inr ⟨hidle, Alerts.head_queued hhead, rfl⟩
    · exact .inl rfl
  · exact .inl rfl

/-! ### Cart recordings abandoned -/

theorem Rig.abandonCart_cart (r : Rig) (k : RecorderId) (c b : CartId) (cause : AbandonCause) :
    (r.abandonCart k c cause).cart b = if c = b then (r.cart c).cleared .defined else r.cart b :=
  r.cart_setCart c b _

theorem Rig.abandonCart_recorder (r : Rig) (k j : RecorderId) (c : CartId) (cause : AbandonCause) :
    (r.abandonCart k c cause).recorder j = if k = j then .free else r.recorder j :=
  (r.setCart c _).recorder_setRecorder k j _

/-- The step of `Rig.abandonCarts` at one recorder. -/
def Rig.abandonBound (r : Rig) (cause : AbandonCause) (k : RecorderId) : Rig :=
  match (r.recorder k).binding with
  | .cart c => r.abandonCart k c cause
  | _ => r

theorem Rig.abandonCarts_eq (r : Rig) (cause : AbandonCause) :
    r.abandonCarts cause = allRecorders.foldl (fun r k => r.abandonBound cause k) r := rfl

theorem Rig.abandonBound_bound {r : Rig} {k : RecorderId} {c : CartId} (h : (r.recorder k).binding = .cart c)
    (cause : AbandonCause) : r.abandonBound cause k = r.abandonCart k c cause := by
  unfold Rig.abandonBound
  rw [h]

theorem Rig.abandonBound_unbound {r : Rig} {k : RecorderId} (h : ∀ c, (r.recorder k).binding ≠ .cart c)
    (cause : AbandonCause) : r.abandonBound cause k = r := by
  unfold Rig.abandonBound
  split
  · exact absurd ‹_› (h _)
  · rfl

theorem Rig.abandonBound_alerts (r : Rig) (cause : AbandonCause) (k : RecorderId) :
    (r.abandonBound cause k).alerts = r.alerts := by
  unfold Rig.abandonBound
  split <;> rfl

theorem Rig.abandonCarts_alerts (r : Rig) (cause : AbandonCause) : (r.abandonCarts cause).alerts = r.alerts :=
  foldl_related (R := fun r r' : Rig => r'.alerts = r.alerts) (fun _ => rfl) (fun h k => k.trans h)
    (fun r k => r.abandonBound_alerts cause k) allRecorders r

theorem Rig.abandonBound_recorder_other (r : Rig) (cause : AbandonCause) {k j : RecorderId} (h : j ≠ k) :
    (r.abandonBound cause k).recorder j = r.recorder j := by
  unfold Rig.abandonBound
  split
  · exact (r.abandonCart_recorder k j _ cause).trans (if_neg h.symm)
  · rfl

/-- The recorder of a cart is freed; every other recorder stays. -/
theorem Rig.abandonCarts_recorder (r : Rig) (cause : AbandonCause) (k : RecorderId) :
    ((r.abandonCarts cause).recorder k = r.recorder k ∧ ∀ c, (r.recorder k).binding ≠ .cart c) ∨
      (r.abandonCarts cause).recorder k = .free ∧ ∃ c, (r.recorder k).binding = .cart c := by
  obtain ⟨before, -, hkept, hend⟩ := ((foldl_visits (P := fun _ => True) (g := Rig.recorder) (fun _ _ h => h)
    (fun r _ _ _ hjk => r.abandonBound_recorder_other cause hjk) nodup_allRecorders trivial).2 k).2 (mem_allRecorders k)
  rw [Rig.abandonCarts_eq, hend]
  by_cases hbound : ∃ c, (before.recorder k).binding = .cart c
  · obtain ⟨c, hc⟩ := hbound
    rw [Rig.abandonBound_bound hc]
    exact .inr ⟨(before.abandonCart_recorder k k c cause).trans (if_pos rfl), c, hkept ▸ hc⟩
  · rw [not_exists] at hbound
    rw [Rig.abandonBound_unbound hbound]
    exact .inl ⟨hkept, hkept ▸ hbound⟩

/-- A cart that a recorder of the list is bound to is cleared; every other cart stays. -/
theorem Rig.foldl_abandonBound_cart (cause : AbandonCause) (c : CartId) {l : List RecorderId} (hd : l.Nodup)
    (r : Rig) : (l.foldl (fun r k => r.abandonBound cause k) r).cart c =
      if ∃ k ∈ l, (r.recorder k).binding = .cart c then (r.cart c).cleared .defined else r.cart c := by
  induction l generalizing r with
  | nil => simp
  | cons k l ih =>
    rw [List.nodup_cons] at hd
    have hlater : (∃ j ∈ l, ((r.abandonBound cause k).recorder j).binding = .cart c) ↔
        ∃ j ∈ l, (r.recorder j).binding = .cart c := by
      refine exists_congr fun j => and_congr_right fun hj => ?_
      rw [r.abandonBound_recorder_other cause (ne_of_mem_of_not_mem hj hd.1)]
    rw [List.foldl_cons, ih hd.2]
    simp only [hlater, List.exists_mem_cons_iff]
    by_cases hk : (r.recorder k).binding = .cart c
    · have hcleared : (r.abandonBound cause k).cart c = (r.cart c).cleared .defined := by
        rw [Rig.abandonBound_bound hk, Rig.abandonCart_cart, if_pos rfl]
      simp only [hcleared, hk, true_or, if_true]
      split <;> rfl
    · have hkept : (r.abandonBound cause k).cart c = r.cart c := by
        unfold Rig.abandonBound
        split
        · rename_i b hb
          exact (r.abandonCart_cart k b c cause).trans (if_neg (by rintro rfl; exact hk hb))
        · rfl
      simp only [hkept, hk, false_or]

/-- Under the alert law every cart that is RECORDING is cleared, and no other. -/
theorem Rig.abandonCarts_cart {r : Rig} (h : r.alertLaw) (cause : AbandonCause) (c : CartId) :
    (r.abandonCarts cause).cart c =
      if (r.cart c).state = .recording then (r.cart c).cleared .defined else r.cart c := by
  obtain ⟨-, -, -, -, hcart, -⟩ := h
  rw [Rig.abandonCarts_eq, Rig.foldl_abandonBound_cart cause c nodup_allRecorders]
  simp only [hcart c, mem_allRecorders, true_and]

/-! ### Alert recordings lost -/

/-- Of the recorders, only those bound to RECORDING alert records are in use, one for a record. -/
structure Rig.OnlyAlertsRecord (r : Rig) : Prop where
  noCart : ∀ k c, (r.recorder k).binding ≠ .cart c
  recording : ∀ k i, (r.recorder k).binding = .alert i → (r.record i).state = .recording
  single : ∀ j k i, (r.recorder j).binding = .alert i → (r.recorder k).binding = .alert i → j = k

theorem Rig.abandonCarts_onlyAlertsRecord {r : Rig} (h : r.alertLaw) (cause : AbandonCause) :
    (r.abandonCarts cause).OnlyAlertsRecord := by
  obtain ⟨-, -, -, hrecord, -, hsingle⟩ := h
  have hbound (k : RecorderId) (i : RecordId) (hk : ((r.abandonCarts cause).recorder k).binding = .alert i) :
      (r.recorder k).binding = .alert i := by
    rcases r.abandonCarts_recorder cause k with ⟨hkept, -⟩ | ⟨hfree, -⟩
    · rw [← hkept]
      exact hk
    · rw [hfree] at hk
      cases hk
  refine ⟨fun k c hk => ?_, fun k i hk => ?_, fun j k i hj hk => ?_⟩
  · rcases r.abandonCarts_recorder cause k with ⟨hkept, hno⟩ | ⟨hfree, -⟩
    · rw [hkept] at hk
      exact hno c hk
    · rw [hfree] at hk
      cases hk
  · rw [Rig.record, r.abandonCarts_alerts cause]
    exact (hrecord i).mpr ⟨k, hbound k i hk⟩
  · have hj := hbound j i hj
    have hk := hbound k i hk
    exact hsingle j k (hj.trans hk.symm) (by rw [hj]; nofun)

/-- The frames written for an alert record, where its recorder and the record stand as they stood. -/
theorem Rig.alertPosition_congr {r r' : Rig} {i : RecordId} (hr : r'.record i = r.record i)
    (hk : ∀ k, r'.recorder k = r.recorder k ∨
      (r'.recorder k).binding ≠ .alert i ∧ (r.recorder k).binding ≠ .alert i) :
    r'.alertPosition i = r.alertPosition i := by
  have hfound : r'.recorderOf (.alert i) = r.recorderOf (.alert i) := by
    unfold Rig.recorderOf
    congr 1
    funext k
    rcases hk k with h | ⟨h', h⟩
    · rw [h]
    · rw [beq_eq_false_iff_ne.mpr h', beq_eq_false_iff_ne.mpr h]
  unfold Rig.alertPosition
  rw [hfound, hr]
  split
  · rename_i k hbound
    rcases hk k with h | ⟨-, h⟩
    · rw [h]
    · exact absurd (Rig.recorderOf_binding hbound) h
  · rfl

theorem Rig.abandonCarts_alertPosition (r : Rig) (cause : AbandonCause) (i : RecordId) :
    (r.abandonCarts cause).alertPosition i = r.alertPosition i := by
  refine Rig.alertPosition_congr ?_ fun k => ?_
  · rw [Rig.record, r.abandonCarts_alerts cause]
    rfl
  · obtain ⟨hkept, -⟩ | ⟨hfree, c, hc⟩ := r.abandonCarts_recorder cause k
    · exact .inl hkept
    · rw [hfree, hc]
      exact .inr ⟨nofun, nofun⟩

theorem Rig.freeAlertRecorder_recorder (r : Rig) (h : r.OnlyAlertsRecord) (i : RecordId) (k : RecorderId) :
    (r.freeAlertRecorder i).recorder k = if (r.recorder k).binding = .alert i then .free else r.recorder k := by
  unfold Rig.freeAlertRecorder
  split
  · rename_i j hj
    have hj := Rig.recorderOf_binding hj
    rw [Rig.recorder_setRecorder]
    by_cases hjk : j = k
    · subst hjk
      rw [if_pos rfl, if_pos hj]
    · rw [if_neg hjk, if_neg fun hk => hjk (h.single j k i hj hk)]
  · rename_i hnone
    rw [if_neg fun hk => ?_]
    exact List.find?_eq_none.mp hnone k (mem_allRecorders k) (beq_iff_eq.mpr hk)

theorem Rig.freeAlertRecorder_carts (r : Rig) (i : RecordId) :
    (r.freeAlertRecorder i).library.carts = r.library.carts := by
  unfold Rig.freeAlertRecorder
  split <;> rfl

theorem Rig.freeAlertRecorder_alerts (r : Rig) (i : RecordId) : (r.freeAlertRecorder i).alerts = r.alerts := by
  unfold Rig.freeAlertRecorder
  split <;> rfl

/-- Where a recording's end sends its record, only the record's state, queue entry and deadline change. -/
theorem Rig.placeRecorded_record (r : Rig) (i j : RecordId) (now : Nat) :
    (j ≠ i → (r.placeRecorded i now).record j = r.record j) ∧
      ((r.placeRecorded i now).record i).truncated = (r.record i).truncated ∧
      ((r.placeRecorded i now).record i).recordedLength = (r.record i).recordedLength := by
  have hset (a : AlertRecord) (ht : a.truncated = (r.record i).truncated)
      (hl : a.recordedLength = (r.record i).recordedLength) :
      (j ≠ i → (r.setRecord i a).record j = r.record j) ∧
        ((r.setRecord i a).record i).truncated = (r.record i).truncated ∧
        ((r.setRecord i a).record i).recordedLength = (r.record i).recordedLength := by
    simp only [Rig.record_setRecord, if_true]
    exact ⟨fun hj => if_neg hj.symm, ht, hl⟩
  unfold Rig.placeRecorded
  dsimp only
  split
  · exact hset _ rfl rfl
  · split
    · exact hset _ rfl rfl
    · exact hset _ rfl rfl

/-- The state of a record after the loss of its recording (R146): ABORTED below 48,000 frames, else kept as it is. -/
def AlertRecord.Lost (b : AlertRecord) (frames : Nat) : Prop :=
  (frames < 48000 → b.state = .aborted) ∧
    (48000 ≤ frames → b.truncated = true ∧ b.recordedLength = frames ∧ b.state ≠ .recording)

/-- The loss of one alert recording frees its recorder and ends its record; the rest of the library stays. -/
structure Rig.LostRecording (r r' : Rig) (i : RecordId) : Prop where
  carts : r'.library.carts = r.library.carts
  recorder : ∀ k, r'.recorder k = if (r.recorder k).binding = .alert i then .free else r.recorder k
  other : ∀ j, j ≠ i → r'.record j = r.record j
  idle : (r.record i).state ≠ .recording → r'.record i = r.record i
  ended : (r.record i).state = .recording → (r'.record i).Lost (r.alertPosition i)

theorem Rig.freeAlertRecorder_setRecord (r : Rig) (i j : RecordId) (a : AlertRecord) :
    ((r.freeAlertRecorder i).setRecord i a).record j = if i = j then a else r.record j := by
  rw [Rig.record_setRecord, Rig.record, r.freeAlertRecorder_alerts i]
  rfl

theorem Rig.closeAlertRecording_lost {r : Rig} (h : r.OnlyAlertsRecord) {i : RecordId}
    (hrecording : (r.record i).state = .recording) (hlong : 48000 ≤ r.alertPosition i) (now : Nat) :
    r.LostRecording (r.closeAlertRecording i true now) i := by
  let ended := { r.record i with recordedLength := r.alertPosition i, truncated := true }
  let told := ((r.freeAlertRecorder i).setRecord i ended).report (.alertRecorded i (r.alertPosition i) true)
  show r.LostRecording (told.placeRecorded i now) i
  have hlibrary : (told.placeRecorded i now).library = (r.freeAlertRecorder i).library :=
    (told.placeRecorded_beside i now).library
  have htold (j : RecordId) : told.record j = if i = j then ended else r.record j :=
    r.freeAlertRecorder_setRecord i j ended
  refine ⟨(congrArg Library.carts hlibrary).trans (r.freeAlertRecorder_carts i), fun k => ?_, fun j hj => ?_,
    fun hr => absurd hrecording hr, fun _ => ⟨fun hshort => absurd hlong (by omega), fun _ => ?_⟩⟩
  · rw [Rig.recorder, hlibrary]
    exact r.freeAlertRecorder_recorder h i k
  · rw [(told.placeRecorded_record i j now).1 hj, htold, if_neg hj.symm]
  · obtain ⟨-, htruncated, hlength⟩ := told.placeRecorded_record i i now
    rw [htruncated, hlength, htold, if_pos rfl]
    refine ⟨rfl, rfl, ?_⟩
    rcases told.placeRecorded_state i now with hs | hs | hs <;> rw [hs] <;> nofun

theorem Rig.alertRecordingLost_lost {r : Rig} (h : r.OnlyAlertsRecord) (i : RecordId) (now : Nat) :
    r.LostRecording (r.alertRecordingLost i now) i := by
  unfold Rig.alertRecordingLost
  split
  · rename_i hidle
    exact ⟨rfl, fun k => (if_neg fun hk => hidle (h.recording k i hk)).symm, fun _ _ => rfl, fun _ => rfl,
      fun hr => absurd hr hidle⟩
  · rename_i hrecording
    rw [not_not] at hrecording
    split
    · exact Rig.closeAlertRecording_lost h hrecording ‹_› now
    · rename_i hshort
      refine ⟨r.freeAlertRecorder_carts i, r.freeAlertRecorder_recorder h i, fun j hj => ?_,
        fun hr => absurd hrecording hr, fun _ => ⟨fun _ => ?_, fun hlong => absurd hlong hshort⟩⟩
      · exact (r.freeAlertRecorder_setRecord i j _).trans (if_neg hj.symm)
      · exact congrArg AlertRecord.state ((r.freeAlertRecorder_setRecord i i _).trans (if_pos rfl))

theorem Rig.LostRecording.onlyAlertsRecord {r r' : Rig} {i : RecordId} (hl : r.LostRecording r' i)
    (h : r.OnlyAlertsRecord) : r'.OnlyAlertsRecord := by
  have hbound {k : RecorderId} {b : Binding} (hk : (r'.recorder k).binding = b) (hb : b ≠ .free) :
      (r.recorder k).binding = b ∧ b ≠ .alert i := by
    rw [hl.recorder k] at hk
    split at hk
    · exact absurd hk.symm hb
    · rename_i hi
      exact ⟨hk, hk ▸ hi⟩
  refine ⟨fun k c hk => h.noCart k c (hbound hk nofun).1, fun k j hk => ?_, fun k₁ k₂ j hj hk =>
    h.single k₁ k₂ j (hbound hj nofun).1 (hbound hk nofun).1⟩
  obtain ⟨hk, hji⟩ := hbound hk nofun
  rw [hl.other j fun hj => hji (hj ▸ rfl)]
  exact h.recording k j hk

/-- The loss of one recording leaves the frames written for every other record. -/
theorem Rig.LostRecording.alertPosition {r r' : Rig} {i j : RecordId} (hl : r.LostRecording r' i) (hj : j ≠ i) :
    r'.alertPosition j = r.alertPosition j := by
  refine Rig.alertPosition_congr (hl.other j hj) fun k => ?_
  rw [hl.recorder k]
  split
  · rename_i hk
    rw [hk]
    exact .inr ⟨nofun, fun h => hj (Binding.alert.inj h).symm⟩
  · exact .inl rfl

/-- The rig after every alert recording has been lost, before the head of the queue airs. -/
def Rig.recordingsLost (r : Rig) (now : Nat) : Rig := allRecords.foldl (fun r i => r.alertRecordingLost i now) r

theorem Rig.alertRecordingsLost_eq (r : Rig) (now : Nat) :
    r.alertRecordingsLost now = (r.recordingsLost now).airIfIdle := rfl

theorem Rig.recordingsLost_ended {r : Rig} (h : r.OnlyAlertsRecord) (now : Nat) :
    (r.recordingsLost now).OnlyAlertsRecord ∧ (r.recordingsLost now).library.carts = r.library.carts ∧
      ∀ i, ((r.record i).state ≠ .recording → (r.recordingsLost now).record i = r.record i) ∧
        ((r.record i).state = .recording → ((r.recordingsLost now).record i).Lost (r.alertPosition i)) := by
  unfold Rig.recordingsLost
  obtain ⟨⟨hinv, hcarts⟩, hvisits⟩ := foldl_visits
    (P := fun r' : Rig => r'.OnlyAlertsRecord ∧ r'.library.carts = r.library.carts)
    (f := fun r i => r.alertRecordingLost i now) (g := fun r i => (r.record i, r.alertPosition i))
    (fun r i ⟨hr, hc⟩ =>
      have hl := Rig.alertRecordingLost_lost hr i now
      ⟨hl.onlyAlertsRecord hr, hl.carts.trans hc⟩)
    (fun r i j ⟨hr, _⟩ hj =>
      have hl := Rig.alertRecordingLost_lost hr i now
      Prod.ext (hl.other j hj) (hl.alertPosition hj)) nodup_allRecords ⟨h, rfl⟩
  refine ⟨hinv, hcarts, fun i => ?_⟩
  obtain ⟨before, ⟨hbefore, -⟩, hkept, hend⟩ := (hvisits i).2 (mem_allRecords i)
  obtain ⟨hrecord, hposition⟩ := Prod.mk.inj hkept
  obtain ⟨hend, -⟩ := Prod.mk.inj hend
  have hl := Rig.alertRecordingLost_lost hbefore i now
  rw [hend, ← hrecord, ← hposition]
  exact ⟨hl.idle, hl.ended⟩

theorem Rig.recordingsLost_recorder {r : Rig} (h : r.OnlyAlertsRecord) (now : Nat) (k : RecorderId) :
    ((r.recordingsLost now).recorder k).binding = .free := by
  obtain ⟨hinv, -, hrecords⟩ := Rig.recordingsLost_ended h now
  cases hk : ((r.recordingsLost now).recorder k).binding with
  | free => rfl
  | cart c => exact absurd hk (hinv.noCart k c)
  | alert i =>
    have hstill := hinv.recording k i hk
    by_cases hr : (r.record i).state = .recording
    · obtain ⟨hshort, hlong⟩ := (hrecords i).2 hr
      by_cases hlen : r.alertPosition i < 48000
      · rw [hshort hlen] at hstill
        cases hstill
      · exact absurd hstill (hlong (by omega)).2.2
    · rw [(hrecords i).1 hr] at hstill
      exact absurd hstill hr

/-- A record that the loss of its recording ended has not begun to record again when the head of the queue airs. -/
theorem Rig.airIfIdle_lost {r : Rig} {i : RecordId} {frames : Nat} (h : (r.record i).Lost frames) :
    (r.airIfIdle.record i).Lost frames := by
  rcases r.airIfIdle_record i with hsame | ⟨-, hqueued, hairs⟩
  · rw [hsame]
    exact h
  · rw [hairs]
    refine ⟨fun hshort => ?_, fun hlong => ?_⟩
    · rw [h.1 hshort] at hqueued
      cases hqueued
    · obtain ⟨htruncated, hlength, -⟩ := h.2 hlong
      exact ⟨htruncated, hlength, nofun⟩

theorem State.loseFrame_rig (s : State) : s.loseFrame.rig =
    (((s.rig.abandonCarts .lost).recordingsLost s.clock.seconds).airIfIdle).report .trunkLost := rfl

theorem Rig.report_egress (r : Rig) (m : Report) : (r.report m).egress = r.egress.report m := rfl

theorem Rig.report_record (r : Rig) (m : Report) (i : RecordId) : (r.report m).record i = r.record i := rfl

theorem State.loseFrame_egress (s : State) : ∃ before : Egress, s.loseFrame.rig.egress = before.report .trunkLost := by
  rw [State.loseFrame_rig]
  exact ⟨_, Rig.report_egress _ _⟩

/-- Settles O15: the carts abandoned under the alert law, then the alert recordings lost, then what airs. -/
theorem frameLossLeavesLocked : Obligations.FrameLossLeavesLocked := by
  intro s hlock hlaw
  have hloss (hc : 3 ≤ s.trunk.failureCount + 1) : execFrameLoss s = .next s.loseFrame :=
    (execFrameLoss_due hlock hc).trans (congrArg _ (State.lockedFailure_last hc))
  refine ⟨fun hc => (execFailedPosition_locked hlock).trans (execFrameLoss_due hlock hc).symm, fun i hi => ?_⟩
  have hexec : exec i s = .next s.loseFrame := by
    rcases hi with rfl | ⟨rfl, hc⟩
    · exact execActivityCeases_locked hlock
    · exact hloss hc
  have honly := Rig.abandonCarts_onlyAlertsRecord hlaw .lost
  obtain ⟨-, hcarts, hrecords⟩ := Rig.recordingsLost_ended honly s.clock.seconds
  have hlibrary : s.loseFrame.rig.library = ((s.rig.abandonCarts .lost).recordingsLost s.clock.seconds).library := by
    rw [State.loseFrame_rig, (Rig.report_beside _ _).library, (Rig.airIfIdle_beside _).library]
  refine ⟨s.loseFrame, hexec, rfl, rfl, rfl, rfl, fun k => ?_, fun c => ?_, fun k hk => ?_, s.loseFrame_egress, rfl,
    rfl, rfl, rfl, rfl, rfl, rfl, rfl⟩
  · rw [Rig.recorder, hlibrary]
    exact Rig.recordingsLost_recorder honly _ k
  · rw [Rig.cart, hlibrary, hcarts]
    exact Rig.abandonCarts_cart hlaw .lost c
  · have hstill : ((s.rig.abandonCarts .lost).record k).state = .recording := by
      rw [Rig.record, s.rig.abandonCarts_alerts .lost]
      exact hk
    have hlost := (hrecords k).2 hstill
    rw [s.rig.abandonCarts_alertPosition .lost k] at hlost
    rw [State.loseFrame_rig, Rig.report_record]
    exact Rig.airIfIdle_lost hlost

end Sys2Proof.Machine
end

section
/-!
SUPPORT and the statement on the Station Clock's frame events: O16.
-/

namespace Sys2Proof.Machine

/-! ### The clock's own count -/

theorem Clock.secondDue_eq_false {c : Clock} (h : c.frameCount + 1 < 48000) : c.secondDue = false := by
  simp [Clock.secondDue]
  omega

theorem Clock.secondDue_eq_true {c : Clock} (h : c.frameCount = 47999) : c.secondDue = true := by
  simp [Clock.secondDue, h]

theorem Clock.counted_frame {c : Clock} (h : c.frameCount + 1 < 48000) : c.counted = { c with
    frameCount := c.frameCount + 1
    holdover := if c.source = .crystal then (if c.holdover < 4294967295 then c.holdover + 1 else 4294967295)
      else c.holdover } := by
  have hstop : stopCount c.holdover = if c.holdover < 4294967295 then c.holdover + 1 else 4294967295 := by
    unfold stopCount
    split <;> split <;> omega
  simp [Clock.counted, Clock.secondDue_eq_false h, hstop]

theorem State.openFrame_eq (s : State) : s.openFrame = { s with
    taken := s.completed
    completed := if s.trunk.lock = .locked then s.completed
      else { s.completed with lanes := Vector.replicate 16 0 } } := by
  unfold State.openFrame
  split <;> rfl

/-! ### Answer timers -/

/-- A line after a frame event that does not bring its answer timer to 0. -/
def Line.counted (l : Line) : Line :=
  if l.state = .answering then { l with answerTimer := l.answerTimer - 1 } else l

theorem State.line_setLine (s : State) (k j : LineId) (l : Line) :
    (s.setLine k l).line j = if k = j then l else s.line j := vset_get _ k j l

theorem State.setLine_line (s : State) (k : LineId) : s.setLine k (s.line k) = s := by
  have hsame : vset s.callers.lines k (s.line k) = s.callers.lines := Vector.set_getElem_self k.isLt
  unfold State.setLine
  rw [hsame]

theorem State.countAnswerTimer_running {s : State} {k : LineId}
    (h : (s.line k).state = .answering → 1 < (s.line k).answerTimer) :
    s.countAnswerTimer k = s.setLine k (s.line k).counted := by
  unfold State.countAnswerTimer Line.counted
  dsimp only
  split
  · rename_i hstate
    exact (s.setLine_line k).symm
  · rename_i hstate
    rw [not_not] at hstate
    rw [if_neg (by have := h hstate; omega), if_pos hstate]

/-- Timers that all run on are counted line by line. -/
theorem State.countAnswerTimers_running {l : List LineId} (hd : l.Nodup) {s : State}
    (h : ∀ k ∈ l, (s.line k).state = .answering → 1 < (s.line k).answerTimer) :
    l.foldl (fun s k => s.countAnswerTimer k) s = l.foldl (fun s k => s.setLine k (s.line k).counted) s := by
  induction l generalizing s with
  | nil => rfl
  | cons k l ih =>
    rw [List.nodup_cons] at hd
    rw [List.foldl_cons, List.foldl_cons, State.countAnswerTimer_running (h k (List.mem_cons_self ..))]
    refine ih hd.2 fun j hj => ?_
    rw [State.line_setLine, if_neg (ne_of_mem_of_not_mem hj hd.1).symm]
    exact h j (List.mem_cons_of_mem _ hj)

theorem mem_allLines (k : LineId) : k ∈ allLines := by revert k; decide

theorem nodup_allLines : allLines.Nodup := by decide

/-- Where no timer ends, a frame event counts every line and leaves the rest of the part. -/
theorem State.countAnswerTimers_counted {s : State}
    (h : ∀ k : LineId, (s.line k).state = .answering → 1 < (s.line k).answerTimer) :
    (∃ lines, s.countAnswerTimers = { s with callers := { s.callers with lines := lines } }) ∧
      ∀ k, (s.countAnswerTimers).line k = (s.line k).counted := by
  unfold State.countAnswerTimers
  rw [State.countAnswerTimers_running nodup_allLines fun k _ => h k]
  obtain ⟨hrest, hvisits⟩ := foldl_visits
    (P := fun s' : State => ∃ lines, s' = { s with callers := { s.callers with lines := lines } })
    (f := fun s k => s.setLine k (s.line k).counted) (g := State.line)
    (by rintro _ k ⟨lines, rfl⟩; exact ⟨_, rfl⟩)
    (fun s k j _ hj => (s.line_setLine k j _).trans (if_neg hj.symm)) nodup_allLines ⟨s.callers.lines, rfl⟩
  refine ⟨hrest, fun k => ?_⟩
  obtain ⟨before, -, hkept, hend⟩ := (hvisits k).2 (mem_allLines k)
  rw [hend, State.line_setLine, if_pos rfl, hkept]

/-- The part at a frame event before the answer timers are counted and a second is handed on. -/
def State.framed (s : State) : State := { s.openFrame with clock := s.clock.counted }

theorem State.framed_frame {s : State} (h : s.clock.frameCount + 1 < 48000) : s.framed = { s with
    clock := { s.clock with
      frameCount := s.clock.frameCount + 1
      holdover := if s.clock.source = .crystal
        then (if s.clock.holdover < 4294967295 then s.clock.holdover + 1 else 4294967295)
        else s.clock.holdover }
    taken := s.completed
    completed := if s.trunk.lock = .locked then s.completed
      else { s.completed with lanes := Vector.replicate 16 0 } } := by
  rw [State.framed, State.openFrame_eq, Clock.counted_frame h]

theorem State.clockFrame_frame {s : State} (h : s.clock.frameCount + 1 < 48000) :
    s.clockFrame = s.framed.countAnswerTimers := by
  unfold State.clockFrame
  rw [Clock.secondDue_eq_false h]
  rfl

theorem execStationClockFrame_eq (s : State) : exec .stationClockFrame s = .next s.clockFrame := rfl

/-- Settles O16: the clock, the lanes and the answer timers of a frame event that does not complete a second. -/
theorem clockFrameCountsOneFrame : Obligations.ClockFrameCountsOneFrame := by
  intro s hcount htimers
  have hframed := State.framed_frame hcount
  have hline (k : LineId) : s.framed.line k = s.line k := by rw [hframed]; rfl
  obtain ⟨⟨lines, hrest⟩, hlines⟩ := State.countAnswerTimers_counted (s := s.framed)
    (by simpa only [hline] using htimers)
  rw [execStationClockFrame_eq, State.clockFrame_frame hcount]
  refine ⟨s.framed.countAnswerTimers, rfl, ?_, ?_, ?_, fun k => (hlines k).trans (congrArg Line.counted (hline k)),
    ?_, ?_⟩
  all_goals rw [hrest, hframed]

end Sys2Proof.Machine
end

section
/-!
SUPPORT. A new value of station seconds: what it makes of the alert records and of the running order.
-/

namespace Sys2Proof.Machine

/-! ### Deadlines compared -/

theorem Rig.enqueue_record (r : Rig) (i : RecordId) : (r.enqueue i).record i =
    { r.record i with state := .queued, queueEntry := nextCount r.alerts.queueCount } :=
  (r.record_setRecord i i _).trans (if_pos rfl)

theorem Rig.setAlertState_record (r : Rig) (i : RecordId) (st : AlertState) :
    (r.setAlertState i st).record i = { r.record i with state := st } :=
  (r.record_setRecord i i _).trans (if_pos rfl)

/-- A record with no deadline reached stays as it is. -/
theorem AlertRecord.compared_unreached {a : AlertRecord} {now : Nat}
    (hrecording : ¬ (a.state = .recording ∧ a.validUntil ≤ now))
    (hvalid : ¬ ((a.state = .awaiting ∨ a.state = .queued) ∧ a.validUntil ≤ now))
    (hwindow : ¬ (a.state = .awaiting ∧ a.deadline.any (fun d => d ≤ now) = true)) : a.compared a now false := by
  unfold AlertRecord.compared
  split <;> rename_i hstate
  · have hlater : ¬ a.validUntil ≤ now := fun h => hrecording ⟨hstate, h⟩
    simp [hlater]
  · rw [if_neg fun h => hvalid ⟨.inl hstate, h⟩, if_neg fun h => hwindow ⟨hstate, h⟩]
  · rw [if_neg fun h => hvalid ⟨.inr hstate, h⟩]
    exact .inl rfl
  · rfl

/-- The comparison of one record, before the head of the queue airs. -/
theorem Rig.testDeadlines_compared (r : Rig) (now : Nat) (i : RecordId) :
    (r.record i).compared ((r.testDeadlines now i).record i) now false := by
  unfold Rig.testDeadlines
  dsimp only
  split
  · rename_i h
    obtain ⟨hstate, hreached⟩ := h
    rw [Rig.record_setRecord, if_pos rfl]
    simp [AlertRecord.compared, hstate, hreached]
  · rename_i hrecording
    split
    · rename_i h
      obtain ⟨hstate | hstate, hreached⟩ := h <;> rw [Rig.report_record, Rig.setAlertState_record] <;>
        simp [AlertRecord.compared, hstate, hreached]
    · rename_i hvalid
      split
      · rename_i d hd
        split
        · rename_i h
          obtain ⟨hstate, hreached⟩ := h
          have hlater : ¬ (r.record i).validUntil ≤ now := fun h => hvalid ⟨.inl hstate, h⟩
          split <;> rename_i haction
          · rw [Rig.report_record, Rig.enqueue_record]
            simp [AlertRecord.compared, hstate, hlater, hd, hreached, haction]
          · rw [Rig.report_record, Rig.setAlertState_record]
            simp [AlertRecord.compared, hstate, hlater, hd, hreached, haction]
        · rename_i hwindow
          exact AlertRecord.compared_unreached hrecording hvalid (by simpa [hd] using hwindow)
      · rename_i hd
        exact AlertRecord.compared_unreached hrecording hvalid (by simp [hd])

theorem Rig.testDeadlines_airing (r : Rig) (now : Nat) (i : RecordId) :
    (r.testDeadlines now i).alerts.airing = r.alerts.airing := by
  unfold Rig.testDeadlines
  dsimp only
  repeat' split
  all_goals rfl

theorem AlertRecord.compared.idle {a b : AlertRecord} {now : Nat} (h : a.compared b now false) (idle : Bool) :
    a.compared b now idle := by
  unfold AlertRecord.compared at h ⊢
  split at h
  · exact h
  · by_cases hvalid : a.validUntil ≤ now
    · rw [if_pos hvalid] at h ⊢
      exact h
    · by_cases hwindow : a.deadline.any (fun d => d ≤ now) = true
      · rw [if_neg hvalid, if_pos hwindow] at h ⊢
        split at h
        · exact h
        · exact ⟨h.1, .inl (h.2.resolve_right nofun)⟩
      · rw [if_neg hvalid, if_neg hwindow] at h ⊢
        exact h
  · by_cases hvalid : a.validUntil ≤ now
    · rw [if_pos hvalid] at h ⊢
      exact h
    · rw [if_neg hvalid] at h ⊢
      exact .inl (h.resolve_right nofun)
  · exact h

/-- What the comparison makes of a record that it leaves QUEUED, where nothing is AIRING, once that record airs. -/
theorem AlertRecord.compared.airs {a b : AlertRecord} {now : Nat} (h : a.compared b now false)
    (hqueued : b.state = .queued) : a.compared { b with state := .airing } now true := by
  unfold AlertRecord.compared at h ⊢
  have hchanged {st : AlertState} (hb : b = { a with state := st }) : st = .queued :=
    (congrArg AlertRecord.state hb).symm.trans hqueued
  split at h <;> rename_i hstate
  · rw [h, hstate] at hqueued
    cases hqueued
  · by_cases hvalid : a.validUntil ≤ now
    · rw [if_pos hvalid] at h
      exact absurd (hchanged h) nofun
    · by_cases hwindow : a.deadline.any (fun d => d ≤ now) = true
      · rw [if_neg hvalid, if_pos hwindow] at h ⊢
        split at h
        · exact absurd (hchanged h) nofun
        · exact ⟨by rw [h.1], .inr ⟨rfl, rfl⟩⟩
      · rw [if_neg hvalid, if_neg hwindow] at h
        rw [h, hstate] at hqueued
        cases hqueued
  · by_cases hvalid : a.validUntil ≤ now
    · rw [if_pos hvalid] at h
      exact absurd (hchanged h) nofun
    · rw [if_neg hvalid] at h ⊢
      exact .inr ⟨rfl, by rw [h.resolve_right nofun]⟩
  · rw [h] at hqueued
    exact absurd hqueued ‹_›

theorem Rig.alertSeconds_compared (r : Rig) (now : Nat) (i : RecordId) :
    (r.record i).compared ((r.alertSeconds now).record i) now r.alerts.airing.isNone := by
  obtain ⟨hairing, hvisits⟩ := foldl_visits (P := fun r' : Rig => r'.alerts.airing = r.alerts.airing)
    (f := fun r i => r.testDeadlines now i) (g := Rig.record)
    (fun r i h => (r.testDeadlines_airing now i).trans h)
    (fun r i j _ hj => (r.testDeadlines_spec now i).2 j hj) nodup_allRecords rfl
  obtain ⟨before, -, hkept, hend⟩ := (hvisits i).2 (mem_allRecords i)
  have htested := before.testDeadlines_compared now i
  rw [hkept, ← hend] at htested
  unfold Rig.alertSeconds
  rcases Rig.airIfIdle_record _ i with hsame | ⟨hidle, hqueued, hairs⟩
  · rw [hsame]
    exact htested.idle _
  · rw [hairing] at hidle
    rw [hairs, hidle]
    exact htested.airs hqueued

/-! ### Deadlines moved -/

theorem Rig.moveDeadlines_record (r : Rig) (f : Nat → Nat) (i : RecordId) :
    (r.moveDeadlines f).record i = (r.record i).moved f := vmap_get _ _ i

theorem AlertRecord.moved_same (a : AlertRecord) {f : Nat → Nat} (h : ∀ d, f d = d) : a.moved f = a := by
  have hf : f = id := funext h
  subst hf
  unfold AlertRecord.moved
  split
  · rw [Option.map_id]
    rfl
  · rfl

theorem Rig.newSeconds_compared (r : Rig) (now : Nat) (i : RecordId) :
    (r.record i).compared ((r.newSeconds now).record i) now r.alerts.airing.isNone := by
  have h := (r.orderSeconds now).alertSeconds_compared now i
  have halerts := (r.orderSeconds_ordered now).alerts
  rw [Rig.record, halerts] at h
  exact h

/-! ### The running order at a new value -/

theorem Entry.reached_eq (e : Entry) (now : Nat) : e.reached now =
    if e.mode = .timed ∧ e.timeReached = false ∧ e.startTime.any (fun t => t ≤ now) = true
    then { e with timeReached := true, skipPending := true } else e := by
  unfold Entry.reached
  split
  · rename_i t ht
    simp [ht, and_assoc]
  · rename_i ht
    simp [ht]

theorem Rig.orderSeconds_eq (r : Rig) (now : Nat) : r.orderSeconds now = (r.timesReached now).settle := by
  unfold Rig.orderSeconds Rig.timesReached
  simp only [Entry.reached_eq]

theorem Rig.testDeadlines_order (r : Rig) (now : Nat) (i : RecordId) : (r.testDeadlines now i).order = r.order := by
  rw [(r.testDeadlines_spec now i).1]

theorem Rig.airIfIdle_order (r : Rig) : (r.airIfIdle).order = r.order := by
  unfold Rig.airIfIdle
  split
  · exact (r.airRecord_sounded _ true).order
  · rfl

theorem Rig.alertSeconds_order (r : Rig) (now : Nat) : (r.alertSeconds now).order = r.order :=
  (Rig.airIfIdle_order _).trans (foldl_related (R := fun r r' : Rig => r'.order = r.order) (fun _ => rfl)
    (fun h k => k.trans h) (fun r i => r.testDeadlines_order now i) allRecords r)

theorem Rig.newSeconds_order (r : Rig) (now : Nat) : (r.newSeconds now).order = (r.timesReached now).settle.order := by
  rw [← Rig.orderSeconds_eq]
  exact Rig.alertSeconds_order _ now

/-! ### The time-reached flags while the order settles -/

/-- Every entry of the list after stood in the list before, with its mode and its time-reached flag. -/
def Rig.KeepsFlags (r r' : Rig) : Prop :=
  ∀ y ∈ r'.order.entries, ∃ x ∈ r.order.entries, y.tag = x.tag ∧ y.mode = x.mode ∧ y.timeReached = x.timeReached

theorem Rig.KeepsFlags.refl (r : Rig) : r.KeepsFlags r := fun y hy => ⟨y, hy, rfl, rfl, rfl⟩

theorem Rig.KeepsFlags.trans {r₁ r₂ r₃ : Rig} (h : r₁.KeepsFlags r₂) (k : r₂.KeepsFlags r₃) : r₁.KeepsFlags r₃ := by
  intro z hz
  obtain ⟨y, hy, htag, hmode, hflag⟩ := k z hz
  obtain ⟨x, hx, htag', hmode', hflag'⟩ := h y hy
  exact ⟨x, hx, htag.trans htag', hmode.trans hmode', hflag.trans hflag'⟩

theorem Rig.keepsFlags_of_order {r r' : Rig} (h : r'.order = r.order) : r.KeepsFlags r' := by
  intro y hy
  rw [h] at hy
  exact ⟨y, hy, rfl, rfl, rfl⟩

theorem Rig.setEntries_keepsFlags (r : Rig) {es : List Entry} (h : ∀ y ∈ es, y ∈ r.order.entries) :
    r.KeepsFlags (r.setEntries es) := fun y hy => ⟨y, h y hy, rfl, rfl, rfl⟩

theorem Rig.updateEntry_keepsFlags (r : Rig) (tag : Nat) {f : Entry → Entry}
    (hf : ∀ x, (f x).tag = x.tag ∧ (f x).mode = x.mode ∧ (f x).timeReached = x.timeReached) :
    r.KeepsFlags (r.updateEntry tag f) := by
  intro y hy
  obtain ⟨x, hx, rfl⟩ := List.mem_map.mp hy
  refine ⟨x, hx, ?_⟩
  split
  · exact hf x
  · exact ⟨rfl, rfl, rfl⟩

theorem Rig.reports_keepsFlags (r : Rig) (ms : List Report) : r.KeepsFlags (r.reports ms) := by
  rw [Rig.reports_eq]
  exact Rig.keepsFlags_of_order rfl

theorem Rig.loadDeck_keepsFlags (r : Rig) (d : DeckId) (q : LoadRequest) : r.KeepsFlags (r.loadDeck d q) := by
  unfold Rig.loadDeck
  split <;> exact Rig.keepsFlags_of_order rfl

theorem Rig.releaseDeck_keepsFlags (r : Rig) (d : DeckId) : r.KeepsFlags (r.releaseDeck d) := by
  have gone := r.setEntries_keepsFlags (es := withoutTag r.order.entries (r.deck d).entryTag)
    fun y hy => List.mem_of_mem_filter hy
  unfold Rig.releaseDeck
  dsimp only
  split <;> exact gone.trans (Rig.keepsFlags_of_order rfl)

theorem Rig.endDeck_keepsFlags (r : Rig) (d : DeckId) (c : EndCause) : r.KeepsFlags (r.endDeck d c) := by
  have finished : r.KeepsFlags (r.finishDeck d c) := Rig.keepsFlags_of_order rfl
  unfold Rig.endDeck
  split
  · exact finished.trans (Rig.releaseDeck_keepsFlags _ d)
  · exact finished

theorem Rig.startDeck_keepsFlags (r : Rig) (d : DeckId) : r.KeepsFlags (r.startDeck d) := by
  have ruled : r.KeepsFlags r.audibleRule := by
    unfold Rig.audibleRule
    split
    · exact .refl r
    · split
      · exact r.endDeck_keepsFlags _ .cut
      · exact .refl r
  unfold Rig.startDeck
  split
  · exact ruled.trans (Rig.keepsFlags_of_order rfl)
  · exact Rig.keepsFlags_of_order rfl

theorem Rig.fadeDeck_keepsFlags (r : Rig) (d : DeckId) (frames : Nat) : r.KeepsFlags (r.fadeDeck d frames) := by
  unfold Rig.fadeDeck
  dsimp only
  split
  · exact .refl r
  · split
    · exact r.endDeck_keepsFlags d .played
    · exact Rig.keepsFlags_of_order rfl

theorem Rig.fadeAudible_keepsFlags (r : Rig) (frames : Nat) (ds : List DeckId) :
    r.KeepsFlags (r.fadeAudible frames ds) := by
  induction ds generalizing r with
  | nil => exact .refl r
  | cons d ds ih =>
    unfold Rig.fadeAudible
    refine Rig.KeepsFlags.trans ?_ (ih _)
    split
    · exact r.fadeDeck_keepsFlags d frames
    · exact .refl r

theorem Rig.unloadEntries_order (r : Rig) (es : List Entry) : (r.unloadEntries es).order = r.order := by
  induction es generalizing r with
  | nil => rfl
  | cons e es ih =>
    unfold Rig.unloadEntries
    split
    · split
      · exact ih _
      · exact ih r
    · exact ih r

theorem Rig.skipTo_keepsFlags (r : Rig) (e : Entry) : r.KeepsFlags (r.skipTo e) := by
  refine ((Rig.KeepsFlags.trans ?_ (Rig.reports_keepsFlags _ _)).trans (Rig.fadeAudible_keepsFlags _ _ _)).trans
    (Rig.updateEntry_keepsFlags _ _ fun _ => ⟨rfl, rfl, rfl⟩)
  refine (Rig.keepsFlags_of_order (r.unloadEntries_order _)).trans (Rig.setEntries_keepsFlags _ fun y hy => ?_)
  rw [Rig.unloadEntries_order]
  rcases List.mem_append.mp hy with hy | hy
  · exact (List.takeWhile_sublist _).subset (List.mem_of_mem_filter hy)
  · exact (List.dropWhile_sublist _).subset hy

theorem Rig.makeSkip_keepsFlags (r : Rig) : r.KeepsFlags r.makeSkip := by
  unfold Rig.makeSkip
  split
  · exact .refl r
  · split
    · exact r.skipTo_keepsFlags _
    · exact .refl r

theorem Rig.assignOne_keepsFlags {r r' : Rig} (h : r.assignOne = some r') : r.KeepsFlags r' := by
  unfold Rig.assignOne at h
  split at h
  · cases h
  · split at h
    · split at h
      · cases h
        refine Rig.KeepsFlags.trans ?_ (Rig.loadDeck_keepsFlags _ _ _)
        exact r.updateEntry_keepsFlags _ fun _ => ⟨rfl, rfl, rfl⟩
      · cases h
    · cases h

theorem Rig.displace_keepsFlags (r : Rig) (e : Entry) : r.KeepsFlags (r.displace e) := by
  unfold Rig.displace
  split
  · exact r.updateEntry_keepsFlags _ fun _ => ⟨rfl, rfl, rfl⟩
  · exact Rig.updateEntry_keepsFlags r _ fun _ => ⟨rfl, rfl, rfl⟩

theorem Rig.arrangeFor_keepsFlags (n : Nat) (r : Rig) : r.KeepsFlags (r.arrangeFor n) := by
  induction n generalizing r with
  | zero => exact .refl r
  | succ n ih =>
    unfold Rig.arrangeFor
    split
    · rename_i r' h
      exact (Rig.assignOne_keepsFlags h).trans (ih r')
    · split
      · split
        · exact (r.displace_keepsFlags _).trans (ih _)
        · exact .refl r
      · exact .refl r

/-- The entries with tag `τ` are TIMED and have their time-reached flag as `reached` says. -/
def Rig.Flagged (r : Rig) (τ : Nat) (reached : Bool) : Prop :=
  ∀ y ∈ r.order.entries, y.tag = τ → y.mode = .timed ∧ y.timeReached = reached

theorem Rig.Flagged.keeps {r r' : Rig} {τ : Nat} {b : Bool} (h : r.Flagged τ b) (k : r.KeepsFlags r') :
    r'.Flagged τ b := by
  intro y hy hτ
  obtain ⟨x, hx, htag, hmode, hflag⟩ := k y hy
  rw [hmode, hflag]
  exact h x hx (htag ▸ hτ)

/-- A TIMED entry that can start has been reached. -/
theorem Rig.startable_reached {r : Rig} {e : Entry} (h : r.startable = some e) :
    e ∈ r.order.entries ∧ (e.mode = .timed → e.timeReached = true) := by
  unfold Rig.startable at h
  split at h
  · cases h
  · split at h
    · cases h
    · rename_i x hfirst
      split at h
      · cases h
      · split at h
        · rename_i hdue
          cases h
          simp only [Bool.and_eq_true] at hdue
          refine ⟨List.mem_of_find?_eq_some hfirst, fun hmode => ?_⟩
          have hreached := hdue.2
          unfold dueIn at hreached
          rw [hmode] at hreached
          exact hreached
        · cases h

theorem Entry.started_flag {x : Entry} {b : Bool} (hmode : x.mode = .timed) (hflag : x.timeReached = b)
    (hb : b = true) (number : Nat) : (x.started number).mode = .timed ∧ (x.started number).timeReached = b := by
  subst hb
  simp [Entry.started, hmode, hflag]

/-- A start leaves the flags of a tag that stand as they are: it sets a TIMED entry's, which was set for the start. -/
theorem Rig.startEntry_flagged {r : Rig} {τ : Nat} {b : Bool} (h : r.Flagged τ b) {e : Entry}
    (he : r.startable = some e) (cause : StartCause) : (r.startEntry e cause).Flagged τ b := by
  obtain ⟨hmem, hreached⟩ := Rig.startable_reached he
  unfold Rig.startEntry
  split
  · exact h
  · rename_i d _
    have started := h.keeps (r.startDeck_keepsFlags d)
    intro y hy hτ
    obtain ⟨x, hx, rfl⟩ := List.mem_map.mp hy
    by_cases htag : x.tag = e.tag
    · rw [if_pos (beq_iff_eq.mpr htag)] at hτ ⊢
      obtain ⟨hmode, hflag⟩ := started x hx hτ
      obtain ⟨hemode, heflag⟩ := h e hmem (htag.symm.trans hτ)
      exact Entry.started_flag hmode hflag (heflag.symm.trans (hreached hemode)) _
    · rw [if_neg (by simpa using htag)] at hτ ⊢
      exact started x hx hτ

theorem Rig.startDue_flagged {τ : Nat} {b : Bool} (n : Nat) {r : Rig} (h : r.Flagged τ b) :
    (r.startDue n).Flagged τ b := by
  induction n generalizing r with
  | zero => exact h
  | succ n ih =>
    unfold Rig.startDue
    split
    · exact ih ((Rig.startEntry_flagged h ‹_› _).keeps (Rig.arrangeFor_keepsFlags _ _))
    · exact h

theorem Rig.settle_flagged {r : Rig} {τ : Nat} {b : Bool} (h : r.Flagged τ b) : r.settle.Flagged τ b :=
  (Rig.startDue_flagged _ (h.keeps r.makeSkip_keepsFlags)).keeps (Rig.arrangeFor_keepsFlags _ _)

theorem Entry.eq_of_tag {o : Order} (h : o.law) {x y : Entry} (hx : x ∈ o.entries) (hy : y ∈ o.entries)
    (ht : x.tag = y.tag) : x = y := by
  obtain ⟨-, htags, -⟩ := h
  exact List.inj_on_of_nodup_map htags hx hy ht

/-- A new value sets the flag of a TIMED entry exactly where it reaches the entry's start time. -/
theorem Rig.timesReached_flagged {r : Rig} (h : r.order.law) {e : Entry} (he : e ∈ r.order.entries)
    (hmode : e.mode = .timed) (hflag : e.timeReached = false) (now : Nat) :
    (r.timesReached now).Flagged e.tag (e.startTime.any fun d => d ≤ now) := by
  intro y hy hτ
  obtain ⟨x, hx, rfl⟩ := List.mem_map.mp hy
  have htag : x.tag = e.tag := by
    refine Eq.trans ?_ hτ
    split <;> rfl
  obtain rfl := Entry.eq_of_tag h hx he htag
  by_cases hreached : x.startTime.any (fun d => d ≤ now) = true
  · rw [if_pos ⟨hmode, hflag, hreached⟩]
    exact ⟨hmode, hreached.symm⟩
  · rw [if_neg fun h => hreached h.2.2, Bool.eq_false_iff.mpr hreached]
    exact ⟨hmode, hflag⟩

theorem Rig.newSeconds_flagged {r : Rig} (h : r.order.law) {e : Entry} (he : e ∈ r.order.entries)
    (hmode : e.mode = .timed) (hflag : e.timeReached = false) (now : Nat) :
    (r.newSeconds now).Flagged e.tag (e.startTime.any fun d => d ≤ now) := by
  unfold Rig.Flagged
  rw [Rig.newSeconds_order]
  exact Rig.settle_flagged (Rig.timesReached_flagged h he hmode hflag now)

/-! ### What a comparison makes of a record that waits -/

theorem AlertRecord.compared.expired {a b : AlertRecord} {now : Nat} {idle : Bool} (h : a.compared b now idle)
    (hs : a.state = .awaiting ∨ a.state = .queued) (hv : a.validUntil ≤ now) :
    b = { a with state := .expired } := by
  unfold AlertRecord.compared at h
  rcases hs with hs | hs <;> simpa only [hs, if_pos hv] using h

theorem AlertRecord.compared.window {a b : AlertRecord} {now : Nat} {idle : Bool} (h : a.compared b now idle)
    (hs : a.state = .awaiting) (hv : now < a.validUntil) {d : Nat} (hd : a.deadline = some d) (hnow : d ≤ now) :
    (a.expiryAction = .drop → b = { a with state := .declined }) ∧
      (a.expiryAction = .air → b.state = .queued ∨ b.state = .airing) := by
  have hreached : a.deadline.any (fun d => d ≤ now) = true := by simp [hd, hnow]
  unfold AlertRecord.compared at h
  simp only [hs, if_neg (Nat.not_le.mpr hv), if_pos hreached] at h
  refine ⟨fun hdrop => ?_, fun hair => ?_⟩
  · simpa only [hdrop] using h
  · simp only [hair] at h
    exact h.2.imp_right And.right

end Sys2Proof.Machine
end

section
/-!
The statements on a new value of station seconds: O17 and O18.
-/

namespace Sys2Proof.Machine

/-! ### The frame event that completes a second -/

theorem Clock.nextSeconds_eq (c : Clock) :
    c.nextSeconds = if c.seconds < 1073741823 then c.seconds + 1 else 0 := by
  unfold Clock.nextSeconds
  split <;> split <;> omega

theorem Clock.nextSeconds_wraps (c : Clock) : c.nextSeconds < c.seconds ↔ ¬ c.seconds < 1073741823 := by
  rw [Clock.nextSeconds_eq]
  split <;> omega

theorem Clock.counted_second {c : Clock} (h : c.frameCount = 47999) :
    c.counted.frameCount = 0 ∧ c.counted.seconds = c.nextSeconds ∧ c.counted.timeValid = c.timeValid ∧
      c.counted.source = c.source := by
  simp [Clock.counted, Clock.secondDue_eq_true h]

theorem State.countAnswerTimer_rest (s : State) (k : LineId) :
    ∃ c e, s.countAnswerTimer k = { s with callers := c, rig := { s.rig with egress := e } } := by
  unfold State.countAnswerTimer
  dsimp only
  split
  · exact ⟨_, _, rfl⟩
  · rename_i hstate
    rw [not_not] at hstate
    split
    · unfold State.answerFails State.endCall
      rw [if_neg (by rw [hstate]; nofun)]
      exact ⟨_, _, rfl⟩
    · exact ⟨_, _, rfl⟩

/-- The answer timers change the caller lines and raise messages, and leave the rest of the part. -/
theorem State.countAnswerTimers_rest (s : State) :
    ∃ c e, s.countAnswerTimers = { s with callers := c, rig := { s.rig with egress := e } } := by
  unfold State.countAnswerTimers
  refine foldl_related (R := fun s s' : State => ∃ c e, s' = { s with callers := c, rig := { s.rig with egress := e } })
    (fun s => ⟨_, _, rfl⟩) ?_ State.countAnswerTimer_rest allLines s
  rintro _ _ _ ⟨c, e, rfl⟩ ⟨c', e', rfl⟩
  exact ⟨c', e', rfl⟩

theorem State.clockFrame_second {s : State} (h : s.clock.frameCount = 47999) :
    ∃ c e, s.clockFrame = { s.framed with
      callers := c
      rig := { s.rig.secondAdvance s.clock.seconds s.clock.nextSeconds with egress := e } } := by
  have hrig : s.framed.rig = s.rig := by rw [State.framed, State.openFrame_eq]
  obtain ⟨c, e, hrest⟩ := (s.framed.onRig (·.secondAdvance s.clock.seconds s.clock.nextSeconds)).countAnswerTimers_rest
  refine ⟨c, e, ?_⟩
  rw [← hrig]
  refine Eq.trans ?_ hrest
  unfold State.clockFrame
  rw [Clock.secondDue_eq_true h]
  rfl

/-- What a rig keeps when only its egress queue differs. -/
theorem Rig.record_withEgress (r : Rig) (e : Egress) (i : RecordId) :
    ({ r with egress := e } : Rig).record i = r.record i := rfl

theorem Rig.secondAdvance_steady {r : Rig} {c : Clock} (h : c.seconds < 1073741823) :
    r.secondAdvance c.seconds c.nextSeconds = r.newSeconds c.nextSeconds := by
  unfold Rig.secondAdvance
  rw [if_neg fun hw => c.nextSeconds_wraps.mp hw h]

theorem Rig.secondAdvance_wrapped {r : Rig} {c : Clock} (h : ¬ c.seconds < 1073741823) :
    r.secondAdvance c.seconds c.nextSeconds = (r.moveDeadlines wrapDeadline).newSeconds c.nextSeconds := by
  unfold Rig.secondAdvance
  rw [if_pos (c.nextSeconds_wraps.mpr h)]

/-- Every record is compared with the new second, its deadlines moved first where the seconds wrap. -/
theorem Rig.secondAdvance_compared (r : Rig) (c : Clock) (i : RecordId) :
    ((r.record i).moved fun d => if c.seconds < 1073741823 then d
      else if 1073741824 ≤ d then d - 1073741824 else 0).compared
      ((r.secondAdvance c.seconds c.nextSeconds).record i) c.nextSeconds r.alerts.airing.isNone := by
  by_cases h : c.seconds < 1073741823
  · simp only [if_pos h]
    rw [AlertRecord.moved_same _ fun _ => rfl, Rig.secondAdvance_steady h]
    exact r.newSeconds_compared _ i
  · simp only [if_neg h]
    have hmoved := (r.moveDeadlines wrapDeadline).newSeconds_compared c.nextSeconds i
    rw [Rig.moveDeadlines_record] at hmoved
    rw [Rig.secondAdvance_wrapped h]
    exact hmoved

theorem Rig.secondAdvance_flagged {r : Rig} (c : Clock) (h : r.order.law) {e : Entry} (he : e ∈ r.order.entries)
    (hmode : e.mode = .timed) (hflag : e.timeReached = false) :
    (r.secondAdvance c.seconds c.nextSeconds).Flagged e.tag (e.startTime.any fun d => d ≤ c.nextSeconds) := by
  by_cases hs : c.seconds < 1073741823
  · rw [Rig.secondAdvance_steady hs]
    exact Rig.newSeconds_flagged h he hmode hflag _
  · rw [Rig.secondAdvance_wrapped hs]
    exact Rig.newSeconds_flagged (r := r.moveDeadlines wrapDeadline) h he hmode hflag _

theorem execSecondAdvance_due {s : State} (h : s.clock.frameCount = 47999) :
    execSecondAdvance s = .next s.clockFrame := by
  unfold execSecondAdvance
  exact whenDue_due _ _ (Clock.secondDue_eq_true h)

theorem State.recordAtSecond_steady {s : State} (h : s.clock.seconds < 1073741823) (i : RecordId) :
    s.recordAtSecond i = s.rig.record i := if_neg fun hw => s.clock.nextSeconds_wraps.mp hw h

theorem execValidityExpiry_due {s : State} {i : RecordId} (h : s.clock.frameCount = 47999)
    (hs : s.clock.seconds < 1073741823) (hstate : (s.rig.record i).state = .awaiting ∨ (s.rig.record i).state = .queued)
    (hv : (s.rig.record i).validUntil ≤ s.clock.nextSeconds) : execValidityExpiry i s = .next s.clockFrame := by
  unfold execValidityExpiry
  refine whenDue_due _ _ ?_
  rw [Clock.secondDue_eq_true h, State.recordAtSecond_steady hs]
  rcases hstate with hstate | hstate <;> simp [AlertRecord.validityReached, hstate, hv]

theorem execWindowExpiry_due {s : State} {i : RecordId} (h : s.clock.frameCount = 47999)
    (hs : s.clock.seconds < 1073741823) (hstate : (s.rig.record i).state = .awaiting)
    (hv : s.clock.nextSeconds < (s.rig.record i).validUntil) {d : Nat} (hd : (s.rig.record i).deadline = some d)
    (hnow : d ≤ s.clock.nextSeconds) : execWindowExpiry i s = .next s.clockFrame := by
  unfold execWindowExpiry
  refine whenDue_due _ _ ?_
  rw [Clock.secondDue_eq_true h, State.recordAtSecond_steady hs]
  simp [AlertRecord.windowReached, AlertRecord.validityReached, hstate, hv, hd, hnow]

theorem execTimeReached_due {s : State} {e : Entry} (h : s.clock.frameCount = 47999) (he : e ∈ s.rig.order.entries)
    (hmode : e.mode = .timed) (hflag : e.timeReached = false)
    (hreached : e.startTime.any (fun d => d ≤ s.clock.nextSeconds) = true) :
    execTimeReached e.tag s = .next s.clockFrame := by
  have hchanged : e.reached s.clock.nextSeconds ≠ e := by
    rw [Entry.reached_eq, if_pos ⟨hmode, hflag, hreached⟩]
    intro heq
    rw [← heq] at hflag
    cases hflag
  unfold execTimeReached
  refine whenDue_due _ _ ?_
  unfold State.timeIsReached
  rw [Clock.secondDue_eq_true h, Bool.true_and, List.any_eq_true]
  exact ⟨e, he, by simpa using hchanged⟩

/-- Settles O17: the clock frame that completes a second, by the comparison of each record and the order's flags. -/
theorem secondAdvanceReachesDeadlines : Obligations.SecondAdvanceReachesDeadlines := by
  intro s hcount
  dsimp only
  rw [← Clock.nextSeconds_eq]
  obtain ⟨c, e, hframe⟩ := State.clockFrame_second hcount
  obtain ⟨hzero, hseconds, hvalid, hsource⟩ := Clock.counted_second hcount
  have hcompared (i : RecordId) := s.rig.secondAdvance_compared s.clock i
  have hclock : s.clockFrame.clock.seconds = s.clock.nextSeconds := by
    rw [hframe]
    exact hseconds
  have hrecord (i : RecordId) : s.clockFrame.rig.record i =
      (s.rig.secondAdvance s.clock.seconds s.clock.nextSeconds).record i := by
    rw [hframe]
    exact Rig.record_withEgress _ _ i
  have hbeside := s.rig.secondAdvance_beside s.clock.seconds s.clock.nextSeconds
  have hsteady (hs : s.clock.seconds < 1073741823) (i : RecordId) := by
    have h := hcompared i
    simp only [if_pos hs] at h
    rw [AlertRecord.moved_same _ fun _ => rfl, ← hrecord] at h
    exact h
  refine ⟨⟨s.clockFrame, execSecondAdvance_due hcount, rfl, ?_⟩, fun hs i hstate => ?_,
    fun hlaw x hx hmode hflag htime hsome => ?_⟩
  · simp only [hrecord]
    simp only [hframe, State.framed, State.openFrame_eq, true_and]
    refine ⟨hzero, hseconds, hvalid, hsource, hbeside.library, hbeside.filters, hbeside.recent,
      congrArg Monitors.settings hbeside.monitors, hcompared, fun hs => ?_⟩
    rw [Rig.secondAdvance_steady hs]
    exact Rig.newSeconds_order _ _
  · refine ⟨fun hv => ⟨s.clockFrame, execValidityExpiry_due hcount hs hstate hv, (hsteady hs i).expired hstate hv,
        hclock⟩,
      fun hv hawaiting d hd hnow => ⟨s.clockFrame, execWindowExpiry_due hcount hs hawaiting hv hd hnow, hclock, ?_⟩⟩
    exact (hsteady hs i).window hawaiting hv hd hnow
  · obtain ⟨d, hd⟩ := Option.isSome_iff_exists.mp hsome
    have hreached : x.startTime.any (fun d => d ≤ s.clock.nextSeconds) = true := by simp [hd, htime d hd]
    have hflagged := Rig.secondAdvance_flagged s.clock hlaw hx hmode hflag
    refine ⟨s.clockFrame, execTimeReached_due hcount hx hmode hflag hreached, hclock, fun y hy hτ => ?_⟩
    simp only [hframe] at hy
    rw [(hflagged y hy hτ).2, hreached]

/-! ### TIME_SET -/

/-- The reply to a request that secured one place uses that place. -/
theorem Egress.push_secured {e₀ e : Egress} (h : e₀.secure 1 = some e) (m : Outbound) :
    e.push m = e.answered [m] := by
  obtain ⟨hreserved, -⟩ := Egress.secure_spec h
  simp [Egress.push, Egress.answered, hreserved]

theorem repliesOf_answered (e : Egress) (tag : Tag) (k : RequestKind) :
    repliesOf (e.answered [doneWith tag k []]).queue = repliesOf e.queue ++ [doneWith tag k []] := by
  simp only [repliesOf, Egress.answered, List.filter_append]
  rfl

/-- What TIME_SET does to the rig once it has been answered: the deadlines moved at the first one, and the new value. -/
def Rig.timeSet (r : Rig) (c : Clock) (now : Nat) : Rig :=
  (if c.timeValid then r else r.moveDeadlines (stepDeadline c.seconds now)).newSeconds now

theorem Rig.timeSet_beside (r : Rig) (c : Clock) (now : Nat) : r.Beside (r.timeSet c now) := by
  refine Rig.Beside.trans ?_ (Rig.newSeconds_beside _ now)
  split
  · exact .refl r
  · exact r.moveDeadlines_beside _

theorem Rig.timeSet_compared (r : Rig) (c : Clock) (now : Nat) (i : RecordId) :
    ((r.record i).moved fun d => if c.timeValid = true then d else d + now - c.seconds).compared
      ((r.timeSet c now).record i) now r.alerts.airing.isNone := by
  unfold Rig.timeSet
  by_cases h : c.timeValid = true
  · simp only [if_pos h]
    rw [AlertRecord.moved_same _ fun _ => rfl]
    exact r.newSeconds_compared now i
  · simp only [if_neg h]
    have hmoved := (r.moveDeadlines (stepDeadline c.seconds now)).newSeconds_compared now i
    rw [Rig.moveDeadlines_record] at hmoved
    exact hmoved

theorem Rig.timeSet_flagged {r : Rig} (c : Clock) (now : Nat) (h : r.order.law) {e : Entry}
    (he : e ∈ r.order.entries) (hmode : e.mode = .timed) (hflag : e.timeReached = false) :
    (r.timeSet c now).Flagged e.tag (e.startTime.any fun d => d ≤ now) := by
  unfold Rig.timeSet
  split
  · exact Rig.newSeconds_flagged h he hmode hflag now
  · exact Rig.newSeconds_flagged (r := r.moveDeadlines _) h he hmode hflag now

theorem execTimeSet_refused {s : State} {e : Egress} (he : s.rig.egress.secure 1 = some e) (tag : Tag) {n : Nat}
    (hn : 1073741823 < n) : execTimeSet tag n s = .next (s.answered e [refusedWith tag .timeSet .range]) := by
  unfold execTimeSet
  rw [State.take_room _ he, decide_eq_true hn, refuse_true, State.judged_error]
  rfl

theorem Egress.queue_released (e : Egress) : ({ e with reserved := 0 } : Egress).queue = e.queue := rfl

theorem execTimeSet_set {s : State} {e : Egress} (he : s.rig.egress.secure 1 = some e) (tag : Tag) {n : Nat}
    (hn : n ≤ 1073741823) : ∃ f : Egress,
      f.queue = ((s.answered e [doneWith tag .timeSet []]).rig.timeSet s.clock n).egress.queue ∧
      execTimeSet tag n s = .next { s with
        inbound := none
        clock := { s.clock with seconds := n, frameCount := 0, timeValid := true }
        rig := { (s.answered e [doneWith tag .timeSet []]).rig.timeSet s.clock n with egress := f } } := by
  unfold execTimeSet
  rw [State.take_room _ he, decide_eq_false (by omega), refuse_false, State.judged_ok]
  have hreply : Rig.reply { s.rig with egress := e } tag .timeSet .done [] =
      (s.answered e [doneWith tag .timeSet []]).rig := by
    unfold Rig.reply
    dsimp only
    rw [Egress.push_secured he]
    rfl
  refine ⟨{ ((s.answered e [doneWith tag .timeSet []]).rig.timeSet s.clock n).egress with reserved := 0 },
    Egress.queue_released _, ?_⟩
  simp only [State.reply, State.onRig, State.release, hreply, Rig.timeSet]

/-- A record that is neither RECORDING nor waiting is not changed by a comparison. -/
theorem AlertRecord.compared.other {a b : AlertRecord} {now : Nat} {idle : Bool} (h : a.compared b now idle)
    (hrecording : a.state ≠ .recording) (hawaiting : a.state ≠ .awaiting) (hqueued : a.state ≠ .queued) : b = a := by
  unfold AlertRecord.compared at h
  split at h
  · exact absurd ‹_› hrecording
  · exact absurd ‹_› hawaiting
  · exact absurd ‹_› hqueued
  · exact h

theorem AlertRecord.moved_live {a : AlertRecord} (h : a.live = true) (f : Nat → Nat) :
    a.moved f = { a with validUntil := f a.validUntil, deadline := a.deadline.map f } := if_pos h

theorem AlertRecord.moved_not_live {a : AlertRecord} (h : a.live = false) (f : Nat → Nat) : a.moved f = a :=
  if_neg (by rw [h]; nofun)

/-- A record that is not live keeps its deadlines, reached or not. -/
theorem AlertRecord.compared_not_live {a b : AlertRecord} {f : Nat → Nat} {now : Nat} {idle : Bool}
    (h : (a.moved f).compared b now idle) (hlive : a.live = false) : b = a := by
  rw [AlertRecord.moved_not_live hlive] at h
  simp only [AlertRecord.live, Bool.or_eq_false_iff, beq_eq_false_iff_ne] at hlive
  obtain ⟨⟨⟨hrecording, hawaiting⟩, hqueued⟩, -⟩ := hlive
  exact h.other hrecording hawaiting hqueued

/-- A record that is RECORDING or AIRING keeps its state, and its deadlines move alone. -/
theorem AlertRecord.compared_busy {a b : AlertRecord} {f : Nat → Nat} {now : Nat} {idle : Bool}
    (h : (a.moved f).compared b now idle) (hstate : a.state = .recording ∨ a.state = .airing) :
    b.validUntil = f a.validUntil ∧ b.deadline = a.deadline.map f ∧ b.state = a.state := by
  rcases hstate with hstate | hstate
  · rw [AlertRecord.moved_live (by simp [AlertRecord.live, hstate])] at h
    unfold AlertRecord.compared at h
    simp only [hstate] at h
    rw [h]
    exact ⟨rfl, rfl, hstate.symm⟩
  · rw [AlertRecord.moved_live (by simp [AlertRecord.live, hstate])] at h
    rw [h.other (by simp [hstate]) (by simp [hstate]) (by simp [hstate])]
    exact ⟨rfl, rfl, rfl⟩

/-- Settles O18: the refusal by R13's range, and else the reply, the order's flags and each record's comparison. -/
theorem timeSetSetsStationTime : Obligations.TimeSetSetsStationTime := by
  intro s e tag n he
  refine ⟨fun hn => execTimeSet_refused he tag hn, fun hn => ?_⟩
  obtain ⟨f, hqueue, hexec⟩ := execTimeSet_set he tag hn
  have hbeside := (s.answered e [doneWith tag .timeSet []]).rig.timeSet_beside s.clock n
  have hcompared (i : RecordId) : ((s.rig.record i).moved _).compared _ n s.rig.alerts.airing.isNone :=
    (s.answered e [doneWith tag .timeSet []]).rig.timeSet_compared s.clock n i
  refine ⟨_, hexec, ?_⟩
  simp only [Rig.record_withEgress, true_and]
  refine ⟨hbeside.library, fun i hlive => ?_, hcompared, fun hfirst i hstate => ?_, fun hvalid i hstate hv => ?_,
    fun hvalid => ?_, fun hlaw x hx hmode hflag y hy hτ => ?_, ?_⟩
  · exact AlertRecord.compared_not_live (hcompared i) hlive
  · obtain ⟨hvalid, hdeadline, hkept⟩ := AlertRecord.compared_busy (hcompared i) hstate
    simp only [hfirst, Bool.false_eq_true, if_false] at hvalid hdeadline
    exact ⟨hvalid, hdeadline, hkept⟩
  · have h := hcompared i
    simp only [hvalid, if_true] at h
    rw [AlertRecord.moved_same _ fun _ => rfl] at h
    rw [h.expired hstate hv]
  · unfold Rig.timeSet
    rw [if_pos hvalid]
    exact Rig.newSeconds_order _ n
  · have hflagged := Rig.timeSet_flagged (r := (s.answered e [doneWith tag .timeSet []]).rig) s.clock n hlaw hx hmode
      hflag
    rw [(hflagged y hy hτ).2]
  · rw [hqueue, hbeside.told.replies]
    exact repliesOf_answered e tag .timeSet

end Sys2Proof.Machine
end

section
/-!
SUPPORT and the statements on requests answered at once: what a request that only reads or is refused makes of the part,
and O4 and O8.
-/

namespace Sys2Proof.Machine

/-! ### A request received, and then answered -/

/-- The part as a request's owner finds it (R196, R197): the message closed and the room made. -/
def State.received (s : State) (e : Egress) : State :=
  { s with inbound := none, rig := { s.rig with egress := e } }

section
variable {s : State} {e : Egress} {n : Nat} {tag : Tag} {k : RequestKind} {α : Type}

theorem State.take_received (he : s.rig.egress.secure n = some e) (f : State → State) :
    s.take n f = (f (s.received e)).release := State.take_room f he

/-- A request that only reads changes nothing but the closed message and the queue. -/
theorem answer_read (he : s.rig.egress.secure n = some e) (data : State → List Nat) :
    (.next (s.take n fun s => s.reply tag k .done (data s)) : Answer) =
      .next (s.answered e [doneWith tag k (data (s.received e))]) :=
  congrArg Host.Outcome.next (State.take_received he _)

theorem answer_refused (he : s.rig.egress.secure n = some e) {check : State → Except Status α} {f : State → α → State}
    {x : Status} (hc : check (s.received e) = .error x) :
    (.next (s.take n fun s => s.judged tag k (check s) (f s)) : Answer) =
      .next (s.answered e [refusedWith tag k x]) := by
  rw [State.take_received he, hc, State.judged_error]
  rfl

theorem answer_passed (he : s.rig.egress.secure n = some e) {check : State → Except Status α} {f : State → α → State}
    {a : α} (hc : check (s.received e) = .ok a) :
    (.next (s.take n fun s => s.judged tag k (check s) (f s)) : Answer) = .next (f (s.received e) a).release := by
  rw [State.take_received he, hc, State.judged_ok]

theorem answer_readOnRig (he : s.rig.egress.secure 1 = some e) (data : Rig → List Nat) :
    (.next (s.takeOnRig fun r => r.reply tag k .done (data r)) : Answer) =
      .next (s.answered e [doneWith tag k (data { s.rig with egress := e })]) :=
  congrArg Host.Outcome.next (State.takeOnRig_room _ he)

theorem answer_refusedOnRig (he : s.rig.egress.secure 1 = some e) {check : Rig → Except Status α} {f : Rig → α → Rig}
    {x : Status} (hc : check { s.rig with egress := e } = .error x) :
    (.next (s.takeOnRig fun r => r.judged tag k (check r) (f r)) : Answer) =
      .next (s.answered e [refusedWith tag k x]) := by
  rw [State.takeOnRig_room _ he, hc, Rig.judged_error]
  rfl

/-- A request that names what it reads, and whose check finds it. -/
theorem answer_foundOnRig (he : s.rig.egress.secure 1 = some e) {check : Rig → Except Status α}
    {data : Rig → α → List Nat} {a : α} (hc : check { s.rig with egress := e } = .ok a) :
    (.next (s.takeOnRig fun r => r.judged tag k (check r) fun a => r.reply tag k .done (data r a)) : Answer) =
      .next (s.answered e [doneWith tag k (data { s.rig with egress := e } a)]) := by
  rw [State.takeOnRig_room _ he, hc, Rig.judged_ok]
  rfl

end

/-! ### Reading requests -/

theorem require_index {n : Nat} (x : Status) (i : Fin n) : require x (index? n i) = .ok i := by
  rw [index?_val, require_some]

/-- STATUS_READ's data are those of the part as it stood: the room made changes no flag. -/
theorem State.statusData_received {s : State} {e : Egress} {n : Nat} (he : s.rig.egress.secure n = some e) :
    (s.received e).statusData = s.statusData := by
  obtain ⟨-, -, hreports, hrequests, -⟩ := Egress.secure_spec he
  unfold State.statusData State.received
  rw [hreports, hrequests]

theorem execStatusRead_answered {s : State} {e : Egress} (he : s.rig.egress.secure 1 = some e) (tag : Tag) :
    exec (.statusRead tag) s = .next (s.answered
      { e with reportsDropped := false, requestsDropped := false } [doneWith tag .statusRead s.statusData]) := by
  rw [← State.statusData_received he]
  exact congrArg Host.Outcome.next (State.take_received he _)

/-- A monitor is named by a setting and, for a line setting, its line (R176). -/
theorem monitorReadCheck_found {i : Fin 8} {line : Nat} {c : Fin 18} (hc : cellAt i line = some c) :
    (do let i ← require .range (index? 8 i)
        require .range (cellAt i line)) = Except.ok c := by
  rw [require_index, ok_bind, hc, require_some]

/-- Settles O4, request by request: each reply carries what its data function reads of the part as it stands. -/
theorem readsAnswerAndChangeNothingElse : Obligations.ReadsAnswerAndChangeNothingElse := by
  intro s e tag he
  refine ⟨execStatusRead_answered he tag, fun i => ?route, fun c => ?cart, fun d => ?deck, fun p x hx => ?order,
    fun k => ?line, ?delay, fun i => ?alert, fun i line c hc => ?monitor, ?link⟩
  case route => exact answer_passed he (require_index _ i)
  case cart => exact answer_foundOnRig he (require_index _ c)
  case deck => exact answer_foundOnRig he (require_index _ d)
  case order => exact answer_foundOnRig he (congrArg (require .absent) hx)
  case line => exact answer_passed he (require_index _ k)
  case delay => exact answer_readOnRig he Rig.delayData
  case alert => exact answer_foundOnRig he (require_index _ i)
  case monitor => exact answer_foundOnRig he (monitorReadCheck_found hc)
  case link => exact answer_read he State.linkData

/-! ### An index out of its range -/

theorem require_index_range {n k : Nat} (h : n ≤ k) : require .range (index? n k) = Except.error .range := by
  rw [index?_eq_none.mpr h, require_none]

/-- A check that fails first decides the whole sequence. -/
theorem bind_refused {α β : Type} {c : Except Status α} {x : Status} (h : c = .error x) (f : α → Except Status β) :
    (c >>= f) = .error x := by rw [h, error_bind]

/-- A sequence of checks that begins with the index. -/
theorem index_first {n k : Nat} (h : n ≤ k) {β : Type} (f : Fin n → Except Status β) :
    (require .range (index? n k) >>= f) = .error .range := bind_refused (require_index_range h) f

theorem State.lineIn_range {n : Nat} (h : 6 ≤ n) (s : State) (st : LineState) : s.lineIn n st = .error .range :=
  index_first h _

theorem Rig.deckCheck_range {n : Nat} (h : 6 ≤ n) (r : Rig) (q : DeckRequest) : r.deckCheck n q = .error .range :=
  index_first h _

theorem Rig.recordCheck_range {n : Nat} (h : 16 ≤ n) (r : Rig) : r.recordCheck n = .error .range := index_first h _

theorem Rig.undecidedCheck_range {n : Nat} (h : 16 ≤ n) (r : Rig) : r.undecidedCheck n = .error .range :=
  bind_refused (r.recordCheck_range h) _

/-- LINE_RING tests the call reference before the line, and refuses either with RANGE (R97). -/
theorem lineRingCheck_range {n : Nat} (h : 6 ≤ n) (s : State) (bad : Bool) :
    (do refuse .range bad
        s.lineIn n .idle) = Except.error .range := by
  rw [s.lineIn_range h]
  cases bad <;> rfl

theorem State.takeCheck_range {n : Nat} (h : 7 ≤ n) (s : State) : s.takeCheck n = .error .range := by
  refine bind_refused ?_ _
  rw [decide_eq_true (by omega), refuse_true]

theorem cellsNamed_range {n : Nat} (h : 8 ≤ n) (line : Nat) : require .range (cellsNamed n line) = .error .range := by
  unfold cellsNamed
  rw [index?_eq_none.mpr h, require_none]

/-- Settles O8: each check that fails at the index decides its request, whatever the other operands. -/
theorem indexOutOfRangeIsRefused : Obligations.IndexOutOfRangeIsRefused := by
  refine ⟨fun s e tag n he hn => ⟨?_, ?_⟩, fun s e tag n a b c d f g h x y he => ⟨fun hn => ?routes, fun hn => ?carts,
    fun hn => ?decksAndLines, fun hn => answer_refused he (State.takeCheck_range hn _),
    fun hn => answer_refusedOnRig he (require_index_range hn), fun hn => ?alerts, fun hn => ?monitors⟩⟩
  · exact answer_refused he (bind_refused (State.lineIn_range hn _ _) _)
  · exact answer_refused he (index_first hn _)
  case routes =>
    exact ⟨answer_refused he (index_first hn _), answer_refused he (index_first hn _),
      answer_refused he (index_first hn _), answer_refused he (require_index_range hn)⟩
  case carts =>
    exact ⟨answer_refusedOnRig he (index_first hn _), answer_refusedOnRig he (index_first hn _),
      answer_refusedOnRig he (index_first hn _), answer_refusedOnRig he (index_first hn _),
      answer_refusedOnRig he (index_first hn _), answer_refusedOnRig he (require_index_range hn)⟩
  case decksAndLines =>
    exact ⟨answer_refusedOnRig he (bind_refused (Rig.deckCheck_range hn _ _) _),
      answer_refusedOnRig he (Rig.deckCheck_range hn _ _), answer_refusedOnRig he (Rig.deckCheck_range hn _ _),
      answer_refusedOnRig he (Rig.deckCheck_range hn _ _), answer_refusedOnRig he (Rig.deckCheck_range hn _ _),
      answer_refusedOnRig he (require_index_range hn), answer_refused he (State.lineIn_range hn _ _),
      answer_refused he (State.lineIn_range hn _ _), answer_refused he (require_index_range hn),
      answer_refused he (lineRingCheck_range hn _ _),
      answer_refused he (bind_refused (State.lineIn_range hn _ _) _), answer_refused he (index_first hn _)⟩
  case alerts =>
    exact ⟨answer_refusedOnRig he (Rig.undecidedCheck_range hn _),
      answer_refusedOnRig he (Rig.undecidedCheck_range hn _),
      answer_refusedOnRig he (bind_refused (Rig.recordCheck_range hn _) _), answer_refusedOnRig he (index_first hn _),
      answer_refusedOnRig he (require_index_range hn)⟩
  case monitors =>
    exact ⟨answer_refusedOnRig he (cellsNamed_range hn _), answer_refusedOnRig he (index_first hn _)⟩

end Sys2Proof.Machine
end

section
/-!
SUPPORT and the statements on the ramps of a frame event: O21, O22 and O24.
-/

namespace Sys2Proof.Machine

/-! ### A gain ramp, frame by frame (R23) -/

/-- A ramp in flight stands between its two ends, whatever the frames it has taken. -/
theorem rampLaw_within {current goal n : Nat} {step : Int} (h : rampLaw current goal n step) {j : Nat} (hj : j < n) :
    ((min goal current : Nat) : Int) ≤ current + j * step ∧ (current : Int) + j * step ≤ (max goal current : Nat) := by
  obtain ⟨-, hup, hdown⟩ := h
  have hjn : (j : Int) ≤ n := by omega
  rcases Nat.le_total current goal with hle | hle
  · obtain ⟨hstep, hend⟩ := hup (by omega) hle
    have hmoved : 0 ≤ (j : Int) * step := Int.mul_nonneg (by omega) hstep
    have hbound : (j : Int) * step ≤ n * step := Int.mul_le_mul_of_nonneg_right hjn hstep
    rw [Int.mul_comm step] at hend
    omega
  · obtain ⟨hstep, hend⟩ := hdown (by omega) hle
    have hmoved : (j : Int) * step ≤ 0 := Int.mul_nonpos_of_nonneg_of_nonpos (by omega) hstep
    have hbound : (n : Int) * step ≤ j * step := Int.mul_le_mul_of_nonpos_right hjn hstep
    rw [Int.mul_comm step] at hend
    omega

/-- One frame of the gain ramp changes the gain and the frames left alone. -/
theorem Route.rampFrame_eq (r : Route) : r.rampFrame = { r with
    current := if r.remaining = 0 then r.current else if r.remaining = 1 then r.target
      else (r.current + r.step).toNat
    remaining := r.remaining - 1 } := by
  unfold Route.rampFrame
  split
  · rename_i hrest
    rw [hrest]
    exact congrArg (fun n => { r with remaining := n }) hrest
  · split
    · rename_i hlast
      rw [hlast]
    · rfl

/-- A ramp after `j` frames, short of its last: the start and `j` steps. -/
theorem Route.repeat_rampFrame {r : Route} (h : rampLaw r.current r.target r.remaining r.step) {j : Nat}
    (hj : j < r.remaining) : Nat.repeat Route.rampFrame j r =
      { r with current := (r.current + j * r.step).toNat, remaining := r.remaining - j } := by
  induction j with
  | zero => simp [Nat.repeat]
  | succ j ih =>
    obtain ⟨hlow, -⟩ := rampLaw_within h (j := j) (by omega)
    have hcurrent : ((r.current + j * r.step).toNat : Int) = r.current + j * r.step := Int.toNat_of_nonneg (by omega)
    have hstep : (r.current : Int) + j * r.step + r.step = r.current + (j + 1 : Nat) * r.step := by push_cast; ring
    rw [Nat.repeat, ih (by omega), Route.rampFrame_eq]
    dsimp only
    rw [if_neg (by omega), if_neg (by omega), hcurrent, hstep, Nat.sub_sub]

/-- A ramp's last frame sets its target exactly. -/
theorem Route.repeat_rampFrame_last {r : Route} (h : rampLaw r.current r.target r.remaining r.step)
    (hr : 0 < r.remaining) : Nat.repeat Route.rampFrame r.remaining r =
      { r with current := r.target, remaining := 0 } := by
  obtain ⟨n, hn⟩ : ∃ n, r.remaining = n + 1 := ⟨r.remaining - 1, by omega⟩
  rw [hn, Nat.repeat, Route.repeat_rampFrame h (by omega), Route.rampFrame_eq]
  simp [hn]

/-- A ramp that starts: its step, and its length unless it is at its target already (R23). -/
theorem Route.ramped_eq (r : Route) : r.ramped = { r with
    step := ((r.target : Int) - r.current).tdiv (2 ^ r.exponent)
    remaining := if r.target = r.current then 0 else 2 ^ r.exponent } := by
  unfold Route.ramped
  split
  · rename_i hsame
    rw [hsame, Int.sub_self, Int.zero_tdiv]
  · push_cast
    rfl

/-- Settles O24, by induction on the frames of a ramp that the law of ramps keeps within its two ends. -/
theorem rampReachesItsTargetInItsLength : Obligations.RampReachesItsTargetInItsLength := by
  intro r target x _ _ _ hne start
  have hstart : start = { r with
      target := target, exponent := x, step := ((target : Int) - r.current).tdiv (2 ^ x)
      remaining := 2 ^ x } := by
    simp only [start, Route.ramped_eq, if_neg hne]
  have hpos : 0 < 2 ^ x := Nat.two_pow_pos x
  have hlaw : rampLaw start.current start.target start.remaining start.step := by
    rw [hstart]
    exact_mod_cast rampLaw_start r.current target (2 ^ x) hpos
  have hcurrent : start.current = r.current := by rw [hstart]
  have htarget : start.target = target := by rw [hstart]
  have hremaining : start.remaining = 2 ^ x := by rw [hstart]
  have hstep : start.step = ((target : Int) - r.current).tdiv (2 ^ x) := by rw [hstart]
  have hlast := Route.repeat_rampFrame_last hlaw (by omega)
  rw [hremaining] at hlast
  refine ⟨hremaining, fun j hj => ?_, by rw [hlast]; exact htarget, by rw [hlast]⟩
  obtain ⟨hlow, hhigh⟩ := rampLaw_within hlaw (j := j) (by omega)
  rw [Route.repeat_rampFrame hlaw (by omega)]
  dsimp only
  rw [← hstep, hremaining]
  rw [hcurrent, htarget] at hlow hhigh
  rw [hcurrent]
  omega

/-! ### The ramp stage of one route (R16, stage 2) -/

/-- The gate's stage changes the gate's fields alone. -/
theorem State.gateStage_eq (s : State) (r : Route) : s.gateStage r = { r with
    gateFactor := (s.gateStage r).gateFactor, gateRemaining := (s.gateStage r).gateRemaining
    gateStep := (s.gateStage r).gateStep, gateOpen := (s.gateStage r).gateOpen } := by
  unfold State.gateStage
  split
  · rfl
  · split
    · unfold Route.gateFrame
      split
      · rfl
      · split <;> rfl
    · unfold Route.gateRamped
      split <;> rfl

/-- A route in use takes one frame of its gain ramp and its gate's stage. -/
theorem State.rampStage_inUse {s : State} {r : Route} (h : r.inUse = true) : s.rampStage r = { r with
    current := if r.remaining = 0 then r.current else if r.remaining = 1 then r.target
      else (r.current + r.step).toNat
    remaining := r.remaining - 1
    gateFactor := (s.gateStage r).gateFactor, gateRemaining := (s.gateStage r).gateRemaining
    gateStep := (s.gateStage r).gateStep, gateOpen := (s.gateStage r).gateOpen } := by
  rw [State.rampStage, if_pos h, Route.rampFrame_eq, s.gateStage_eq r]

theorem State.rampStage_free {s : State} {r : Route} (h : r.inUse = false) : s.rampStage r = r := by
  rw [State.rampStage, h]
  rfl

/-- The routes that a frame event frees: in use, clearing, and on the last frame of the ramp (R31). -/
theorem State.rampStage_ended (s : State) (r : Route) : (s.rampStage r).ended = true ↔
    r.inUse = true ∧ r.clearing = true ∧ r.remaining ≤ 1 := by
  cases huse : r.inUse with
  | false => simp [State.rampStage_free huse, Route.ended, huse]
  | true =>
    rw [State.rampStage_inUse huse]
    simp only [Route.ended, huse, Bool.true_and, Bool.and_eq_true, beq_iff_eq, true_and]
    exact and_congr_right fun _ => by omega

theorem State.stageEntry_ended {s : State} {r : Route} (huse : r.inUse = true) (hclear : r.clearing = true)
    (hlast : r.remaining ≤ 1) : s.stageEntry r = .free :=
  if_pos ((s.rampStage_ended r).mpr ⟨huse, hclear, hlast⟩)

theorem State.stageEntry_free {s : State} {r : Route} (h : r.inUse = false) : s.stageEntry r = r := by
  have hended : ¬ (s.rampStage r).ended = true := by rw [s.rampStage_ended, h]; nofun
  rw [State.stageEntry, if_neg hended, State.rampStage_free h]

theorem State.stageEntry_stays {s : State} {r : Route} (hstays : r.clearing = false ∨ 1 < r.remaining) :
    s.stageEntry r = s.rampStage r := by
  refine if_neg fun hended => ?_
  obtain ⟨-, hclear, hlast⟩ := (s.rampStage_ended r).mp hended
  rcases hstays with hno | hmore
  · exact absurd (hclear.symm.trans hno) (by decide)
  · omega

theorem State.mixFrame_route (s : State) (i : RouteId) : s.mixFrame.mix.routes[i] = s.stageEntry s.mix.routes[i] :=
  vmap_get _ _ i

/-! ### The FREED reports -/

theorem State.freedRoutes_eq (s : State) : s.freedRoutes = (List.finRange 48).filter fun j : RouteId => decide
    (s.mix.routes[j].inUse = true ∧ s.mix.routes[j].clearing = true ∧ s.mix.routes[j].remaining ≤ 1) := by
  refine List.filter_congr fun j _ => ?_
  rw [Bool.eq_iff_iff, s.rampStage_ended, decide_eq_true_iff]

theorem State.mixFrame_rig (s : State) : s.mixFrame.rig = { s.rig with
    egress := (s.freedRoutes.map Report.routeFreed).foldl Egress.report s.rig.egress } := Rig.reports_eq _ _

theorem execRouteRampEnd_due {s : State} {i : RouteId} (huse : s.mix.routes[i].inUse = true)
    (hlast : s.mix.routes[i].remaining = 1) : execRouteRampEnd i s = .next s.mixFrame := by
  refine whenDue_due s _ ?_
  rw [huse, hlast]
  rfl

/-- Settles O21: the entry that stage 2 leaves, by whether the route is free, ends its clearing or stays. -/
theorem routeRampsMoveOneStepAFrame : Obligations.RouteRampsMoveOneStepAFrame := by
  intro s i
  refine ⟨s.mixFrame, rfl, fun hfree => ?_, fun huse hclear hlast => ?_, fun huse hstays => ?_, ?_,
    fun huse hlast => execRouteRampEnd_due huse hlast⟩
  · rw [s.mixFrame_route, State.stageEntry_free hfree]
  · rw [s.mixFrame_route, State.stageEntry_ended huse hclear hlast]
  · rw [s.mixFrame_route, State.stageEntry_stays hstays, State.rampStage_inUse huse]
  · rw [s.mixFrame_rig, s.freedRoutes_eq]

/-! ### The line gate (R20) -/

theorem State.gateStage_line {s : State} {r : Route} {k : LineId} (h : r.source = .line k) :
    s.gateStage r = if s.gateTargetOf r k = r.gateOpen then r.gateFrame else r.gateRamped (s.gateTargetOf r k) := by
  have hline : r.gateLine = some k := by rw [Route.gateLine, h]
  unfold State.gateStage
  rw [hline]

/-- One frame of a gate whose target stands. -/
theorem Route.gateFrame_eq (r : Route) : r.gateFrame = { r with
    gateFactor := if r.gateRemaining = 0 then r.gateFactor
      else if r.gateRemaining = 1 then gateGoal r.gateOpen else (r.gateFactor + r.gateStep).toNat
    gateRemaining := r.gateRemaining - 1 } := by
  unfold Route.gateFrame
  split
  · rename_i hrest
    rw [hrest]
    exact congrArg (fun n => { r with gateRemaining := n }) hrest
  · split
    · rename_i hlast
      rw [hlast]
    · rfl

/-- A gate at rest at its new goal starts no ramp. -/
theorem Route.gateRamped_rest {r : Route} {opened : Bool} (hrest : r.gateRemaining = 0)
    (hgoal : r.gateFactor = gateGoal opened) : r.gateRamped opened = { r with gateOpen := opened } :=
  if_pos ⟨hrest, hgoal⟩

theorem Route.gateRamped_moves {r : Route} {opened : Bool}
    (h : 0 < r.gateRemaining ∨ r.gateFactor ≠ gateGoal opened) : r.gateRamped opened = { r with
      gateOpen := opened, gateRemaining := 512, gateStep := ((gateGoal opened : Int) - r.gateFactor).tdiv 512 } := by
  refine if_neg fun ⟨hrest, hgoal⟩ => ?_
  rcases h with hmoving | hoff
  · omega
  · exact hoff hgoal

theorem execGateRampEnd_due {s : State} {i : RouteId} {k : LineId} (huse : s.mix.routes[i].inUse = true)
    (hsource : s.mix.routes[i].source = .line k) (hstands : s.gateTargetOf s.mix.routes[i] k = s.mix.routes[i].gateOpen)
    (hlast : s.mix.routes[i].gateRemaining = 1) : execGateRampEnd i s = .next s.mixFrame := by
  have hline : s.mix.routes[i].gateLine = some k := by rw [Route.gateLine, hsource]
  refine whenDue_due s _ ?_
  rw [State.gateEnds, huse, hlast, hline]
  simp only [hstands, beq_self_eq_true, Bool.true_and]

/-- Settles O22: the gate's stage by whether the target stands, and else by whether the gate is at rest at the goal. -/
theorem lineGatesMoveOneStepAFrame : Obligations.LineGatesMoveOneStepAFrame := by
  intro s i k huse hsource hstays r wanted
  have hwanted : wanted = s.gateTargetOf r k := rfl
  have hroute : s.mixFrame.mix.routes[i] = s.rampStage r := by
    rw [s.mixFrame_route, State.stageEntry_stays hstays]
  have hgate := State.gateStage_line (s := s) hsource
  rw [← hwanted] at hgate
  refine ⟨s.mixFrame, rfl, fun hstands => ?_, fun hchanged hrest hgoal => ?_, fun hchanged hmoves => ?_,
    fun hstands hlast => execGateRampEnd_due huse hsource (hwanted.symm.trans hstands) hlast⟩
  · rw [if_pos hstands, Route.gateFrame_eq] at hgate
    rw [hroute, State.rampStage_inUse huse, hgate]
    exact ⟨rfl, rfl, rfl, rfl⟩
  · rw [if_neg hchanged, Route.gateRamped_rest hrest hgoal] at hgate
    rw [hroute, State.rampStage_inUse huse, hgate]
    exact ⟨rfl, rfl, hrest⟩
  · rw [if_neg hchanged, Route.gateRamped_moves hmoves] at hgate
    rw [hroute, State.rampStage_inUse huse, hgate]
    exact ⟨rfl, rfl, rfl, rfl⟩

end Sys2Proof.Machine
end

section
/-!
SUPPORT and the statements on what a frame of the mix forms: O20 and O23.
-/

namespace Sys2Proof.Machine

/-! ### Source values (R18, R19) -/

/-- A frame's L side or one side, and its R side where it is stereo. -/
def Frame.sides : Frame → Int × Option Int
  | .mono x => (x.toInt, none)
  | .stereo l r => (l.toInt, some r.toInt)

/-- The sides of a source are those of the frame it gives. -/
theorem State.sides_eq (s : State) (source : RouteSource) : s.sides source = (s.sourceFrame source).sides := by
  cases source with
  | lane x => rfl
  | pair k => rfl
  | deck n =>
    show (match s.taken.decks[n.val] with
      | .mono x => (x.toInt, none)
      | .stereo l r => (l.toInt, some r.toInt)) = (s.taken.decks[n.val]).sides
    cases s.taken.decks[n.val] <;> rfl
  | line k =>
    show (match (s.line k).inLane with
      | some x => ((s.taken.lanes[x]).toInt, none)
      | none => (0, none)) = (match (s.line k).inLane with
      | none => Frame.mono 0
      | some x => Frame.mono s.taken.lanes[x]).sides
    cases (s.line k).inLane <;> rfl

/-! ### The effective gain and the terms (R21) -/

/-- The gain that the line gate leaves. -/
def Route.gated (r : Route) : Nat :=
  match r.source with
  | .line _ => (r.current * r.gateFactor + 8192) / 16384
  | _ => r.current

theorem Route.gain_eq (r : Route) (duckFactor : Nat) : r.gain duckFactor =
    if r.destination = .pgm ∧ r.duckable = true then (r.gated * duckFactor + 8192) / 16384 else r.gated := by
  unfold Route.gain Route.gated Route.gateLine
  cases r.source <;> rfl

/-- The terms of a route by its destination and the form of its source. -/
theorem State.terms_eq (s : State) (duckFactor : Nat) (r : Route) : s.terms duckFactor r =
    match r.destination, s.sides r.source with
    | .scr, (x, none) => (scaled x (r.gain duckFactor), 0)
    | .scr, (x, some y) => (scaled ((x + y) / 2) (r.gain duckFactor), 0)
    | _, (x, none) => (scaled x (r.gain duckFactor), scaled x (r.gain duckFactor))
    | _, (x, some y) => (scaled x (r.gain duckFactor), scaled y (r.gain duckFactor)) := by
  rw [s.sides_eq]
  unfold State.terms
  cases s.sourceFrame r.source with
  | mono x => cases r.destination <;> rfl
  | stereo x y => cases r.destination <;> rfl

/-! ### Exact sums (R22, R27) -/

/-- What a fold over the chosen entries adds up on each side is the sum with 0 for every other entry. -/
theorem foldl_filter_add {α : Type} (p : α → Bool) (f g : α → Int) (l : List α) (a b : Int) :
    (l.filter p).foldl (fun acc x => (acc.1 + f x, acc.2 + g x)) (a, b) =
      (a + (l.map fun x => if p x = true then f x else 0).sum,
        b + (l.map fun x => if p x = true then g x else 0).sum) := by
  induction l generalizing a b with
  | nil => simp
  | cons x l ih =>
    cases hx : p x with
    | true =>
      rw [List.filter_cons_of_pos hx, List.foldl_cons, ih]
      simp [hx, Int.add_assoc]
    | false =>
      rw [List.filter_cons_of_neg (by rw [hx]; nofun), ih]
      simp [hx]

/-- The routes that a sum hears: all, or all but those from one line (R27). -/
def heardRoutes (except : Option LineId) (l : List Route) : List Route :=
  match except with
  | none => l
  | some k => withoutLine k l

/-- Whether a route adds to a bus, the routes from the line `except` left out. -/
def Route.addsTo (bus : Bus) (except : Option LineId) (r : Route) : Bool :=
  decide (r.inUse = true ∧ r.destination = bus ∧ ∀ k, except = some k → r.source ≠ .line k)

theorem Route.gateLine_eq_some {r : Route} {k : LineId} : r.gateLine = some k ↔ r.source = .line k := by
  unfold Route.gateLine
  cases r.source <;> simp

theorem heardRoutes_onBus (bus : Bus) (except : Option LineId) (l : List Route) :
    (heardRoutes except l).filter (fun r => r.inUse && r.destination == bus) = l.filter (Route.addsTo bus except) := by
  cases except with
  | none =>
    refine List.filter_congr fun r _ => ?_
    rw [Bool.eq_iff_iff]
    simp [Route.addsTo]
  | some k =>
    rw [heardRoutes, withoutLine, List.filter_filter]
    refine List.filter_congr fun r _ => ?_
    rw [Bool.eq_iff_iff]
    simp [Route.addsTo, Route.gateLine_eq_some, and_assoc]

theorem toList_eq_map_finRange {α : Type} {n : Nat} (v : Vector α n) :
    v.toList = (List.finRange n).map fun i => v[i] :=
  List.ext_getElem (by simp) (by simp)

/-- The sum that a bus forms is the exact sum of each side over the 48 entries. -/
theorem State.busSum_heard (s : State) (duckFactor : Nat) (bus : Bus) (routes : Vector Route 48)
    (except : Option LineId) : s.busSum duckFactor bus (heardRoutes except routes.toList) =
      (s.sideSum duckFactor bus routes except true, s.sideSum duckFactor bus routes except false) := by
  rw [State.busSum, heardRoutes_onBus, foldl_filter_add, Int.zero_add, Int.zero_add, toList_eq_map_finRange,
    List.map_map, List.map_map]
  simp only [State.sideSum, Route.addsTo, Function.comp_def, decide_eq_true_eq, if_true, Bool.false_eq_true, if_false]

theorem State.busSum_all (s : State) (duckFactor : Nat) (bus : Bus) (routes : Vector Route 48) :
    s.busSum duckFactor bus routes.toList =
      (s.sideSum duckFactor bus routes none true, s.sideSum duckFactor bus routes none false) :=
  s.busSum_heard duckFactor bus routes none

theorem State.busSum_withoutLine (s : State) (duckFactor : Nat) (bus : Bus) (routes : Vector Route 48) (k : LineId) :
    s.busSum duckFactor bus (withoutLine k routes.toList) =
      (s.sideSum duckFactor bus routes (some k) true, s.sideSum duckFactor bus routes (some k) false) :=
  s.busSum_heard duckFactor bus routes (some k)

/-! ### Saturation, the HOLD feed and the returns (R22, R26 to R28) -/

theorem saturate_toInt (x : Int) : (saturate x).toInt = limited x := by
  unfold saturate limited
  split
  · rw [BitVec.toInt_ofInt]
    simp only [Int.bmod_def]
    omega
  · split
    · rw [BitVec.toInt_ofInt]
      simp only [Int.bmod_def]
      omega
    · rw [BitVec.toInt_ofInt]
      simp only [Int.bmod_def]
      omega

theorem holdFeedOf_toInt (pgm : Stereo) (holdGain : Nat) : (holdFeedOf pgm holdGain).toInt =
    limited (((pgm.l.toInt + pgm.r.toInt) / 2 * holdGain + 8192) / 16384) := saturate_toInt _

/-- A line's return by its state, over the sums that leave its own routes out. -/
theorem State.lineReturn_toInt (s : State) (duckFactor : Nat) (routes : Vector Route 48) (feed : Sample) (k : LineId) :
    (s.lineReturn duckFactor routes.toList feed k).toInt =
      match (s.line k).state with
      | .onAir => limited ((limited ((s.sideSum duckFactor .pgm routes (some k) true +
          s.sideSum duckFactor .pgm routes (some k) false) / 2) * (s.line k).returnGain + 8192) / 16384)
      | .screen => limited ((limited (s.sideSum duckFactor .scr routes (some k) true) * (s.line k).returnGain + 8192) /
          16384)
      | .hold => feed.toInt
      | .idle | .ringing | .answering => 0 := by
  unfold State.lineReturn
  dsimp only
  cases (s.line k).state with
  | onAir => simp only [s.busSum_withoutLine, saturate_toInt, scaled]
  | screen => simp only [s.busSum_withoutLine, saturate_toInt, scaled]
  | hold => rfl
  | idle => rfl
  | ringing => rfl
  | answering => rfl

/-! ### The frame (R16) -/

theorem State.mixFrame_pgm (s : State) : s.mixFrame.completed.pgm =
    { l := saturate (s.sideSum s.mixFrame.mix.duckFactor .pgm s.mixFrame.mix.routes none true)
      r := saturate (s.sideSum s.mixFrame.mix.duckFactor .pgm s.mixFrame.mix.routes none false) } := by
  have h := s.busSum_all s.mixFrame.mix.duckFactor .pgm s.mixFrame.mix.routes
  show Stereo.mk (saturate (s.busSum s.mixFrame.mix.duckFactor .pgm s.mixFrame.mix.routes.toList).1)
    (saturate (s.busSum s.mixFrame.mix.duckFactor .pgm s.mixFrame.mix.routes.toList).2) = _
  rw [h]

theorem State.mixFrame_cue (s : State) : s.mixFrame.completed.cue =
    { l := saturate (s.sideSum s.mixFrame.mix.duckFactor .cue s.mixFrame.mix.routes none true)
      r := saturate (s.sideSum s.mixFrame.mix.duckFactor .cue s.mixFrame.mix.routes none false) } := by
  have h := s.busSum_all s.mixFrame.mix.duckFactor .cue s.mixFrame.mix.routes
  show Stereo.mk (saturate (s.busSum s.mixFrame.mix.duckFactor .cue s.mixFrame.mix.routes.toList).1)
    (saturate (s.busSum s.mixFrame.mix.duckFactor .cue s.mixFrame.mix.routes.toList).2) = _
  rw [h]

theorem State.mixFrame_scr (s : State) : s.mixFrame.completed.scr =
    saturate (s.sideSum s.mixFrame.mix.duckFactor .scr s.mixFrame.mix.routes none true) := by
  have h := s.busSum_all s.mixFrame.mix.duckFactor .scr s.mixFrame.mix.routes
  show saturate (s.busSum s.mixFrame.mix.duckFactor .scr s.mixFrame.mix.routes.toList).1 = _
  rw [h]

theorem State.mixFrame_return (s : State) (k : LineId) : s.mixFrame.completed.returns[k] =
    s.lineReturn s.mixFrame.mix.duckFactor s.mixFrame.mix.routes.toList s.mixFrame.completed.holdFeed k :=
  vtable_get _ k

/-- A frame of the mix changes the engine's own record, what it completes, and reports. -/
theorem State.mixFrame_eq (s : State) : s.mixFrame = { s with
    mix := { s.mix with
      routes := s.mixFrame.mix.routes, duckFactor := s.mixFrame.mix.duckFactor
      sinceVoice := s.mixFrame.mix.sinceVoice }
    completed := { s.completed with
      pgm := s.mixFrame.completed.pgm, cue := s.mixFrame.completed.cue, scr := s.mixFrame.completed.scr
      holdFeed := s.mixFrame.completed.holdFeed, returns := s.mixFrame.completed.returns }
    rig := { s.rig with egress := s.mixFrame.rig.egress } } := by
  have hrig : s.mixFrame.rig = { s.rig with egress := s.mixFrame.rig.egress } := by rw [s.mixFrame_rig]
  exact congrArg (fun r => { s.mixFrame with rig := r }) hrig

/-- Settles O20: the terms by the source's form, and each bus and return by its sums. -/
theorem mixFrameFormsBusesAndReturns : Obligations.MixFrameFormsBusesAndReturns := by
  refine ⟨fun s duckFactor r => ?_, fun s => ⟨s.mixFrame, rfl, ⟨?_, ?_, ?_, ?_, ?_, ?_, fun k => ?_⟩, s.mixFrame_eq⟩⟩
  · intro gated gain term
    have hgain : r.gain duckFactor = gain := r.gain_eq duckFactor
    rw [s.terms_eq, hgain]
    rfl
  · rw [s.mixFrame_pgm, saturate_toInt]
  · rw [s.mixFrame_pgm, saturate_toInt]
  · rw [s.mixFrame_cue, saturate_toInt]
  · rw [s.mixFrame_cue, saturate_toInt]
  · rw [s.mixFrame_scr, saturate_toInt]
  · exact holdFeedOf_toInt s.mixFrame.completed.pgm s.callers.holdGain
  · rw [s.mixFrame_return]
    exact s.lineReturn_toInt _ _ _ k

/-! ### Voice (R24) -/

theorem any_toList_iff {α : Type} {n : Nat} (v : Vector α n) (p : α → Bool) :
    v.toList.any p = true ↔ ∃ i : Fin n, p v[i] = true := by
  rw [toList_eq_map_finRange, List.any_map, List.any_eq_true]
  simp

/-- A frame brought to PGM reaches a threshold where one of its sides does. -/
theorem Frame.reaches_pgm (f : Frame) (threshold : Nat) : (f.toward .pgm).reaches threshold = true ↔
    threshold ≤ f.sides.1.natAbs ∨ ∃ y, f.sides.2 = some y ∧ threshold ≤ y.natAbs := by
  cases f with
  | mono x => simp [Frame.toward, Sided.reaches, Frame.sides]
  | stereo l r => simp [Frame.toward, Sided.reaches, Frame.sides]

theorem State.routeVoice_eq (s : State) (r : Route) : s.routeVoice r =
    (r.inUse && r.destination == .pgm && r.voice && r.gateLine.all (s.gateTargetOf r) &&
      ((s.sourceFrame r.source).toward r.destination).reaches s.mix.duck.threshold) := by
  unfold State.routeVoice
  cases r.gateLine <;> rfl

/-- The gate target of a route into PGM is open where its line, if it has one, is ON_AIR and not muted. -/
theorem State.pgmGateOpen_iff (s : State) {r : Route} (h : r.destination = .pgm) :
    r.gateLine.all (s.gateTargetOf r) = true ↔
      ∀ k, r.source = .line k → (s.line k).state = .onAir ∧ (s.line k).muted = false := by
  rw [Option.all_eq_true]
  refine forall_congr' fun k => ?_
  rw [Route.gateLine_eq_some, State.gateTargetOf, h]
  simp [gateTarget]

theorem State.routeVoice_iff (s : State) (r : Route) : s.routeVoice r = true ↔
    r.inUse = true ∧ r.destination = .pgm ∧ r.voice = true ∧
      (∀ k, r.source = .line k → (s.line k).state = .onAir ∧ (s.line k).muted = false) ∧
      (s.mix.duck.threshold ≤ (s.sides r.source).1.natAbs ∨
        ∃ y, (s.sides r.source).2 = some y ∧ s.mix.duck.threshold ≤ y.natAbs) := by
  rw [s.routeVoice_eq]
  by_cases hbus : r.destination = .pgm
  · simp only [Bool.and_eq_true, beq_iff_eq, s.pgmGateOpen_iff hbus, and_assoc]
    rw [hbus, Frame.reaches_pgm, s.sides_eq]
  · simp [hbus]

theorem State.voiceDetected_iff (s : State) (routes : Vector Route 48) : s.voiceDetected routes = true ↔
    ∃ i : RouteId, s.routeVoice routes[i] = true := any_toList_iff routes _

theorem voiceCount_eq (detected : Bool) (count : Nat) :
    voiceCount detected count = if detected = true then 0 else min 48001 (count + 1) := by
  unfold voiceCount
  split
  · rfl
  · split <;> omega

/-! ### The duck factor (R25) -/

theorem moveToward_eq (x goal rate : Nat) :
    moveToward x goal rate = if goal < x then max goal (x - rate) else min goal (x + rate) := by
  unfold moveToward
  split <;> split <;> omega

theorem State.mixFrame_sinceVoice (s : State) : s.mixFrame.mix.sinceVoice =
    voiceCount (s.voiceDetected s.mixFrame.mix.routes) s.mix.sinceVoice := rfl

theorem State.mixFrame_duckFactor (s : State) : s.mixFrame.mix.duckFactor =
    duckStep s.mix.duck (voiceOpen s.mix.duck s.mixFrame.mix.sinceVoice) s.mix.duckFactor := rfl

theorem duckStep_open {duck : DuckSettings} {count : Nat} (h : count ≤ duck.hold) (d : Nat) :
    duckStep duck (voiceOpen duck count) d = moveToward d duck.depth duck.attack := by
  rw [duckStep, voiceOpen, decide_eq_true h]
  rfl

theorem duckStep_closed {duck : DuckSettings} {count : Nat} (h : duck.hold < count) (d : Nat) :
    duckStep duck (voiceOpen duck count) d = moveToward d 16384 duck.release := by
  rw [duckStep, voiceOpen, decide_eq_false (by omega)]
  rfl

theorem execVoiceHoldExpiry_due {s : State} (hopen : s.mix.sinceVoice ≤ s.mix.duck.hold)
    (hpast : s.mix.duck.hold < s.mixFrame.mix.sinceVoice) : execVoiceHoldExpiry s = .next s.mixFrame := by
  refine whenDue_due s _ ?_
  rw [voiceOpen, voiceOpen, decide_eq_true hopen, decide_eq_false (by omega)]
  rfl

/-- Settles O23: voice route by route, then the count and the factor's step by whether the hold has passed. -/
theorem voiceGateDrivesTheDuckFactor : Obligations.VoiceGateDrivesTheDuckFactor := by
  refine ⟨fun s routes => ?_, fun s => ⟨s.mixFrame, rfl, ?_, fun hopen => ?_, fun hpast => ?_,
    fun hcount hhold hsilent => ?_⟩⟩
  · rw [s.voiceDetected_iff]
    exact exists_congr fun i => s.routeVoice_iff routes[i]
  · rw [s.mixFrame_sinceVoice, voiceCount_eq]
  · rw [s.mixFrame_duckFactor, duckStep_open hopen, moveToward_eq]
  · rw [s.mixFrame_duckFactor, duckStep_closed hpast, moveToward_eq]
  · have hnext : s.mixFrame.mix.sinceVoice = s.mix.duck.hold + 1 := by
      rw [s.mixFrame_sinceVoice, hsilent, voiceCount_eq, hcount]
      simp only [Bool.false_eq_true, if_false]
      omega
    exact ⟨execVoiceHoldExpiry_due (by omega) (by omega), hnext⟩

end Sys2Proof.Machine
end

section
/-!
SUPPORT and the statement on the requests of the Mix Engine: O25.
-/

namespace Sys2Proof.Machine

/-! ### Checks in their order -/

/-- The verdict of a list of checks: the status of the first that holds, or the value `a`. -/
def decided {α : Type} (checks : List (Bool × Status)) (a : α) : Except Status α :=
  match firstRefusal checks with
  | some x => .error x
  | none => .ok a

section
variable {α β : Type} {x : Status} {b : Bool} {rest : List (Bool × Status)} {a : α}

theorem decided_nil : .ok a = decided [] a := rfl

theorem decided_cons : decided ((b, x) :: rest) a = if b = true then .error x else decided rest a := by
  cases b <;> rfl

/-- A sequence that begins with a refusal has the verdict of that check and then of the rest. -/
theorem refuse_decided {f : Unit → Except Status α} {c : Bool} (hb : c = b)
    (h : f () = decided rest a) : (refuse x c >>= f) = decided ((b, x) :: rest) a := by
  rw [decided_cons, ← h, ← hb]
  cases c <;> rfl

/-- A sequence that begins by reading a value is refused where there is none, and else goes on with it. -/
theorem require_decided {o : Option β} {f : β → Except Status α} (hb : o.isNone = b)
    (h : ∀ v, o = some v → f v = decided rest a) : (require x o >>= f) = decided ((b, x) :: rest) a := by
  rw [decided_cons, ← hb]
  cases o with
  | none => rfl
  | some v => exact h v rfl

/-- A request's outcome is the verdict of its checks. -/
theorem answer_decided {s : State} {e : Egress} {n : Nat} {tag : Tag} {k : RequestKind}
    (he : s.rig.egress.secure n = some e) {check : State → Except Status α} {f : State → α → State}
    {checks : List (Bool × Status)} (hc : check (s.received e) = decided checks a) :
    (.next (s.take n fun s => s.judged tag k (check s) (f s)) : Answer) =
      .next (s.outcome e tag k checks (f (s.received e) a).release) := by
  unfold State.outcome
  unfold decided at hc
  cases hfirst : firstRefusal checks with
  | some x => exact answer_refused he (by rw [hc, hfirst])
  | none => exact answer_passed he (by rw [hc, hfirst])

end

/-! ### Operands read -/

theorem inRange?_upTo {hi k : Nat} : (inRange? 0 hi k).isNone = decide (hi < k) := by
  rw [Bool.eq_iff_iff]
  simp [inRange?]

theorem flag?_isNone (k : Nat) : (flag? k).isNone = decide (1 < k) := by
  match k with
  | 0 | 1 => rfl
  | k + 2 => exact (decide_eq_true (by omega)).symm

theorem flag?_some {k : Nat} {b : Bool} (h : flag? k = some b) : b = (k == 1) := by
  unfold flag? at h
  split at h <;> cases h <;> rfl

theorem bus?_some {k : Nat} {bus : Bus} (h : bus? k = some bus) : (bus != .pgm) = (k != 0) := by
  unfold bus? at h
  split at h <;> cases h <;> rfl

theorem rampExponent_eq (k : Nat) : rampExponent k = min k 12 := by
  unfold rampExponent
  split <;> omega

/-! ### The entries written (R23, R29 to R31) -/

theorem Route.written_eq (source : RouteSource) (bus : Bus) (gain x : Nat) (voice duckable : Bool) :
    Route.ramped { Route.free with
      inUse := true, source := source, destination := bus, target := gain
      exponent := rampExponent x, voice := voice, duckable := duckable } =
    { inUse := true, clearing := false, source := source, destination := bus, target := gain, current := 0
      exponent := min x 12, remaining := if gain = 0 then 0 else 2 ^ min x 12
      step := ((gain / 2 ^ min x 12 : Nat) : Int), voice := voice, duckable := duckable
      gateFactor := 0, gateRemaining := 0, gateStep := 0, gateOpen := false } := by
  have hstep : ((gain : Int) - (0 : Nat)).tdiv (2 ^ min x 12) = ((gain / 2 ^ min x 12 : Nat) : Int) := by
    rw [Int.tdiv_eq_ediv_of_nonneg (by omega)]
    push_cast
    rw [Int.sub_zero]
  rw [Route.ramped_eq, rampExponent_eq, ← hstep]
  rfl

/-- A new target for an entry: the rest of it stays, and its ramp starts. -/
theorem Route.retargeted_eq (r : Route) (gain x : Nat) :
    Route.ramped { r with target := gain, exponent := rampExponent x } = { r with
      target := gain, exponent := min x 12
      remaining := if gain = r.current then 0 else 2 ^ min x 12
      step := ((gain : Int) - r.current).tdiv (2 ^ min x 12) } := by
  rw [Route.ramped_eq, rampExponent_eq]

theorem Route.cleared_silent {r : Route} (h : r.current = 0) (x : Nat) : r.cleared x = .free := if_pos h

theorem Route.cleared_sounding {r : Route} (h : r.current ≠ 0) (x : Nat) : r.cleared x = { r with
    clearing := true, target := 0, exponent := min x 12, remaining := 2 ^ min x 12
    step := (-(r.current : Int)).tdiv (2 ^ min x 12) } := by
  have hneg : ((0 : Nat) : Int) - r.current = -(r.current : Int) := Int.zero_sub _
  rw [Route.cleared, if_neg h, Route.retargeted_eq { r with clearing := true } 0 x]
  dsimp only
  rw [if_neg (Ne.symm h), hneg]

/-! ### The requests -/

/-- A report behind the reply of a request that secured one place: no place stays secured. -/
theorem Egress.report_released {e₀ e : Egress} (he : e₀.secure 1 = some e) (m : Outbound) (r : Report) :
    { (e.push m).report r with reserved := 0 } = (e.answered [m]).report r := by
  have hreserved : ((e.answered [m]).report r).reserved = 0 := Egress.report_reserved _ r
  rw [Egress.push_secured he, ← hreserved]

/-- ROUTE_SET's checks after its index, in the order of R29. -/
def State.routeSetChecks (s : State) (i : RouteId) (kind number destination gain voice duckable : Nat) :
    List (Bool × Status) :=
  [((routeSource? kind number).isNone, .range), ((bus? destination).isNone, .range), (65535 < gain, .range),
    (1 < voice, .range), (1 < duckable, .range), ((voice = 1 ∨ duckable = 1) ∧ destination ≠ 0, .range),
    (s.mix.routes[i].inUse, .busy)]

/-- Where ROUTE_SET's checks pass, the entry's fields are as they are read. -/
theorem State.routeSetCheck_decided (s : State) (i : RouteId) (kind number destination gain voice duckable : Nat) :
    s.routeSetCheck i kind number destination gain voice duckable =
      decided (s.routeSetChecks i kind number destination gain voice duckable)
        (i, (routeSource? kind number).getD (.lane 0), (bus? destination).getD .pgm, gain, voice == 1,
          duckable == 1) := by
  unfold State.routeSetCheck
  rw [require_index, ok_bind]
  refine require_decided rfl fun source hsource => require_decided rfl fun bus hbus =>
    require_decided inRange?_upTo fun target htarget => require_decided (flag?_isNone _) fun v hv =>
    require_decided (flag?_isNone _) fun d hd => refuse_decided ?_ (refuse_decided rfl ?_)
  · rw [flag?_some hv, flag?_some hd, bus?_some hbus, Bool.eq_iff_iff]
    simp
  · rw [hsource, hbus, (inRange?_some htarget).1, flag?_some hv, flag?_some hd]
    rfl

theorem execRouteSet_outcome {s : State} {e : Egress} (he : s.rig.egress.secure 1 = some e) (tag : Tag) (i : RouteId)
    (kind number destination gain x voice duckable : Nat) :
    exec (.routeSet tag i kind number destination gain x voice duckable) s = .next (s.outcome e tag .routeSet
      (s.routeSetChecks i kind number destination gain voice duckable)
      { s.answered e [doneWith tag .routeSet []] with
        mix := { s.mix with routes := vset s.mix.routes i (Route.ramped { Route.free with
          inUse := true, source := (routeSource? kind number).getD (.lane 0)
          destination := (bus? destination).getD .pgm, target := gain, exponent := rampExponent x
          voice := voice == 1, duckable := duckable == 1 }) } }) :=
  (answer_decided he ((s.received e).routeSetCheck_decided i kind number destination gain voice duckable)).trans rfl

theorem execRouteGain_outcome {s : State} {e : Egress} (he : s.rig.egress.secure 1 = some e) (tag : Tag) (i : RouteId)
    (gain x : Nat) : exec (.routeGain tag i gain x) s = .next (s.outcome e tag .routeGain
      [(65535 < gain, .range), (!s.mix.routes[i].inUse, .absent), (s.mix.routes[i].clearing, .state)]
      { s.answered e [doneWith tag .routeGain []] with
        mix := { s.mix with
          routes := vset s.mix.routes i
            (Route.ramped { s.mix.routes[i] with target := gain, exponent := rampExponent x }) } }) := by
  refine (answer_decided (a := (i, gain)) he ?_).trans rfl
  rw [require_index, ok_bind]
  refine require_decided inRange?_upTo fun target htarget => refuse_decided rfl (refuse_decided rfl ?_)
  rw [(inRange?_some htarget).1]
  rfl

theorem State.routeInUse_decided (s : State) (i : RouteId) :
    s.routeInUse i = decided [(!s.mix.routes[i].inUse, .absent)] i := by
  unfold State.routeInUse
  rw [require_index, ok_bind]
  exact refuse_decided rfl decided_nil

/-- ROUTE_CLEAR of an entry that is silent frees it, and FREED follows the reply; any other starts its last ramp. -/
theorem execRouteClear_outcome {s : State} {e : Egress} (he : s.rig.egress.secure 1 = some e) (tag : Tag) (i : RouteId)
    (x : Nat) : exec (.routeClear tag i x) s = .next (s.outcome e tag .routeClear
      [(!s.mix.routes[i].inUse, .absent)]
      (if s.mix.routes[i].current = 0 then
        { s with
          inbound := none
          mix := { s.mix with routes := vset s.mix.routes i (s.mix.routes[i].cleared x) }
          rig := { s.rig with egress := (e.answered [doneWith tag .routeClear []]).report (.routeFreed i) } }
      else { s.answered e [doneWith tag .routeClear []] with
        mix := { s.mix with routes := vset s.mix.routes i (s.mix.routes[i].cleared x) } })) := by
  refine (answer_decided he ((s.received e).routeInUse_decided i)).trans ?_
  by_cases hsilent : s.mix.routes[i].current = 0
  · have hsilent' : (s.received e).mix.routes[i].current = 0 := hsilent
    rw [if_pos hsilent, if_pos hsilent', ← Egress.report_released he]
    rfl
  · have hsounding : ¬ (s.received e).mix.routes[i].current = 0 := hsilent
    rw [if_neg hsilent, if_neg hsounding]
    rfl

theorem require_inRange {α : Type} {lo hi k : Nat} {f : Nat → Except Status α} :
    (require .range (inRange? lo hi k) >>= f) = if lo ≤ k ∧ k ≤ hi then f k else .error .range := by
  unfold inRange?
  split <;> rfl

theorem duckCheck_eq (depth attack release threshold hold : Nat) : duckCheck depth attack release threshold hold =
    if depth ≤ 16384 ∧ 1 ≤ attack ∧ attack ≤ 1024 ∧ 1 ≤ release ∧ release ≤ 1024 ∧ threshold ≤ 8388607 ∧ hold ≤ 48000
    then .ok { depth := depth, attack := attack, release := release, threshold := threshold, hold := hold }
    else .error .range := by
  simp only [duckCheck, require_inRange, ← ite_and]
  exact if_congr (by omega) rfl rfl

/-- Settles O25: each request's outcome by the verdict of its checks, with the entry it writes put as its rule says. -/
theorem routeAndDuckRequestsSetTheirRecord : Obligations.RouteAndDuckRequestsSetTheirRecord := by
  refine ⟨fun s e tag i gain x he => ⟨fun kind number destination voice duckable => ?set, ?gain, ?clear⟩,
    fun s e tag depth attack release threshold hold he => ?duck⟩
  case set =>
    intro made
    rw [execRouteSet_outcome he, Route.written_eq]
    rfl
  case gain =>
    intro moved
    rw [execRouteGain_outcome he, Route.retargeted_eq]
  case clear =>
    intro clearing
    rw [execRouteClear_outcome he]
    split
    · rw [Route.cleared_silent ‹_›]
    · rw [Route.cleared_sounding ‹_›]
  case duck =>
    split
    · refine answer_passed he ((duckCheck_eq ..).trans (if_pos ‹_›))
    · exact answer_refused he ((duckCheck_eq ..).trans (if_neg ‹_›))

end Sys2Proof.Machine
end

section
/-!
SUPPORT and the statement on RESTART: O3.
-/

namespace Sys2Proof.Machine

/-! ### Replies outlast a full queue (R197) -/

theorem repliesOf_dropYoungestReport {q kept : List Outbound} (h : dropYoungestReport q = some kept) :
    repliesOf kept = repliesOf q := by
  obtain ⟨before, m, after, rfl, rfl, hreport, -⟩ := dropYoungestReport_some h
  cases m with
  | report r => simp [repliesOf, Outbound.kindCode]
  | reply | phoneAnswer | phoneRelease => cases hreport

theorem repliesOf_evicted {e : Egress} {kept : List Outbound} (h : e.evicted = some kept) :
    repliesOf kept = repliesOf e.queue := by
  unfold Egress.evicted at h
  split at h
  · exact repliesOf_dropYoungestReport h
  · split at h
    · cases h
    · rename_i head rest hqueue
      obtain ⟨kept', hrest, rfl⟩ := Option.map_eq_some_iff.mp h
      have hkept := repliesOf_dropYoungestReport hrest
      rw [hqueue]
      simp only [repliesOf, List.filter_cons] at hkept ⊢
      rw [hkept]

/-- A command raised by an event of the part neither adds nor costs a reply. -/
theorem repliesOf_urgent (e : Egress) (k : LineId) (ref : Nat) :
    repliesOf (e.urgent (.phoneRelease k ref)).queue = repliesOf e.queue := by
  have hbehind (q : List Outbound) : repliesOf (q ++ [.phoneRelease k ref]) = repliesOf q := by
    simp [repliesOf, Outbound.kindCode]
  unfold Egress.urgent
  split
  · exact hbehind e.queue
  · split
    · rename_i kept hkept
      exact (hbehind kept).trans (repliesOf_evicted hkept)
    · rfl

/-! ### The calls released (R114) -/

/-- A line at RESTART: a call in progress is over. -/
def Line.restarted (l : Line) : Line := if l.state = .idle then l else l.idled

theorem State.restartLine_idle {s : State} {k : LineId} (h : (s.line k).state = .idle) : s.restartLine k = s := if_pos h

theorem State.restartLine_busy {s : State} {k : LineId} (h : (s.line k).state ≠ .idle) : s.restartLine k =
    (s.setLine k (s.line k).idled).onRig (·.command (.phoneRelease k (s.line k).callRef)) := if_neg h

theorem State.restartLine_line (s : State) (k j : LineId) :
    (s.restartLine k).line j = if k = j then (s.line j).restarted else s.line j := by
  by_cases hidle : (s.line k).state = .idle
  · rw [State.restartLine_idle hidle]
    split
    · rename_i hsame
      rw [← hsame, Line.restarted, if_pos hidle]
    · rfl
  · rw [State.restartLine_busy hidle]
    refine (s.line_setLine k j _).trans ?_
    split
    · rename_i hsame
      rw [← hsame, Line.restarted, if_neg hidle]
    · rfl

/-- The part after calls have been released: the lines and the queue alone, with the replies as they were. -/
structure State.Released (s t : State) : Prop where
  rest : t = { s with
    callers := { s.callers with lines := t.callers.lines }, rig := { s.rig with egress := t.rig.egress } }
  replies : repliesOf t.rig.egress.queue = repliesOf s.rig.egress.queue

theorem State.Released.refl (s : State) : s.Released s := ⟨rfl, rfl⟩

theorem State.Released.trans {s₁ s₂ s₃ : State} (h : s₁.Released s₂) (k : s₂.Released s₃) : s₁.Released s₃ :=
  ⟨by rw [k.rest, h.rest], k.replies.trans h.replies⟩

theorem State.restartLine_released (s : State) (k : LineId) : s.Released (s.restartLine k) := by
  by_cases hidle : (s.line k).state = .idle
  · rw [State.restartLine_idle hidle]
    exact .refl s
  · rw [State.restartLine_busy hidle]
    exact ⟨rfl, repliesOf_urgent _ _ _⟩

/-- The commands to PHONE that the calls of these lines raise. -/
def State.releases (s : State) (l : List LineId) : List Outbound :=
  (l.filter fun k => (s.line k).state != .idle).map fun k => .phoneRelease k (s.line k).callRef

theorem State.releases_congr {s t : State} {l : List LineId} (h : ∀ k ∈ l, t.line k = s.line k) :
    t.releases l = s.releases l := by
  unfold State.releases
  rw [List.filter_congr fun k hk => by rw [h k hk]]
  exact List.map_congr_left fun k hk => by rw [h k (List.mem_of_mem_filter hk)]

/-- With room for a command from each line, the commands of the busy lines join the queue in line order. -/
theorem State.restartLines_queue {l : List LineId} (hd : l.Nodup) {s : State} (hreserved : s.rig.egress.reserved = 0)
    (hroom : s.rig.egress.queue.length + l.length ≤ 32) :
    (l.foldl (fun s k => s.restartLine k) s).rig.egress.queue = s.rig.egress.queue ++ s.releases l := by
  induction l generalizing s with
  | nil => exact (List.append_nil _).symm
  | cons k l ih =>
    rw [List.nodup_cons] at hd
    rw [List.length_cons] at hroom
    have hothers : (s.restartLine k).releases l = s.releases l := State.releases_congr fun j hj => by
      rw [s.restartLine_line, if_neg (ne_of_mem_of_not_mem hj hd.1).symm]
    rw [List.foldl_cons]
    by_cases hidle : (s.line k).state = .idle
    · rw [State.restartLine_idle hidle, ih hd.2 hreserved (by omega)]
      simp [State.releases, hidle]
    · have hegress : (s.restartLine k).rig.egress = { s.rig.egress with
          queue := s.rig.egress.queue ++ [.phoneRelease k (s.line k).callRef] } := by
        rw [State.restartLine_busy hidle]
        exact Egress.urgent_room s.rig.egress _ (by omega)
      rw [ih hd.2 (by rw [hegress]; exact hreserved) (by rw [hegress]; simp; omega), hothers, hegress]
      simp [State.releases, hidle]

/-- What RESTART on the controller makes of the part: the lines, the caller queue and the egress queue. -/
theorem State.restartCallers_spec (s : State) : ∃ (lines : Vector Line 6) (f : Egress),
    s.restartCallers = { s with
      callers := { s.callers with lines := lines, queue := [] }, rig := { s.rig with egress := f } } ∧
    (∀ k : LineId, lines[k] = (s.line k).restarted) ∧ repliesOf f.queue = repliesOf s.rig.egress.queue ∧
    (s.rig.egress.reserved = 0 → s.rig.egress.queue.length + 6 ≤ 32 →
      f.queue = s.rig.egress.queue ++ s.releases allLines) := by
  have hreleased := foldl_related State.Released.refl State.Released.trans
    (f := fun s k => s.restartLine k) State.restartLine_released allLines s
  have hlines (k : LineId) : (allLines.foldl (fun s k => s.restartLine k) s).line k = (s.line k).restarted := by
    obtain ⟨before, -, hkept, hend⟩ := ((foldl_visits (P := fun _ => True) (g := State.line) (fun _ _ h => h)
      (fun s k j _ hj => (s.restartLine_line k j).trans (if_neg hj.symm)) nodup_allLines trivial).2 k).2
        (mem_allLines k)
    rw [hend, State.restartLine_line, if_pos rfl, hkept]
  refine ⟨_, _, ?_, hlines, hreleased.replies, fun hreserved hroom =>
    State.restartLines_queue nodup_allLines hreserved hroom⟩
  unfold State.restartCallers State.setQueue
  rw [hreleased.rest]

/-! ### The blocks (R36, R54, R74, R94, R135, R159, R178) -/

/-- The part after the restart of every block but the caller lines, with the egress queue that the reply leaves. -/
def State.blocksRestarted (s : State) (f : Egress) : State :=
  { s with
    inbound := none
    mix := s.mix.restarted
    rig := { s.rig.restarted with egress := f }
    completed := s.completed.decksSilent
    taken := s.taken.decksSilent }

/-- The part after RESTART, with the lines and the egress queue that the release of the calls leaves (R199). -/
def State.restarted (s : State) (lines : Vector Line 6) (f : Egress) : State :=
  { s.blocksRestarted f with callers := { s.callers with lines := lines, queue := [] } }

/-- The reply stands first, every block restarts, and then the calls are released. -/
theorem execRestart_restarted {s : State} {e : Egress} (he : s.rig.egress.secure 1 = some e) (tag : Tag) :
    ∃ (lines : Vector Line 6) (f : Egress), exec (.restart tag) s = .next (s.restarted lines f) ∧
      (∀ k : LineId, lines[k] = (s.line k).restarted) ∧
      repliesOf f.queue = repliesOf e.queue ++ [doneWith tag .restart []] ∧
      (e.queue.length + 7 ≤ 32 → f.queue = e.queue ++ doneWith tag .restart [] :: s.releases allLines) := by
  obtain ⟨lines, f, hcallers, hlines, hreplies, hqueue⟩ :=
    (s.blocksRestarted (e.answered [doneWith tag .restart []])).restartCallers_spec
  refine ⟨lines, { f with reserved := 0 }, ?_, hlines, hreplies.trans (repliesOf_answered e tag .restart),
    fun hroom => ?_⟩
  · calc exec (.restart tag) s
      _ = .next (s.blocksRestarted (e.push (doneWith tag .restart []))).restartCallers.release :=
        congrArg Host.Outcome.next (State.take_received he _)
      _ = .next (s.restarted lines { f with reserved := 0 }) := by
        rw [Egress.push_secured he, hcallers]
        rfl
  · have hlength : (e.answered [doneWith tag .restart []]).queue.length = e.queue.length + 1 := List.length_append
    exact (hqueue rfl (by simp only [State.blocksRestarted]; omega)).trans (List.append_assoc ..)

theorem Route.restarted_eq (r : Route) : r.restarted =
    if r.inUse = false then r else if r.clearing = true then .free
    else { r with
      current := r.target, step := 0, remaining := 0, gateFactor := 0, gateStep := 0, gateRemaining := 0
      gateOpen := false } := by
  unfold Route.restarted
  cases r.inUse <;> rfl

theorem Delay.restarted_length (d : Delay) : d.restarted.length = 0 := Int.sub_self _

/-- Settles O3: the blocks at their restart values, field by field, and the calls released behind the reply. -/
theorem restartKeepsSettingsAndClearsWorkInProgress : Obligations.RestartKeepsSettingsAndClearsWorkInProgress := by
  intro s e tag he
  obtain ⟨lines, f, hexec, hlines, hreplies, hqueue⟩ := execRestart_restarted he tag
  have hroutes (i : RouteId) : (s.restarted lines f).mix.routes[i] = s.mix.routes[i].restarted := vmap_get _ _ i
  have hcarts (c : CartId) : (s.restarted lines f).rig.cart c = (s.rig.cart c).restarted := vmap_get _ _ c
  have hdecks (d : DeckId) : (s.restarted lines f).rig.deck d = (s.rig.deck d).emptied := vmap_get _ _ d
  have hrecords (i : RecordId) : (s.restarted lines f).rig.record i =
      if (s.rig.record i).live = true then { s.rig.record i with state := .aborted } else s.rig.record i :=
    vmap_get _ _ i
  have hrecorders (k : RecorderId) : (s.restarted lines f).rig.recorder k = .free := Vector.getElem_replicate ..
  have hcells (c : Fin 18) : (s.restarted lines f).rig.cell c = .reset := Vector.getElem_replicate ..
  refine ⟨s.restarted lines f, s.releases allLines, hexec, rfl, hreplies, fun hroom => ⟨hqueue hroom, rfl⟩,
    rfl, rfl, rfl, rfl, rfl, rfl, rfl, rfl, rfl, rfl, rfl, rfl,
    fun i => (hroutes i).trans (Route.restarted_eq _),
    rfl, rfl, rfl, hrecorders, hcarts, hdecks, rfl, rfl, hlines, rfl, rfl, rfl, rfl, Delay.restarted_length _,
    rfl, rfl, rfl, rfl, rfl, rfl, rfl, rfl, rfl, rfl, rfl, rfl, rfl, hrecords,
    rfl, rfl, rfl, rfl, rfl, rfl, rfl, rfl, rfl, rfl, rfl, rfl, rfl, rfl, hcells, rfl, rfl, rfl⟩

end Sys2Proof.Machine
end

section
/-!
SUPPORT. The egress queue while an event runs (R197): its bounds, and how many of the secured places an operation uses.
-/

namespace Sys2Proof.Machine

/-! ### The queue in bounds -/

/-- The queue while an event runs: its messages and the places secured fit in 32, and of the head fewer words are sent
than it has. -/
structure Egress.InForm (e : Egress) : Prop where
  room : e.queue.length + e.reserved ≤ 32
  head : e.sent = 0 ∨ ∃ m rest, e.queue = m :: rest ∧ e.sent < m.fields.length + 2

theorem State.egressLaw_iff (s : State) :
    s.egressLaw ↔ s.rig.egress.InForm ∧ s.rig.egress.reserved = 0 := by
  have hhead : (match s.rig.egress.queue with
      | [] => s.rig.egress.sent = 0
      | m :: _ => s.rig.egress.sent < m.fields.length + 2) ↔
      (s.rig.egress.sent = 0 ∨ ∃ m rest, s.rig.egress.queue = m :: rest ∧ s.rig.egress.sent < m.fields.length + 2) := by
    cases s.rig.egress.queue with
    | nil => exact ⟨.inl, fun h => h.resolve_right nofun⟩
    | cons m rest =>
      refine ⟨fun h => .inr ⟨m, rest, rfl, h⟩, ?_⟩
      rintro (h | ⟨m, rest, heq, h⟩)
      · dsimp only
        omega
      · cases heq
        exact h
  refine ⟨fun ⟨hlen, hres, hsent⟩ => ⟨⟨by omega, hhead.mp hsent⟩, hres⟩, fun ⟨⟨hroom, hsent⟩, hres⟩ => ?_⟩
  exact ⟨by omega, hres, hhead.mpr hsent⟩

/-- A message at the end of a queue that has room for it. -/
theorem Egress.InForm.append {e : Egress} (h : e.InForm) (m : Outbound) {n : Nat}
    (hroom : e.queue.length + 1 + n ≤ 32) : ({ e with queue := e.queue ++ [m], reserved := n } : Egress).InForm := by
  refine ⟨by simpa using hroom, ?_⟩
  rcases h.head with h0 | ⟨x, rest, hq, hs⟩
  · exact .inl h0
  · exact .inr ⟨x, rest ++ [m], by rw [hq]; rfl, hs⟩

theorem Egress.report_inForm {e : Egress} (h : e.InForm) (m : Report) : (e.report m).InForm := by
  unfold Egress.report
  split
  · exact h.append _ (by omega)
  · exact ⟨h.room, h.head⟩

/-- What is given up is never a head that is being sent. -/
theorem Egress.evicted_inForm {e : Egress} (h : e.InForm) {kept : List Outbound} (hk : e.evicted = some kept) :
    ({ e with queue := kept } : Egress).InForm := by
  refine ⟨?_, ?_⟩
  · have hlen := Egress.evicted_length hk
    have hroom := h.room
    dsimp only
    omega
  · unfold Egress.evicted at hk
    split at hk
    · exact .inl ‹_›
    · rcases h.head with h0 | ⟨m, rest, hq, hs⟩
      · exact .inl h0
      · rw [hq] at hk
        obtain ⟨k, -, rfl⟩ := Option.map_eq_some_iff.mp hk
        exact .inr ⟨m, k, rfl, hs⟩

theorem Egress.urgent_inForm {e : Egress} (h : e.InForm) (m : Outbound) : (e.urgent m).InForm := by
  unfold Egress.urgent
  split
  · exact h.append _ (by omega)
  · split
    · rename_i kept hk
      refine (Egress.evicted_inForm h hk).append m ?_
      have hlen := Egress.evicted_length hk
      have hroom := h.room
      dsimp only
      omega
    · exact ⟨h.room, h.head⟩

theorem Egress.evict_inForm {n : Nat} {e e' : Egress} (h : e.InForm) (he : e.evict n = some e') : e'.InForm := by
  induction n generalizing e with
  | zero => cases he; exact h
  | succ n ih =>
    unfold Egress.evict at he
    split at he
    · exact ih (Egress.evicted_inForm h ‹_›) he
    · cases he

/-- Where nothing is secured, the room made for a request leaves the queue in bounds with its places secured. -/
theorem Egress.secure_inForm {n : Nat} {e e' : Egress} (h : e.InForm) (hn : n ≤ 32) (he : e.secure n = some e') :
    e'.InForm ∧ e'.reserved = n := by
  obtain ⟨hres, -, -, -, hroom⟩ := Egress.secure_spec he
  refine ⟨⟨hres ▸ hroom hn, ?_⟩, hres⟩
  unfold Egress.secure at he
  obtain ⟨kept, hk, rfl⟩ := Option.map_eq_some_iff.mp he
  exact (Egress.evict_inForm h hk).head

theorem Egress.advanced_inForm {e : Egress} (h : e.InForm) : e.advanced.InForm := by
  have hroom := h.room
  cases hq : e.queue with
  | nil =>
    have hidle : e.advanced = { e with sent := 0 } := by simp only [Egress.advanced, hq]
    rw [hidle]
    exact ⟨hroom, .inl rfl⟩
  | cons m rest =>
    rw [hq, List.length_cons] at hroom
    rw [Egress.advanced_head hq]
    split
    · exact ⟨by dsimp only; omega, .inl rfl⟩
    · rename_i hmore
      exact ⟨by simpa [hq] using hroom, .inr ⟨m, rest, hq, by dsimp only; omega⟩⟩

/-! ### Places used -/

/-- The queue after an operation that uses at most `n` of the places secured. -/
structure Egress.Uses (n : Nat) (e e' : Egress) : Prop where
  inForm : e.InForm → n ≤ e.reserved → e'.InForm
  fewer : e'.reserved ≤ e.reserved
  most : e.reserved ≤ e'.reserved + n

theorem Egress.Uses.refl (e : Egress) : e.Uses 0 e := ⟨fun h _ => h, Nat.le_refl _, Nat.le_refl _⟩

theorem Egress.Uses.trans {m n : Nat} {e₁ e₂ e₃ : Egress} (h : e₁.Uses m e₂) (k : e₂.Uses n e₃) :
    e₁.Uses (m + n) e₃ := by
  have hmost := h.most
  have kmost := k.most
  exact ⟨fun hf hr => k.inForm (h.inForm hf (by omega)) (by omega), Nat.le_trans k.fewer h.fewer, by omega⟩

theorem Egress.Uses.mono {m n : Nat} {e e' : Egress} (h : e.Uses m e') (hmn : m ≤ n) : e.Uses n e' :=
  ⟨fun hf hr => h.inForm hf (Nat.le_trans hmn hr), h.fewer, Nat.le_trans h.most (Nat.add_le_add_left hmn _)⟩

theorem Egress.report_uses (e : Egress) (m : Report) : e.Uses 0 (e.report m) :=
  ⟨fun h _ => Egress.report_inForm h m, Nat.le_of_eq (e.report_reserved m), Nat.le_of_eq (e.report_reserved m).symm⟩

theorem Egress.Told.uses {e e' : Egress} (h : e.Told e') : e.Uses 0 e' := by
  obtain ⟨ms, rfl⟩ := h
  exact foldl_related Egress.Uses.refl Egress.Uses.trans (fun e m => e.report_uses m) ms e

theorem Egress.urgent_reserved (e : Egress) (m : Outbound) : (e.urgent m).reserved = e.reserved := by
  unfold Egress.urgent
  split
  · rfl
  · split <;> rfl

theorem Egress.urgent_uses (e : Egress) (m : Outbound) : e.Uses 0 (e.urgent m) :=
  ⟨fun h _ => Egress.urgent_inForm h m, Nat.le_of_eq (e.urgent_reserved m), Nat.le_of_eq (e.urgent_reserved m).symm⟩

theorem Egress.push_uses (e : Egress) (m : Outbound) : e.Uses 1 (e.push m) := by
  refine ⟨fun h hr => h.append m ?_, Nat.sub_le _ _, ?_⟩
  · have hroom := h.room
    omega
  · show e.reserved ≤ e.reserved - 1 + 1
    omega

theorem Egress.advanced_uses (e : Egress) : e.Uses 0 e.advanced := by
  have hres : e.advanced.reserved = e.reserved := by rw [Egress.advanced_eq]
  exact ⟨fun h _ => Egress.advanced_inForm h, Nat.le_of_eq hres, Nat.le_of_eq hres.symm⟩

end Sys2Proof.Machine
end

section
/-!
SUPPORT. Deck F while the running order and the program decks act: where it is EMPTY it stays EMPTY (R165, R166).
-/

namespace Sys2Proof.Machine

/-! ### Deck F left EMPTY -/

/-- Deck F, where it is EMPTY, stays EMPTY. -/
structure Rig.SparesF (r r' : Rig) : Prop where
  stays : (r.deck deckF).state = .empty → (r'.deck deckF).state = .empty

theorem Rig.SparesF.refl (r : Rig) : r.SparesF r := ⟨id⟩

theorem Rig.SparesF.trans {r₁ r₂ r₃ : Rig} (h : r₁.SparesF r₂) (k : r₂.SparesF r₃) : r₁.SparesF r₃ :=
  ⟨fun he => k.stays (h.stays he)⟩

theorem Rig.sparesF_of_decks {r r' : Rig} (h : r'.decks.decks = r.decks.decks) : r.SparesF r' := by
  refine ⟨?_⟩
  unfold Rig.deck
  rw [h]
  exact id

theorem ne_deckF_of_program {d : DeckId} (h : isProgramDeck d = true) : d ≠ deckF := by
  rintro rfl
  cases h

theorem mem_programDecks {d : DeckId} (h : d ∈ programDecks) : isProgramDeck d = true := by
  revert d
  decide

/-- Another deck set, or deck F made EMPTY. -/
theorem Rig.setDeck_sparesF (r : Rig) {d : DeckId} {x : Deck} (h : d = deckF → x.state = .empty) :
    r.SparesF (r.setDeck d x) := by
  refine ⟨fun he => ?_⟩
  rw [Rig.deck_setDeck]
  split
  · exact h ‹_›
  · exact he

/-- A deck other than deck F is set, or deck F while it is not EMPTY. -/
theorem Rig.setDeck_sparesF_of_busy (r : Rig) {d : DeckId} (x : Deck) (h : d = deckF → (r.deck deckF).state ≠ .empty) :
    r.SparesF (r.setDeck d x) := by
  refine ⟨fun he => ?_⟩
  rw [Rig.deck_setDeck]
  split
  · exact absurd he (h ‹_›)
  · exact he

theorem Rig.unloadDeck_sparesF (r : Rig) (d : DeckId) : r.SparesF (r.unloadDeck d) := r.setDeck_sparesF fun _ => rfl

theorem Rig.loadDeck_sparesF (r : Rig) {d : DeckId} (hd : d ≠ deckF) (q : LoadRequest) : r.SparesF (r.loadDeck d q) := by
  unfold Rig.loadDeck
  split <;> exact r.setDeck_sparesF fun h => absurd h hd

theorem Rig.setEntries_sparesF (r : Rig) (es : List Entry) : r.SparesF (r.setEntries es) := Rig.sparesF_of_decks rfl

theorem Rig.updateEntry_sparesF (r : Rig) (tag : Nat) (f : Entry → Entry) : r.SparesF (r.updateEntry tag f) :=
  Rig.sparesF_of_decks rfl

theorem Rig.report_sparesF (r : Rig) (m : Report) : r.SparesF (r.report m) := Rig.sparesF_of_decks rfl

theorem Rig.reports_sparesF (r : Rig) (ms : List Report) : r.SparesF (r.reports ms) := by
  rw [Rig.reports_eq]
  exact Rig.sparesF_of_decks rfl

theorem Rig.finishDeck_sparesF (r : Rig) {d : DeckId} (hd : d ≠ deckF) (c : EndCause) : r.SparesF (r.finishDeck d c) :=
  (r.setDeck_sparesF fun h => absurd h hd).trans (Rig.report_sparesF _ _)

theorem Rig.unloadDeck_state (r : Rig) (d : DeckId) : ((r.unloadDeck d).deck d).state = .empty := by
  unfold Rig.unloadDeck
  rw [Rig.deck_setDeck, if_pos rfl]
  rfl

theorem Rig.emptyDeck_state (r : Rig) (d : DeckId) : ((r.emptyDeck d).deck d).state = .empty := by
  unfold Rig.emptyDeck
  split
  · assumption
  all_goals exact Rig.unloadDeck_state _ d

theorem Rig.emptyDeck_sparesF (r : Rig) (d : DeckId) : r.SparesF (r.emptyDeck d) := by
  by_cases hd : d = deckF
  · subst hd
    exact ⟨fun _ => r.emptyDeck_state deckF⟩
  · have cut := (r.finishDeck_sparesF hd .cut).trans (Rig.unloadDeck_sparesF _ d)
    unfold Rig.emptyDeck
    split
    · exact .refl r
    · exact cut
    · exact cut
    · exact cut
    all_goals exact r.unloadDeck_sparesF d

theorem Rig.releaseDeck_sparesF (r : Rig) (d : DeckId) : r.SparesF (r.releaseDeck d) := by
  have gone := (r.setEntries_sparesF (withoutTag r.order.entries (r.deck d).entryTag)).trans
    (Rig.unloadDeck_sparesF _ d)
  unfold Rig.releaseDeck
  dsimp only
  split <;> exact gone.trans (Rig.report_sparesF _ _)

theorem Rig.endDeck_sparesF (r : Rig) {d : DeckId} (hd : d ≠ deckF) (c : EndCause) : r.SparesF (r.endDeck d c) := by
  unfold Rig.endDeck
  split
  · exact (r.finishDeck_sparesF hd c).trans (Rig.releaseDeck_sparesF _ d)
  · exact r.finishDeck_sparesF hd c

theorem Rig.cutDeck_sparesF (r : Rig) {d : DeckId} (hd : d ≠ deckF) : r.SparesF (r.cutDeck d) := by
  unfold Rig.cutDeck
  split
  · exact ((r.setEntries_sparesF _).trans (Rig.unloadDeck_sparesF _ d)).trans (Rig.report_sparesF _ _)
  · exact r.endDeck_sparesF hd .cut

theorem Rig.oldestAudible_program {r : Rig} {d : DeckId} (h : r.oldestAudible = some d) : isProgramDeck d = true := by
  have holds (l : List DeckId) (hl : ∀ x ∈ l, isProgramDeck x = true) (best : Option DeckId)
      (hbest : ∀ b, best = some b → isProgramDeck b = true) :
      ∀ b, l.foldl (fun best d => match best with
        | none => some d
        | some b => if serialGreater (r.deck b).audibleOrder (r.deck d).audibleOrder then some d
          else some b) best = some b → isProgramDeck b = true := by
    induction l generalizing best with
    | nil => exact hbest
    | cons x l ih =>
      refine ih (fun y hy => hl y (List.mem_cons_of_mem _ hy)) _ fun b hb => ?_
      have hx := hl x (List.mem_cons_self ..)
      dsimp only at hb
      split at hb
      · cases hb
        exact hx
      · split at hb
        · cases hb
          exact hx
        · exact hbest b hb
  exact holds _ (fun x hx => mem_programDecks (List.mem_of_mem_filter hx)) none nofun d h

theorem Rig.audibleRule_sparesF (r : Rig) : r.SparesF r.audibleRule := by
  unfold Rig.audibleRule
  split
  · exact .refl r
  · split
    · exact r.endDeck_sparesF (ne_deckF_of_program (Rig.oldestAudible_program ‹_›)) .cut
    · exact .refl r

theorem Rig.makeAudible_sparesF (r : Rig) {d : DeckId} (hd : d ≠ deckF) (f : Deck → Nat → Deck) :
    r.SparesF (r.makeAudible d f) :=
  (r.setDeck_sparesF fun h => absurd h hd).trans (Rig.sparesF_of_decks rfl)

/-- START of a deck other than deck F, or of deck F while it is not EMPTY. -/
theorem Rig.startDeck_sparesF (r : Rig) {d : DeckId} (hd : d = deckF → (r.deck deckF).state ≠ .empty) :
    r.SparesF (r.startDeck d) := by
  by_cases hF : d = deckF
  · exact ⟨fun he => absurd he (hd hF)⟩
  · unfold Rig.startDeck
    refine Rig.SparesF.trans ?_ (Rig.makeAudible_sparesF _ hF _)
    split
    · exact r.audibleRule_sparesF
    · exact .refl r

theorem Rig.resumeDeck_sparesF (r : Rig) {d : DeckId} (hd : d ≠ deckF) : r.SparesF (r.resumeDeck d) :=
  r.audibleRule_sparesF.trans (Rig.makeAudible_sparesF _ hd _)

theorem Rig.fadeDeck_sparesF (r : Rig) {d : DeckId} (hd : d ≠ deckF) (frames : Nat) : r.SparesF (r.fadeDeck d frames) := by
  unfold Rig.fadeDeck
  dsimp only
  split
  · exact .refl r
  · split
    · exact r.endDeck_sparesF hd .played
    · exact r.setDeck_sparesF fun h => absurd h hd

theorem Rig.startEntry_sparesF (r : Rig) {e : Entry} (cause : StartCause)
    (he : ∀ d, e.deck = some d → (r.deck d).state ≠ .empty) : r.SparesF (r.startEntry e cause) := by
  unfold Rig.startEntry
  split
  · exact .refl r
  · refine (r.startDeck_sparesF fun hF => ?_).trans (Rig.sparesF_of_decks rfl)
    exact hF ▸ he _ ‹_›

theorem Rig.assignOne_sparesF {r r' : Rig} (h : r.assignOne = some r') : r.SparesF r' := by
  unfold Rig.assignOne at h
  split at h
  · cases h
  · split at h
    · rename_i d _ hd
      split at h
      · cases h
        have hprogram := mem_programDecks (List.mem_of_find?_eq_some hd)
        exact (r.updateEntry_sparesF _ _).trans (Rig.loadDeck_sparesF _ (ne_deckF_of_program hprogram) _)
      · cases h
    · cases h

theorem Rig.displace_sparesF (r : Rig) (e : Entry) : r.SparesF (r.displace e) := by
  unfold Rig.displace
  split
  · exact r.updateEntry_sparesF _ _
  · exact ((r.unloadDeck_sparesF _).trans (Rig.updateEntry_sparesF _ _ _)).trans (Rig.report_sparesF _ _)

theorem Rig.arrangeFor_sparesF (n : Nat) (r : Rig) : r.SparesF (r.arrangeFor n) := by
  induction n generalizing r with
  | zero => exact .refl r
  | succ n ih =>
    unfold Rig.arrangeFor
    split
    · exact (Rig.assignOne_sparesF ‹_›).trans (ih _)
    · split
      · split
        · exact (r.displace_sparesF _).trans (ih _)
        · exact .refl r
      · exact .refl r

theorem Rig.unloadEntries_sparesF (r : Rig) (es : List Entry) : r.SparesF (r.unloadEntries es) := by
  induction es generalizing r with
  | nil => exact .refl r
  | cons e es ih =>
    unfold Rig.unloadEntries
    split
    · split
      · exact (r.unloadDeck_sparesF _).trans (ih _)
      · exact ih r
    · exact ih r

theorem Rig.fadeAudible_sparesF (r : Rig) (frames : Nat) {ds : List DeckId} (hds : ∀ d ∈ ds, d ≠ deckF) :
    r.SparesF (r.fadeAudible frames ds) := by
  induction ds generalizing r with
  | nil => exact .refl r
  | cons d ds ih =>
    unfold Rig.fadeAudible
    refine Rig.SparesF.trans ?_ (ih _ fun x hx => hds x (List.mem_cons_of_mem _ hx))
    split
    · exact r.fadeDeck_sparesF (hds d (List.mem_cons_self ..)) frames
    · exact .refl r

theorem Rig.skipTo_sparesF (r : Rig) (e : Entry) : r.SparesF (r.skipTo e) := by
  refine Rig.SparesF.trans ?_ (Rig.updateEntry_sparesF _ _ _)
  refine Rig.SparesF.trans ?_ (Rig.fadeAudible_sparesF _ 24000 fun d hd => ne_deckF_of_program (mem_programDecks hd))
  exact ((r.unloadEntries_sparesF _).trans (Rig.setEntries_sparesF _ _)).trans (Rig.reports_sparesF _ _)

theorem Rig.makeSkip_sparesF (r : Rig) : r.SparesF r.makeSkip := by
  unfold Rig.makeSkip
  split
  · exact .refl r
  · split
    · exact r.skipTo_sparesF _
    · exact .refl r

/-- An entry that can start now stands on a CUED deck. -/
theorem Rig.startable_cued {r : Rig} {e : Entry} (h : r.startable = some e) {d : DeckId} (hd : e.deck = some d) :
    (r.deck d).state ≠ .empty := by
  unfold Rig.startable at h
  split at h
  · cases h
  · split at h
    · cases h
    · split at h
      · cases h
      · split at h
        · rename_i hcued
          cases h
          cases ‹_ = some _›.symm.trans hd
          simp only [Bool.and_eq_true, beq_iff_eq] at hcued
          rw [hcued.1.2]
          nofun
        · cases h

theorem Rig.startDue_sparesF (n : Nat) (r : Rig) : r.SparesF (r.startDue n) := by
  induction n generalizing r with
  | zero => exact .refl r
  | succ n ih =>
    unfold Rig.startDue
    split
    · rename_i e he
      exact ((r.startEntry_sparesF _ fun _ hd => Rig.startable_cued he hd).trans (Rig.arrangeFor_sparesF _ _)).trans
        (ih _)
    · exact .refl r

theorem Rig.settle_sparesF (r : Rig) : r.SparesF r.settle :=
  (r.makeSkip_sparesF.trans (Rig.startDue_sparesF _ _)).trans (Rig.arrangeFor_sparesF _ _)

theorem Rig.assignThenSettle_sparesF (r : Rig) : r.SparesF r.assignThenSettle :=
  (r.arrangeFor_sparesF _).trans (Rig.settle_sparesF _)

theorem Rig.orderPrefetched_sparesF (r : Rig) (d : DeckId) : r.SparesF (r.orderPrefetched d) := by
  unfold Rig.orderPrefetched
  split
  · rename_i e he
    split
    · refine Rig.SparesF.trans (r₂ := if e.mode = .segue then r.report (.deckLateStart d e.tag) else r) ?_
        ((Rig.startEntry_sparesF _ _ fun _ hd => ?_).trans (Rig.assignThenSettle_sparesF _))
      · split
        · exact r.report_sparesF _
        · exact .refl r
      · split <;> exact Rig.startable_cued he hd
    · exact r.settle_sparesF
  · exact r.settle_sparesF

theorem Rig.alertPause_sparesF (r : Rig) : r.SparesF r.alertPause := by
  have step (r : Rig) (d : DeckId) :
      r.SparesF (if (r.deck d).audible then r.setDeck d ((r.deck d).paused true) else r) := by
    split
    · refine r.setDeck_sparesF_of_busy _ fun hd he => ?_
      subst hd
      simp_all [Deck.audible]
    · exact .refl r
  exact foldl_related Rig.SparesF.refl Rig.SparesF.trans step programDecks r

theorem Rig.alertResume_sparesF (r : Rig) : r.SparesF r.alertResume := by
  have step (r : Rig) (d : DeckId) :
      r.SparesF (if (r.deck d).state == .paused then r.resumeDeck d else r) := by
    split
    · rename_i hpaused
      by_cases hd : d = deckF
      · subst hd
        exact ⟨fun he => by simp_all⟩
      · exact r.resumeDeck_sparesF hd
    · exact .refl r
  exact (foldl_related Rig.SparesF.refl Rig.SparesF.trans step _ r).trans (Rig.settle_sparesF _)

theorem Rig.sendSegue_sparesF (r : Rig) {d : DeckId} (hd : d = deckF → (r.deck deckF).state ≠ .empty) :
    r.SparesF (r.sendSegue d) := by
  unfold Rig.sendSegue
  split
  · exact ((r.setDeck_sparesF_of_busy _ hd).trans (Rig.updateEntry_sparesF _ _ _)).trans (Rig.settle_sparesF _)
  · exact .refl r

end Sys2Proof.Machine
end

section
/-!
SUPPORT. The Air Switch's law where the owner is evaluated (R160 to R166), and what leaves it as it stands.
-/

namespace Sys2Proof.Machine

/-! ### The owner's law in parts -/

/-- A crossfade runs between two inputs with its weight below its span, and the two lengths are in range. -/
structure AirSwitch.InForm (a : AirSwitch) : Prop where
  apart : a.outgoing ≠ some a.owner
  below : a.outgoing ≠ none → a.weight < a.span
  weight : a.weight ≤ a.span
  spanLow : 48 ≤ a.span
  spanHigh : a.span ≤ 4800
  fadeLow : 48 ≤ a.fadeLength
  fadeHigh : a.fadeLength ≤ 4800

/-- The owner's law but for the owner itself: what holds while an event has still to evaluate it (R162). -/
structure Rig.OwnerInForm (r : Rig) : Prop where
  fade : r.airSwitch.InForm
  deckF : r.airSwitch.usesFallback = false → (r.deck deckF).state = .empty

theorem AirSwitch.usesFallback_eq_false (a : AirSwitch) :
    a.usesFallback = false ↔ a.owner ≠ .fallback ∧ a.outgoing ≠ some .fallback := by
  unfold AirSwitch.usesFallback
  rw [Bool.or_eq_false_iff, beq_eq_false_iff_ne, beq_eq_false_iff_ne]

theorem Rig.ownerLaw_iff (r : Rig) : r.ownerLaw ↔ r.airSwitch.owner = r.evaluatedOwner ∧ r.OwnerInForm := by
  have hevaluated : r.evaluatedOwner = (if r.airSwitch.runFlag = true then .alert
      else if r.monitors.acts dlySilence = true ∧ r.airSwitch.fallbackEnable = true then .fallback
      else .program) := by
    simp only [Rig.evaluatedOwner, Bool.and_eq_true]
  rw [hevaluated]
  refine ⟨fun ⟨howner, h1, h2, h3, h4, h5, h6, h7, hF⟩ => ⟨howner, ⟨h1, h2, h3, h4, h5, h6, h7⟩, fun hu => ?_⟩,
    fun ⟨howner, hform, hF⟩ => ⟨howner, hform.apart, hform.below, hform.weight, hform.spanLow, hform.spanHigh,
      hform.fadeLow, hform.fadeHigh, fun hn ho => hF ((AirSwitch.usesFallback_eq_false _).mpr ⟨hn, ho⟩)⟩⟩
  obtain ⟨hn, ho⟩ := (AirSwitch.usesFallback_eq_false _).mp hu
  exact hF hn ho

/-- The evaluation reads the run flag, whether DLY-silence acts, and the fallback enable (R162). -/
theorem Rig.evaluatedOwner_congr {r r' : Rig} (hrun : r'.airSwitch.runFlag = r.airSwitch.runFlag)
    (hacts : r'.monitors.acts dlySilence = r.monitors.acts dlySilence)
    (henable : r'.airSwitch.fallbackEnable = r.airSwitch.fallbackEnable) : r'.evaluatedOwner = r.evaluatedOwner := by
  unfold Rig.evaluatedOwner
  rw [hrun, hacts, henable]

/-- The rig after operations that leave the switch and whether DLY-silence acts, and deck F where it is EMPTY. -/
structure Rig.OwnerStays (r r' : Rig) : Prop where
  airSwitch : r'.airSwitch = r.airSwitch
  acts : r'.monitors.acts dlySilence = r.monitors.acts dlySilence
  deckF : r.SparesF r'

theorem Rig.OwnerStays.refl (r : Rig) : r.OwnerStays r := ⟨rfl, rfl, .refl r⟩

theorem Rig.OwnerStays.trans {r₁ r₂ r₃ : Rig} (h : r₁.OwnerStays r₂) (k : r₂.OwnerStays r₃) : r₁.OwnerStays r₃ :=
  ⟨k.airSwitch.trans h.airSwitch, k.acts.trans h.acts, h.deckF.trans k.deckF⟩

theorem Rig.OwnerStays.inForm {r r' : Rig} (h : r.OwnerStays r') (hf : r.OwnerInForm) : r'.OwnerInForm :=
  ⟨h.airSwitch.symm ▸ hf.fade, fun hu => h.deckF.stays (hf.deckF (h.airSwitch ▸ hu))⟩

theorem Rig.OwnerStays.evaluated {r r' : Rig} (h : r.OwnerStays r') : r'.evaluatedOwner = r.evaluatedOwner :=
  Rig.evaluatedOwner_congr (congrArg AirSwitch.runFlag h.airSwitch) h.acts (congrArg AirSwitch.fallbackEnable h.airSwitch)

theorem Rig.OwnerStays.law {r r' : Rig} (h : r.OwnerStays r') (hl : r.ownerLaw) : r'.ownerLaw := by
  obtain ⟨howner, hf⟩ := r.ownerLaw_iff.mp hl
  exact r'.ownerLaw_iff.mpr ⟨by rw [h.airSwitch, h.evaluated, howner], h.inForm hf⟩

/-- Operations of the running order and the decks that spare deck F. -/
theorem Rig.Ordered.ownerStays {r r' : Rig} (h : r.Ordered r') (hF : r.SparesF r') : r.OwnerStays r' :=
  ⟨h.airSwitch, congrArg (Monitors.acts · dlySilence) h.monitors, hF⟩

/-! ### The evaluation -/

theorem Rig.loadFallback_ordered (r : Rig) : r.Ordered r.loadFallback := by
  unfold Rig.loadFallback
  split
  · exact r.report_ordered _
  · split
    · exact r.loadDeck_ordered _ _
    all_goals exact r.report_ordered _

theorem Rig.serveFallback_ordered (r : Rig) (was : Bool) : r.Ordered (r.serveFallback was) := by
  unfold Rig.serveFallback
  split
  · split
    · exact r.loadFallback_ordered
    · split
      · exact .refl r
      · exact (r.emptyDeck_ordered deckF).trans (Rig.loadFallback_ordered _)
  · split
    · exact r.emptyDeck_ordered deckF
    · exact .refl r

/-- Deck F is EMPTY once FALLBACK is in use no longer, where it was EMPTY while FALLBACK was not in use (R166). -/
theorem Rig.serveFallback_deckF (r : Rig) {was : Bool} (hwas : was = false → (r.deck deckF).state = .empty)
    (hnow : r.airSwitch.usesFallback = false) : ((r.serveFallback was).deck deckF).state = .empty := by
  obtain ⟨howner, -⟩ := (AirSwitch.usesFallback_eq_false _).mp hnow
  unfold Rig.serveFallback
  rw [if_neg howner, hnow]
  cases was with
  | true => exact r.emptyDeck_state deckF
  | false => exact hwas rfl

/-- A change of owner begins a crossfade from the old owner, or turns the one in flight (R163, R164). -/
theorem AirSwitch.changed_inForm {a : AirSwitch} (h : a.InForm) {new : AirOwner} (hnew : new ≠ a.owner) :
    (a.changed new).InForm := by
  obtain ⟨hapart, hbelow, hweight, hlow, hhigh, hfl, hfh⟩ := h
  unfold AirSwitch.changed
  split
  · exact ⟨fun h => hnew (Option.some.inj h).symm, fun _ => by dsimp only; omega, by dsimp only; omega, hfl, hfh, hfl,
      hfh⟩
  · rename_i old hold
    have hlt := hbelow (by rw [hold]; nofun)
    split
    · exact ⟨nofun, fun hn => absurd rfl hn, Nat.le_refl _, hlow, hhigh, hfl, hfh⟩
    · exact ⟨fun h => hnew (Option.some.inj h).symm, fun _ => by dsimp only; omega, by dsimp only; omega, hlow, hhigh,
        hfl, hfh⟩

theorem AirSwitch.changed_keeps (a : AirSwitch) (new : AirOwner) : (a.changed new).owner = new ∧
    (a.changed new).runFlag = a.runFlag ∧ (a.changed new).fallbackEnable = a.fallbackEnable := by
  unfold AirSwitch.changed
  split
  · exact ⟨rfl, rfl, rfl⟩
  · split <;> exact ⟨rfl, rfl, rfl⟩

theorem Rig.changeOwner_airSwitch (r : Rig) (new : AirOwner) (c : OwnerCause) :
    (r.changeOwner new c).airSwitch = r.airSwitch.changed new := (Rig.serveFallback_ordered _ _).airSwitch

theorem Rig.changeOwner_keeps (r : Rig) (new : AirOwner) (c : OwnerCause) :
    (r.changeOwner new c).monitors = r.monitors ∧ (r.changeOwner new c).alerts = r.alerts :=
  ⟨(Rig.serveFallback_ordered _ _).monitors, (Rig.serveFallback_ordered _ _).alerts⟩

/-- What the evaluation of the owner leaves (R162). -/
theorem Rig.evaluateOwner_keeps (r : Rig) (c : OwnerCause) : (r.evaluateOwner c).monitors = r.monitors ∧
    (r.evaluateOwner c).alerts = r.alerts ∧ (r.evaluateOwner c).airSwitch.runFlag = r.airSwitch.runFlag := by
  unfold Rig.evaluateOwner
  split
  · exact ⟨rfl, rfl, rfl⟩
  · obtain ⟨hm, ha⟩ := r.changeOwner_keeps r.evaluatedOwner c
    obtain ⟨-, hrun, -⟩ := r.airSwitch.changed_keeps r.evaluatedOwner
    exact ⟨hm, ha, (congrArg AirSwitch.runFlag (r.changeOwner_airSwitch _ c)).trans hrun⟩

/-- Once the owner is evaluated the whole law stands. -/
theorem Rig.evaluateOwner_ownerLaw {r : Rig} (h : r.OwnerInForm) (c : OwnerCause) : (r.evaluateOwner c).ownerLaw := by
  unfold Rig.evaluateOwner
  split
  · exact r.ownerLaw_iff.mpr ⟨Eq.symm ‹_›, h⟩
  · rename_i hnew
    have hswitch := r.changeOwner_airSwitch r.evaluatedOwner c
    obtain ⟨howner, hrun, henable⟩ := r.airSwitch.changed_keeps r.evaluatedOwner
    obtain ⟨hmonitors, -⟩ := r.changeOwner_keeps r.evaluatedOwner c
    refine (Rig.ownerLaw_iff _).mpr ⟨?_, hswitch ▸ AirSwitch.changed_inForm h.fade hnew, fun hu => ?_⟩
    · refine (congrArg AirSwitch.owner hswitch).trans (howner.trans (Rig.evaluatedOwner_congr ?_ ?_ ?_).symm)
      · rw [hswitch, hrun]
      · rw [hmonitors]
      · rw [hswitch, henable]
    · exact Rig.serveFallback_deckF _ h.deckF (hswitch ▸ hu)

/-! ### The switch's own operations -/

/-- The rig with the run flag set or cleared, the owner not yet evaluated. -/
def Rig.withRun (r : Rig) (run : Bool) : Rig := { r with airSwitch := { r.airSwitch with runFlag := run } }

theorem Rig.OwnerInForm.withRun {r : Rig} (h : r.OwnerInForm) (run : Bool) : (r.withRun run).OwnerInForm :=
  ⟨⟨h.fade.apart, h.fade.below, h.fade.weight, h.fade.spanLow, h.fade.spanHigh, h.fade.fadeLow, h.fade.fadeHigh⟩,
    h.deckF⟩

theorem AirSwitch.faded_inForm {a : AirSwitch} (h : a.InForm) : a.faded.InForm := by
  obtain ⟨hapart, hbelow, hweight, hlow, hhigh, hfl, hfh⟩ := h
  unfold AirSwitch.faded
  split
  · exact ⟨hapart, hbelow, hweight, hlow, hhigh, hfl, hfh⟩
  · split
    · exact ⟨nofun, fun hn => absurd rfl hn, Nat.le_refl _, hlow, hhigh, hfl, hfh⟩
    · exact ⟨hapart, fun _ => by dsimp only; omega, by dsimp only; omega, hlow, hhigh, hfl, hfh⟩

theorem AirSwitch.faded_keeps (a : AirSwitch) : a.faded.owner = a.owner ∧ a.faded.runFlag = a.runFlag ∧
    a.faded.fallbackEnable = a.fallbackEnable := by
  unfold AirSwitch.faded
  split
  · exact ⟨rfl, rfl, rfl⟩
  · split <;> exact ⟨rfl, rfl, rfl⟩

/-- The switch's frame before deck F is served. -/
def Rig.fadeStepped (r : Rig) : Rig := { r with airSwitch := r.airSwitch.faded }

theorem Rig.switchFaded_eq (r : Rig) : r.switchFaded =
    if r.airSwitch.usesFallback && !r.airSwitch.faded.usesFallback then r.fadeStepped.emptyDeck deckF
    else r.fadeStepped := rfl

theorem Rig.switchFaded_ordered (r : Rig) : r.fadeStepped.Ordered r.switchFaded := by
  rw [Rig.switchFaded_eq]
  split
  · exact Rig.emptyDeck_ordered _ deckF
  · exact .refl _

theorem Rig.switchFaded_ownerLaw {r : Rig} (h : r.ownerLaw) : r.switchFaded.ownerLaw := by
  obtain ⟨howner, hf⟩ := r.ownerLaw_iff.mp h
  have hordered := r.switchFaded_ordered
  have hswitch : r.switchFaded.airSwitch = r.airSwitch.faded := hordered.airSwitch
  have hmonitors : r.switchFaded.monitors = r.monitors := hordered.monitors
  obtain ⟨hsame, hrun, henable⟩ := r.airSwitch.faded_keeps
  refine (Rig.ownerLaw_iff _).mpr ⟨?_, hswitch ▸ AirSwitch.faded_inForm hf.fade, fun hu => ?_⟩
  · refine ((congrArg AirSwitch.owner hswitch).trans (hsame.trans howner)).trans
      (Rig.evaluatedOwner_congr ?_ ?_ ?_).symm
    · rw [hswitch, hrun]
    · rw [hmonitors]
    · rw [hswitch, henable]
  · rw [hswitch] at hu
    rw [Rig.switchFaded_eq, hu]
    cases hwas : r.airSwitch.usesFallback with
    | true => exact Rig.emptyDeck_state _ deckF
    | false => exact hf.deckF hwas

end Sys2Proof.Machine
end

section
/-!
SUPPORT. The alerts' law in parts: recorders bound to the targets that record (R42, R48), and the airing record and the
queue (R151, R152), with the operations that keep the parts.
-/

namespace Sys2Proof.Machine

/-! ### Recorders and the targets that record -/

/-- The target of a binding is RECORDING. -/
def Rig.targetRecords (r : Rig) : Binding → Prop
  | .free => False
  | .cart c => (r.cart c).state = .recording
  | .alert i => (r.record i).state = .recording

/-- A target is RECORDING exactly while a recorder is bound to it, and then one alone. -/
structure Rig.BindingsRight (r : Rig) : Prop where
  target : ∀ b, b ≠ .free → (r.targetRecords b ↔ ∃ k, (r.recorder k).binding = b)
  single : ∀ j k, (r.recorder j).binding = (r.recorder k).binding → (r.recorder j).binding ≠ .free → j = k

/-- The rig with the same targets RECORDING and the same recorders bound to them. -/
theorem Rig.BindingsRight.congr {r r' : Rig} (h : r.BindingsRight)
    (ht : ∀ b, b ≠ .free → (r'.targetRecords b ↔ r.targetRecords b))
    (hk : ∀ k, (r'.recorder k).binding = (r.recorder k).binding) : r'.BindingsRight := by
  refine ⟨fun b hb => ?_, fun j k => ?_⟩
  · simp only [hk]
    exact (ht b hb).trans (h.target b hb)
  · simp only [hk]
    exact h.single j k

/-- A recorder is freed, and its target records no longer. -/
theorem Rig.BindingsRight.freed {r r' : Rig} (h : r.BindingsRight) {k : RecorderId} {b : Binding}
    (hkb : (r.recorder k).binding = b) (hb : b ≠ .free)
    (ht : ∀ x, x ≠ .free → (r'.targetRecords x ↔ r.targetRecords x ∧ x ≠ b))
    (hk : ∀ j, (r'.recorder j).binding = if k = j then .free else (r.recorder j).binding) : r'.BindingsRight := by
  refine ⟨fun x hx => ?_, fun i j hij hi => ?_⟩
  · rw [ht x hx, h.target x hx]
    refine ⟨fun ⟨⟨j, hj⟩, hxb⟩ => ⟨j, ?_⟩, fun ⟨j, hj⟩ => ?_⟩
    · rw [hk, if_neg fun hkj => hxb (by rw [← hj, ← hkj, hkb])]
      exact hj
    · rw [hk] at hj
      split at hj
      · exact absurd hj.symm hx
      · rename_i hkj
        refine ⟨⟨j, hj⟩, fun hxb => hkj (h.single k j ?_ ?_)⟩
        · rw [hkb, hj, hxb]
        · rw [hkb]
          exact hb
  · rw [hk] at hi
    rw [hk, hk] at hij
    split at hi
    · exact absurd rfl hi
    · rw [if_neg ‹_›] at hij
      split at hij
      · exact absurd hij hi
      · exact h.single i j hij hi

/-- A FREE recorder is bound to a target that begins to record. -/
theorem Rig.BindingsRight.bound {r r' : Rig} (h : r.BindingsRight) {k : RecorderId} {b : Binding}
    (hfree : (r.recorder k).binding = .free) (hb : b ≠ .free) (hnew : ¬ r.targetRecords b)
    (ht : ∀ x, x ≠ .free → (r'.targetRecords x ↔ r.targetRecords x ∨ x = b))
    (hk : ∀ j, (r'.recorder j).binding = if k = j then b else (r.recorder j).binding) : r'.BindingsRight := by
  have hunbound (j : RecorderId) : (r.recorder j).binding ≠ b := fun hj => hnew ((h.target b hb).mpr ⟨j, hj⟩)
  refine ⟨fun x hx => ?_, fun i j hij hi => ?_⟩
  · rw [ht x hx, h.target x hx]
    refine ⟨?_, fun ⟨j, hj⟩ => ?_⟩
    · rintro (⟨j, hj⟩ | rfl)
      · refine ⟨j, ?_⟩
        rw [hk, if_neg fun hkj => hx (by rw [← hj, ← hkj, hfree])]
        exact hj
      · exact ⟨k, by rw [hk, if_pos rfl]⟩
    · rw [hk] at hj
      split at hj
      · exact .inr hj.symm
      · exact .inl ⟨j, hj⟩
  · rw [hk] at hi
    rw [hk, hk] at hij
    by_cases hki : k = i
    · by_cases hkj : k = j
      · exact hki.symm.trans hkj
      · rw [if_pos hki, if_neg hkj] at hij
        exact absurd hij.symm (hunbound j)
    · rw [if_neg hki] at hi hij
      split at hij
      · exact absurd hij (hunbound i)
      · exact h.single i j hij hi

/-! ### The law in parts -/

/-- The alerts' law but for the queue: what holds while an event has still to air the head of the queue (R152). -/
structure Rig.AlertsInForm (r : Rig) : Prop where
  airing : ∀ i, (r.record i).state = .airing ↔ r.alerts.airing = some i
  runFlag : r.airSwitch.runFlag = r.alerts.airing.isSome
  bindings : r.BindingsRight

theorem Rig.alertLaw_iff (r : Rig) : r.alertLaw ↔ r.AlertsInForm ∧
    (r.alerts.airing = none → ∀ i, (r.record i).state ≠ .queued) := by
  refine ⟨fun ⟨hairing, hrun, hqueue, hrecord, hcart, hsingle⟩ => ⟨⟨hairing, hrun, fun b hb => ?_, hsingle⟩, hqueue⟩,
    fun ⟨⟨hairing, hrun, hbind⟩, hqueue⟩ => ⟨hairing, hrun, hqueue, fun i => hbind.target (.alert i) nofun,
      fun c => hbind.target (.cart c) nofun, hbind.single⟩⟩
  cases b with
  | free => exact absurd rfl hb
  | cart c => exact hcart c
  | alert i => exact hrecord i

/-- The rig after operations that leave every state that the alerts' law reads. -/
structure Rig.AlertsStay (r r' : Rig) : Prop where
  states : ∀ i, (r'.record i).state = (r.record i).state
  airing : r'.alerts.airing = r.alerts.airing
  runFlag : r'.airSwitch.runFlag = r.airSwitch.runFlag
  carts : ∀ c, (r'.cart c).state = (r.cart c).state
  bindings : ∀ k, (r'.recorder k).binding = (r.recorder k).binding

theorem Rig.AlertsStay.refl (r : Rig) : r.AlertsStay r := ⟨fun _ => rfl, rfl, rfl, fun _ => rfl, fun _ => rfl⟩

theorem Rig.AlertsStay.trans {r₁ r₂ r₃ : Rig} (h : r₁.AlertsStay r₂) (k : r₂.AlertsStay r₃) : r₁.AlertsStay r₃ :=
  ⟨fun i => (k.states i).trans (h.states i), k.airing.trans h.airing, k.runFlag.trans h.runFlag,
    fun c => (k.carts c).trans (h.carts c), fun j => (k.bindings j).trans (h.bindings j)⟩

theorem Rig.AlertsStay.inForm {r r' : Rig} (h : r.AlertsStay r') (hf : r.AlertsInForm) : r'.AlertsInForm := by
  refine ⟨fun i => ?_, ?_, hf.bindings.congr (fun b _ => ?_) h.bindings⟩
  · rw [h.states, h.airing]
    exact hf.airing i
  · rw [h.runFlag, h.airing]
    exact hf.runFlag
  · cases b with
    | free => exact Iff.rfl
    | cart c => exact iff_of_eq (congrArg (· = CartState.recording) (h.carts c))
    | alert i => exact iff_of_eq (congrArg (· = AlertState.recording) (h.states i))

theorem Rig.AlertsStay.law {r r' : Rig} (h : r.AlertsStay r') (hl : r.alertLaw) : r'.alertLaw := by
  obtain ⟨hf, hq⟩ := r.alertLaw_iff.mp hl
  refine r'.alertLaw_iff.mpr ⟨h.inForm hf, fun hidle i => ?_⟩
  rw [h.states]
  exact hq (h.airing ▸ hidle) i

/-- The same library, records, airing record and run flag. -/
theorem Rig.alertsStay_of {r r' : Rig} (hl : r'.library = r.library) (hr : r'.alerts.records = r.alerts.records)
    (ha : r'.alerts.airing = r.alerts.airing) (hrun : r'.airSwitch.runFlag = r.airSwitch.runFlag) : r.AlertsStay r' :=
  ⟨fun i => congrArg (fun v : Vector AlertRecord 16 => v[i].state) hr, ha, hrun,
    fun c => congrArg (fun l : Library => l.carts[c].state) hl,
    fun k => congrArg (fun l : Library => l.recorders[k].binding) hl⟩

theorem Rig.Ordered.alertsStay {r r' : Rig} (h : r.Ordered r') : r.AlertsStay r' :=
  Rig.alertsStay_of h.library (congrArg Alerts.records h.alerts) (congrArg Alerts.airing h.alerts)
    (congrArg AirSwitch.runFlag h.airSwitch)

/-! ### One record, one cart, one recorder set -/

theorem Rig.setRecord_targetRecords (r : Rig) (i : RecordId) (a : AlertRecord) (b : Binding) :
    (r.setRecord i a).targetRecords b ↔ if b = .alert i then a.state = .recording else r.targetRecords b := by
  cases b with
  | free => exact Iff.rfl
  | cart c => exact Iff.rfl
  | alert j =>
    show ((r.setRecord i a).record j).state = .recording ↔ _
    rw [Rig.record_setRecord]
    by_cases hij : i = j
    · rw [if_pos hij, if_pos (by rw [hij])]
    · rw [if_neg hij, if_neg fun h => hij (Binding.alert.inj h).symm]
      exact Iff.rfl

theorem Rig.setCart_targetRecords (r : Rig) (c : CartId) (x : Cart) (b : Binding) :
    (r.setCart c x).targetRecords b ↔ if b = .cart c then x.state = .recording else r.targetRecords b := by
  cases b with
  | free => exact Iff.rfl
  | alert i => exact Iff.rfl
  | cart d =>
    show ((r.setCart c x).cart d).state = .recording ↔ _
    rw [Rig.cart_setCart]
    by_cases hcd : c = d
    · rw [if_pos hcd, if_pos (by rw [hcd])]
    · rw [if_neg hcd, if_neg fun h => hcd (Binding.cart.inj h).symm]
      exact Iff.rfl

theorem Rig.setRecorder_binding (r : Rig) (k j : RecorderId) (x : Recorder) :
    ((r.setRecorder k x).recorder j).binding = if k = j then x.binding else (r.recorder j).binding := by
  rw [Rig.recorder_setRecorder]
  exact apply_ite Recorder.binding ..

theorem Rig.setRecorder_targetRecords (r : Rig) (k : RecorderId) (x : Recorder) (b : Binding) :
    (r.setRecorder k x).targetRecords b ↔ r.targetRecords b := by cases b <;> exact Iff.rfl

theorem Rig.bindRecorder_targetRecords (r : Rig) (k : RecorderId) (c : Binding) (src : RecordSource) (n : Nat)
    (b : Binding) : (r.bindRecorder k c src n).targetRecords b ↔ r.targetRecords b := by cases b <;> exact Iff.rfl

/-- Where no record but `i` has its state changed, and `i` neither leaves nor enters AIRING, the airing record stands. -/
theorem Rig.AlertsInForm.setRecord {r : Rig} (h : r.AlertsInForm) {i : RecordId} {a : AlertRecord}
    (hairing : a.state = .airing ↔ (r.record i).state = .airing)
    (hrecording : a.state = .recording ↔ (r.record i).state = .recording) : (r.setRecord i a).AlertsInForm := by
  refine ⟨fun j => ?_, h.runFlag, h.bindings.congr (fun b _ => ?_) fun _ => rfl⟩
  · rw [Rig.record_setRecord]
    split
    · rename_i hij
      subst hij
      exact hairing.trans (h.airing i)
    · exact h.airing j
  · rw [Rig.setRecord_targetRecords]
    split
    · rename_i hb
      subst hb
      exact hrecording
    · exact Iff.rfl

/-- A recording on recorder `k` of cart `c` is over. -/
theorem Rig.AlertsInForm.cartFreed {r : Rig} (h : r.AlertsInForm) {k : RecorderId} {c : CartId} {x : Cart}
    (hk : (r.recorder k).binding = .cart c) (hx : x.state ≠ .recording) :
    ((r.setCart c x).setRecorder k .free).AlertsInForm := by
  refine ⟨h.airing, h.runFlag, h.bindings.freed hk nofun (fun b _ => ?_) fun j =>
    (Rig.setRecorder_binding _ k j .free)⟩
  rw [Rig.setRecorder_targetRecords, Rig.setCart_targetRecords]
  split <;> simp_all

/-- A cart begins to record on a FREE recorder. -/
theorem Rig.AlertsInForm.cartBound {r : Rig} (h : r.AlertsInForm) {k : RecorderId} {c : CartId} {x : Cart}
    (hfree : (r.recorder k).binding = .free) (hnew : (r.cart c).state ≠ .recording) (hx : x.state = .recording)
    (src : RecordSource) (n : Nat) : ((r.setCart c x).bindRecorder k (.cart c) src n).AlertsInForm := by
  refine ⟨h.airing, h.runFlag, h.bindings.bound (b := .cart c) hfree nofun hnew (fun b _ => ?_) fun j =>
    (Rig.setRecorder_binding (r.setCart c x) k j _)⟩
  rw [Rig.bindRecorder_targetRecords, Rig.setCart_targetRecords]
  split <;> simp_all

/-- A recording of alert record `i` is over. -/
theorem Rig.AlertsInForm.alertFreed {r : Rig} (h : r.AlertsInForm) {i : RecordId} {a : AlertRecord}
    (hrecording : (r.record i).state = .recording) (ha : a.state ≠ .recording) (hair : a.state ≠ .airing) :
    ((r.freeAlertRecorder i).setRecord i a).AlertsInForm := by
  obtain ⟨k, hk⟩ := (h.bindings.target (.alert i) nofun).mp hrecording
  have hfound : ∃ j, r.recorderOf (.alert i) = some j := by
    rw [← Option.isSome_iff_exists]
    exact List.find?_isSome.mpr ⟨k, mem_allRecorders k, beq_iff_eq.mpr hk⟩
  obtain ⟨j, hj⟩ := hfound
  have hfreed : r.freeAlertRecorder i = r.setRecorder j .free := by
    unfold Rig.freeAlertRecorder
    rw [hj]
  rw [hfreed]
  refine ⟨fun x => ?_, h.runFlag, h.bindings.freed (Rig.recorderOf_binding hj) nofun (fun b _ => ?_) fun x =>
    Rig.setRecorder_binding r j x .free⟩
  · rw [Rig.record_setRecord]
    split
    · rename_i hix
      subst hix
      exact ⟨fun hst => absurd hst hair, fun hst => absurd (hrecording.symm.trans ((h.airing i).mpr hst)) nofun⟩
    · exact h.airing x
  · rw [Rig.setRecord_targetRecords, Rig.setRecorder_targetRecords]
    split <;> simp_all

/-- A record that neither airs nor records begins to record on a FREE recorder. -/
theorem Rig.AlertsInForm.alertBound {r r' : Rig} (h : r.AlertsInForm) {k : RecorderId} {i : RecordId} {a : AlertRecord}
    (hfree : (r.recorder k).binding = .free) (hair : (r.record i).state ≠ .airing)
    (hnew : (r.record i).state ≠ .recording) (ha : a.state = .recording) (src : RecordSource) (n : Nat)
    (hr' : (((r.bindRecorder k (.alert i) src n).setRecord i a).AlertsStay r')) : r'.AlertsInForm := by
  refine hr'.inForm ⟨fun j => ?_, h.runFlag, h.bindings.bound (b := .alert i) hfree nofun hnew (fun b _ => ?_)
    fun j => Rig.setRecorder_binding r k j _⟩
  · rw [Rig.record_setRecord]
    split
    · rename_i hij
      subst hij
      exact ⟨fun hst => absurd (ha.symm.trans hst) nofun, fun hst => absurd ((h.airing i).mpr hst) hair⟩
    · exact h.airing j
  · rw [Rig.setRecord_targetRecords, Rig.bindRecorder_targetRecords]
    split <;> simp_all

/-! ### The head of the queue -/

/-- The queue has a head exactly while a record is QUEUED (R151). -/
theorem Alerts.head_eq_none {a : Alerts} (h : a.head = none) (i : RecordId) : (a.records[i]).state ≠ .queued := by
  have some_stays (l : List RecordId) (b : RecordId) : ∃ x, l.foldl (fun best i => match best with
      | none => some i
      | some b => if a.records[i].queuesBefore a.records[b] then some i else some b) (some b) = some x := by
    induction l generalizing b with
    | nil => exact ⟨b, rfl⟩
    | cons j l ih =>
      rw [List.foldl_cons]
      dsimp only
      split
      · exact ih j
      · exact ih b
  intro hi
  have hmem : i ∈ allRecords.filter fun i => a.records[i].state == .queued :=
    List.mem_filter.mpr ⟨mem_allRecords i, beq_iff_eq.mpr hi⟩
  unfold Alerts.head at h
  cases hl : allRecords.filter fun i => a.records[i].state == .queued with
  | nil =>
    rw [hl] at hmem
    cases hmem
  | cons j l =>
    rw [hl] at h
    obtain ⟨x, hx⟩ := some_stays l j
    exact absurd (hx.symm.trans h) nofun

end Sys2Proof.Machine
end

section
/-!
SUPPORT. The alerts' and the owner's law through the operations of an event: what leaves both alone, where the owner is
evaluated, what an airing does, and the head of the queue that airs at the event's end (R151 to R155, R162).
-/

namespace Sys2Proof.Machine

/-! ### Operations that leave both laws as they stand -/

/-- The rig after operations that raise reports and leave all that the two laws read. -/
structure Rig.Steady (r r' : Rig) : Prop where
  told : r.egress.Told r'.egress
  alerts : r.AlertsStay r'
  owner : r.OwnerStays r'

theorem Rig.Steady.refl (r : Rig) : r.Steady r := ⟨.refl _, .refl r, .refl r⟩

theorem Rig.Steady.trans {r₁ r₂ r₃ : Rig} (h : r₁.Steady r₂) (k : r₂.Steady r₃) : r₁.Steady r₃ :=
  ⟨h.told.trans k.told, h.alerts.trans k.alerts, h.owner.trans k.owner⟩

theorem Rig.Ordered.steady {r r' : Rig} (h : r.Ordered r') (hF : r.SparesF r') : r.Steady r' :=
  ⟨h.told, h.alertsStay, h.ownerStays hF⟩

/-- Fields of the rig replaced that neither law reads. -/
theorem Rig.steady_of {r r' : Rig} (he : r.egress.Told r'.egress) (hl : r'.library = r.library)
    (hr : r'.alerts.records = r.alerts.records) (ha : r'.alerts.airing = r.alerts.airing)
    (hs : r'.airSwitch = r.airSwitch) (hm : r'.monitors.acts dlySilence = r.monitors.acts dlySilence)
    (hd : r'.decks.decks = r.decks.decks) : r.Steady r' :=
  ⟨he, Rig.alertsStay_of hl hr ha (congrArg AirSwitch.runFlag hs), ⟨hs, hm, Rig.sparesF_of_decks hd⟩⟩

theorem Rig.report_steady (r : Rig) (m : Report) : r.Steady (r.report m) :=
  (r.report_ordered m).steady (r.report_sparesF m)

theorem Rig.setDelay_steady (r : Rig) (d : Delay) : r.Steady { r with delay := d } :=
  Rig.steady_of (.refl _) rfl rfl rfl rfl rfl rfl

theorem Rig.setPart_steady (r : Rig) (p : Part) : r.Steady { r with alerts := { r.alerts with part := p } } :=
  Rig.steady_of (.refl _) rfl rfl rfl rfl rfl rfl

theorem Rig.setDecksPaused_steady (r : Rig) (b : Bool) :
    r.Steady { r with alerts := { r.alerts with decksPaused := b } } :=
  Rig.steady_of (.refl _) rfl rfl rfl rfl rfl rfl

theorem Rig.changeDelay_steady (r : Rig) (d : Delay) (cause : DelayCause) : r.Steady (r.changeDelay d cause) := by
  have stated : r.Steady (if r.delay.state = d.state then { r with delay := d }
      else ({ r with delay := d }).report (.delayState r.delay.state d.state d.length.toNat cause)) := by
    split
    · exact r.setDelay_steady d
    · exact (r.setDelay_steady d).trans (Rig.report_steady _ _)
  unfold Rig.changeDelay
  dsimp only
  split
  · exact stated
  · exact stated.trans (Rig.report_steady _ _)

theorem deckA_ne_deckF : deckA ≠ deckF := by decide

theorem Rig.emptyDeck_steady (r : Rig) (d : DeckId) : r.Steady (r.emptyDeck d) :=
  (r.emptyDeck_ordered d).steady (r.emptyDeck_sparesF d)

theorem Rig.unloadDeck_steady (r : Rig) (d : DeckId) : r.Steady (r.unloadDeck d) :=
  (r.unloadDeck_ordered d).steady (r.unloadDeck_sparesF d)

theorem Rig.loadPart_steady (r : Rig) (i : RecordId) (p : Part) : r.Steady (r.loadPart i p).1 := by
  unfold Rig.loadPart
  split
  · exact .refl r
  · split
    · rename_i source _ _ _
      exact ((r.loadDeck_ordered deckA (.plain source (r.record i).recordedLength)).steady
        (r.loadDeck_sparesF deckA_ne_deckF _)).trans (Rig.setPart_steady _ p)
    · split
      · exact r.report_steady _
      · exact .refl r

theorem Rig.loadFirstPart_steady (r : Rig) (i : RecordId) : r.Steady (r.loadFirstPart i) := by
  unfold Rig.loadFirstPart
  dsimp only
  split
  · exact r.loadPart_steady i .leadIn
  · exact (r.loadPart_steady i .leadIn).trans (Rig.loadPart_steady _ i .slot)

theorem Rig.settle_steady (r : Rig) : r.Steady r.settle := r.settle_ordered.steady r.settle_sparesF

theorem Rig.orderSeconds_steady (r : Rig) (now : Nat) : r.Steady (r.orderSeconds now) :=
  (r.orderSeconds_ordered now).steady ((r.setEntries_sparesF _).trans (Rig.settle_sparesF _))

/-! ### The owner evaluated -/

/-- The rig after operations that raise reports, leave what the alerts' law reads, and evaluate the owner. -/
structure Rig.Evaluated (r r' : Rig) : Prop where
  told : r.egress.Told r'.egress
  alerts : r.AlertsStay r'
  owner : r.OwnerInForm → r'.ownerLaw

theorem Rig.Evaluated.steady {r₁ r₂ r₃ : Rig} (h : r₁.Evaluated r₂) (k : r₂.Steady r₃) : r₁.Evaluated r₃ :=
  ⟨h.told.trans k.told, h.alerts.trans k.alerts, fun hf => k.owner.law (h.owner hf)⟩

theorem Rig.evaluateOwner_evaluated (r : Rig) (c : OwnerCause) : r.Evaluated (r.evaluateOwner c) := by
  have sounded := r.evaluateOwner_sounded c
  obtain ⟨-, halerts, hrun⟩ := r.evaluateOwner_keeps c
  exact ⟨sounded.told, Rig.alertsStay_of sounded.library sounded.records (congrArg Alerts.airing halerts) hrun,
    fun hf => Rig.evaluateOwner_ownerLaw hf c⟩

theorem Rig.switchRunStart_evaluated (r : Rig) : (r.withRun true).Evaluated r.switchRunStart :=
  (r.withRun true).evaluateOwner_evaluated .alertStart

theorem Rig.switchRunEnd_evaluated (r : Rig) : (r.withRun false).Evaluated r.switchRunEnd :=
  (r.withRun false).evaluateOwner_evaluated .alertEnd

theorem Rig.delayHold_steady (r : Rig) : r.Steady r.delayHold := r.changeDelay_steady _ .alert

theorem Rig.delayRelease_steady (r : Rig) : r.Steady r.delayRelease := r.changeDelay_steady _ .alert

/-- The start of a run: the run flag set, and the owner evaluated (R152, R162). -/
theorem Rig.runStart_evaluated (r : Rig) : (r.withRun true).Evaluated r.runStart := by
  have held := r.switchRunStart_evaluated.steady (Rig.delayHold_steady _)
  unfold Rig.runStart
  generalize r.switchRunStart.delayHold = x at held
  dsimp only
  split
  · exact (held.steady ((Rig.alertPause_ordered _).steady (Rig.alertPause_sparesF _))).steady
      (Rig.setDecksPaused_steady _ true)
  · exact held

/-- The end of a run: the run flag cleared, and the owner evaluated (R154, R162). -/
theorem Rig.runEnd_evaluated (r : Rig) : (r.withRun false).Evaluated r.runEnd := by
  have released := r.switchRunEnd_evaluated.steady (Rig.delayRelease_steady _)
  unfold Rig.runEnd
  generalize r.switchRunEnd.delayRelease = x at released
  dsimp only
  split
  · exact (released.steady (Rig.setDecksPaused_steady _ false)).steady
      ((Rig.alertResume_ordered _).steady (Rig.alertResume_sparesF _))
  · exact released

/-! ### An airing -/

theorem Rig.AlertsStay.withRun {r r' : Rig} (h : r.AlertsStay r') (run : Bool) :
    (r.withRun run).AlertsStay (r'.withRun run) := ⟨h.states, h.airing, rfl, h.carts, h.bindings⟩

/-- The record named as the one that airs, the run flag set, where nothing aired and the record did not record. -/
theorem Rig.AlertsInForm.named {r : Rig} (h : r.AlertsInForm) {i : RecordId} (hidle : r.alerts.airing = none)
    (hi : (r.record i).state ≠ .recording) : ((r.namedAiring i).withRun true).AlertsInForm := by
  refine ⟨fun j => ?_, rfl, h.bindings.congr (fun b _ => ?_) fun _ => rfl⟩
  · show ((r.setAlertState i .airing).record j).state = .airing ↔ some i = some j
    unfold Rig.setAlertState
    rw [Rig.record_setRecord]
    split
    · rename_i hij
      exact iff_of_true rfl (congrArg some hij)
    · rename_i hij
      exact iff_of_false (fun hj => absurd (hidle.symm.trans ((h.airing j).mp hj)) nofun)
        fun e => hij (Option.some.inj e)
  · refine (Rig.setRecord_targetRecords r i _ b).trans ?_
    split
    · rename_i hb
      subst hb
      exact iff_of_false nofun hi
    · exact Iff.rfl

/-- The rig once the record that airs has left AIRING, before the queue is looked at (R154, R155). -/
def Rig.leftAiring (r : Rig) (i : RecordId) (st : AlertState) : Rig :=
  { r.setAlertState i st with alerts := { (r.setAlertState i st).alerts with airing := none } }

theorem Rig.AlertsInForm.left {r : Rig} (h : r.AlertsInForm) {i : RecordId} (hi : r.alerts.airing = some i)
    {st : AlertState} (hair : st ≠ .airing) (hrec : st ≠ .recording) :
    ((r.leftAiring i st).withRun false).AlertsInForm := by
  have hairing := (h.airing i).mpr hi
  refine ⟨fun j => iff_of_false ?_ nofun, rfl, h.bindings.congr (fun b _ => ?_) fun _ => rfl⟩
  · show ((r.setAlertState i st).record j).state ≠ .airing
    unfold Rig.setAlertState
    rw [Rig.record_setRecord]
    split
    · exact hair
    · rename_i hij
      exact fun hj => hij (Option.some.inj (hi.symm.trans ((h.airing j).mp hj)))
  · refine (Rig.setRecord_targetRecords r i _ b).trans ?_
    split
    · rename_i hb
      subst hb
      exact iff_of_false hrec (by rw [Rig.targetRecords, hairing]; nofun)
    · exact Iff.rfl

theorem Rig.namedAiring_ownerStays (r : Rig) (i : RecordId) : r.OwnerStays (r.namedAiring i) :=
  ⟨rfl, rfl, Rig.sparesF_of_decks rfl⟩

theorem Rig.leftAiring_ownerStays (r : Rig) (i : RecordId) (st : AlertState) : r.OwnerStays (r.leftAiring i st) :=
  ⟨rfl, rfl, Rig.sparesF_of_decks rfl⟩

/-- The rig once a record airs and its first part is sent to deck A, before a run starts. -/
def Rig.playing (r : Rig) (i : RecordId) : Rig := ((r.namedAiring i).report (.alertAiring i)).loadFirstPart i

theorem Rig.airRecord_false (r : Rig) (i : RecordId) : r.airRecord i false = r.playing i := by
  simp [Rig.airRecord, Rig.playing, Rig.namedAiring]

theorem Rig.airRecord_true (r : Rig) (i : RecordId) : r.airRecord i true = (r.playing i).runStart := by
  simp [Rig.airRecord, Rig.playing, Rig.namedAiring]

theorem Rig.playing_steady (r : Rig) (i : RecordId) : (r.namedAiring i).Steady (r.playing i) :=
  ((r.namedAiring i).report_steady (.alertAiring i)).trans (Rig.loadFirstPart_steady _ i)

/-- With something AIRING the queue may wait. -/
theorem Rig.AlertsInForm.law_of_airing {r : Rig} (h : r.AlertsInForm) {i : RecordId} (hi : r.alerts.airing = some i) :
    r.alertLaw := r.alertLaw_iff.mpr ⟨h, fun hidle => absurd (hi.symm.trans hidle) nofun⟩

/-- The head of the queue is QUEUED. -/
theorem Rig.head_state {r : Rig} {i : RecordId} (h : r.alerts.head = some i) : (r.record i).state = .queued :=
  Alerts.head_queued h

/-- The record at the head of the queue begins a run. -/
theorem Rig.airRecord_true_alertLaw {r : Rig} (h : r.AlertsInForm) {i : RecordId} (hidle : r.alerts.airing = none)
    (hi : (r.record i).state = .queued) : (r.airRecord i true).alertLaw := by
  have hnamed := h.named hidle (i := i) (by rw [hi]; nofun)
  have hstay := ((r.playing_steady i).alerts.withRun true).trans (r.playing i).runStart_evaluated.alerts
  rw [Rig.airRecord_true]
  exact hstay.law (hnamed.law_of_airing (i := i) rfl)

theorem Rig.airRecord_true_ownerLaw {r : Rig} (h : r.ownerLaw) (i : RecordId) : (r.airRecord i true).ownerLaw := by
  obtain ⟨-, hf⟩ := r.ownerLaw_iff.mp h
  have hplaying := ((r.namedAiring_ownerStays i).trans (r.playing_steady i).owner).inForm hf
  rw [Rig.airRecord_true]
  exact (r.playing i).runStart_evaluated.owner (hplaying.withRun true)

/-- At the end of an event the head of the queue airs if nothing does, and the alerts' law stands whole (R152). -/
theorem Rig.airIfIdle_alertLaw {r : Rig} (h : r.AlertsInForm) : r.airIfIdle.alertLaw := by
  unfold Rig.airIfIdle
  split
  · rename_i i hidle hhead
    exact Rig.airRecord_true_alertLaw h hidle (Rig.head_state hhead)
  · rename_i hno
    refine r.alertLaw_iff.mpr ⟨h, fun hidle => Alerts.head_eq_none ?_⟩
    cases hhead : r.alerts.head with
    | none => rfl
    | some i => exact absurd hhead (hno i hidle)

theorem Rig.airIfIdle_ownerLaw {r : Rig} (h : r.ownerLaw) : r.airIfIdle.ownerLaw := by
  unfold Rig.airIfIdle
  split
  · exact Rig.airRecord_true_ownerLaw h _
  · exact h

/-- The rig once no record airs any longer: the next head of the queue airs, or the run ends. -/
def Rig.airNext (r : Rig) : Rig :=
  match r.alerts.head with
  | some j => r.airRecord j false
  | none => r.runEnd

theorem Rig.leaveAiring_eq (r : Rig) (i : RecordId) (st : AlertState) (m : Report) :
    r.leaveAiring i st m = ((r.leftAiring i st).report m).airNext := rfl

/-- The record that airs leaves AIRING: the next head airs in the same run, or the run ends (R154, R155). -/
theorem Rig.leaveAiring_alertLaw {r : Rig} (h : r.alertLaw) {i : RecordId} (hi : r.alerts.airing = some i)
    {st : AlertState} (hair : st ≠ .airing) (hrec : st ≠ .recording) (m : Report) :
    (r.leaveAiring i st m).alertLaw := by
  obtain ⟨hf, -⟩ := r.alertLaw_iff.mp h
  have hrun : r.airSwitch.runFlag = true := by rw [hf.runFlag, hi]; rfl
  have told := ((r.leftAiring i st).report_steady m).alerts.withRun false
  have hleft := told.inForm (hf.left hi hair hrec)
  rw [Rig.leaveAiring_eq]
  generalize ht : (r.leftAiring i st).report m = t at hleft
  have htrun : t.airSwitch.runFlag = true := ht ▸ hrun
  have htidle : t.alerts.airing = none := ht ▸ rfl
  unfold Rig.airNext
  split
  · rename_i j hj
    have hqueued := Rig.head_state hj
    have hnamed := hleft.named htidle (i := j) (by
      show (t.record j).state ≠ .recording
      rw [hqueued]
      nofun)
    have hback : (((t.withRun false).namedAiring j).withRun true).AlertsStay (t.namedAiring j) :=
      ⟨fun _ => rfl, rfl, htrun, fun _ => rfl, fun _ => rfl⟩
    rw [Rig.airRecord_false]
    exact (hback.trans (t.playing_steady j).alerts).law (hnamed.law_of_airing (i := j) rfl)
  · rename_i hnone
    exact t.runEnd_evaluated.alerts.law ((Rig.alertLaw_iff _).mpr ⟨hleft, fun _ => Alerts.head_eq_none hnone⟩)

theorem Rig.leaveAiring_ownerLaw {r : Rig} (h : r.ownerLaw) (i : RecordId) (st : AlertState) (m : Report) :
    (r.leaveAiring i st m).ownerLaw := by
  have told := (r.leftAiring_ownerStays i st).trans (Rig.report_steady _ m).owner
  rw [Rig.leaveAiring_eq]
  generalize (r.leftAiring i st).report m = t at told
  unfold Rig.airNext
  split
  · rename_i j _
    rw [Rig.airRecord_false]
    exact ((told.trans (t.namedAiring_ownerStays j)).trans (t.playing_steady j).owner).law h
  · obtain ⟨-, hf⟩ := r.ownerLaw_iff.mp h
    exact t.runEnd_evaluated.owner ((told.inForm hf).withRun false)

end Sys2Proof.Machine
end

section
/-!
SUPPORT. Recordings and records while an event runs: the alerts' law in form before the head of the queue airs
(R48 to R53, R144 to R150), and the relation that every command keeps: the queue's places and the two laws.
-/

namespace Sys2Proof.Machine

/-! ### Records and recordings moved -/

/-- The rig after operations on alert records and recordings that raise reports, keep the alerts' law in form, and leave
what the owner's law reads. -/
structure Rig.Moved (r r' : Rig) : Prop where
  told : r.egress.Told r'.egress
  alerts : r.AlertsInForm → r'.AlertsInForm
  owner : r.OwnerStays r'

theorem Rig.Moved.refl (r : Rig) : r.Moved r := ⟨.refl _, id, .refl r⟩

theorem Rig.Moved.trans {r₁ r₂ r₃ : Rig} (h : r₁.Moved r₂) (k : r₂.Moved r₃) : r₁.Moved r₃ :=
  ⟨h.told.trans k.told, fun hf => k.alerts (h.alerts hf), h.owner.trans k.owner⟩

theorem Rig.Steady.moved {r r' : Rig} (h : r.Steady r') : r.Moved r' := ⟨h.told, h.alerts.inForm, h.owner⟩

theorem Rig.report_moved (r : Rig) (m : Report) : r.Moved (r.report m) := (r.report_steady m).moved

/-- A record replaced that neither enters nor leaves AIRING or RECORDING. -/
theorem Rig.setRecord_moved {r : Rig} {i : RecordId} {a : AlertRecord}
    (hairing : a.state = .airing ↔ (r.record i).state = .airing)
    (hrecording : a.state = .recording ↔ (r.record i).state = .recording) : r.Moved (r.setRecord i a) :=
  ⟨.refl _, fun hf => hf.setRecord hairing hrecording, ⟨rfl, rfl, Rig.sparesF_of_decks rfl⟩⟩

/-- A state from which no AIRING and no RECORDING is left, or to which none is entered. -/
@[reducible] def AlertState.atRest (st : AlertState) : Prop := st ≠ .airing ∧ st ≠ .recording

theorem Rig.restRecord_moved {r : Rig} {i : RecordId} {a : AlertRecord} (hold : (r.record i).state.atRest)
    (hnew : a.state.atRest) : r.Moved (r.setRecord i a) :=
  Rig.setRecord_moved (iff_of_false hnew.1 hold.1) (iff_of_false hnew.2 hold.2)

theorem Rig.enqueue_moved {r : Rig} {i : RecordId} (hold : (r.record i).state.atRest) : r.Moved (r.enqueue i) := by
  have queued := Rig.restRecord_moved (a := { r.record i with
    state := .queued, queueEntry := nextCount r.alerts.queueCount }) hold
    (show AlertState.queued.atRest by decide)
  exact queued.trans (Rig.Steady.moved (Rig.steady_of (.refl _) rfl rfl rfl rfl rfl rfl))

theorem Rig.setAlertState_moved {r : Rig} {i : RecordId} {st : AlertState} (hold : (r.record i).state.atRest)
    (hnew : st.atRest) : r.Moved (r.setAlertState i st) := Rig.restRecord_moved hold hnew

theorem Rig.testDeadlines_moved (r : Rig) (now : Nat) (i : RecordId) : r.Moved (r.testDeadlines now i) := by
  unfold Rig.testDeadlines
  dsimp only
  split
  · exact Rig.setRecord_moved Iff.rfl Iff.rfl
  · split
    · rename_i hwaits
      have hrest : (r.record i).state.atRest := by
        rcases hwaits.1 with h | h <;> rw [h] <;> decide
      exact (Rig.setAlertState_moved (st := .expired) hrest (by decide)).trans (Rig.report_moved _ _)
    · split
      · split
        · rename_i hwindow
          have hrest : (r.record i).state.atRest := by rw [hwindow.1]; decide
          split
          · exact (Rig.enqueue_moved hrest).trans (Rig.report_moved _ _)
          · exact (Rig.setAlertState_moved (st := .declined) hrest (by decide)).trans (Rig.report_moved _ _)
        · exact .refl r
      · exact .refl r

/-- Deadlines moved leave every state. -/
theorem Rig.moveDeadlines_steady (r : Rig) (f : Nat → Nat) : r.Steady (r.moveDeadlines f) := by
  refine ⟨.refl _, ⟨fun i => ?_, rfl, rfl, fun _ => rfl, fun _ => rfl⟩, ⟨rfl, rfl, Rig.sparesF_of_decks rfl⟩⟩
  rw [Rig.moveDeadlines_record]
  unfold AlertRecord.moved
  split <;> rfl

/-! ### Recordings of carts -/

theorem Rig.cartFreed_moved {r : Rig} {k : RecorderId} {c : CartId} {x : Cart}
    (hk : (r.recorder k).binding = .cart c) (hx : x.state ≠ .recording) :
    r.Moved ((r.setCart c x).setRecorder k .free) :=
  ⟨.refl _, fun hf => hf.cartFreed hk hx, ⟨rfl, rfl, Rig.sparesF_of_decks rfl⟩⟩

theorem Rig.cartRecordingEnds_moved {r : Rig} {k : RecorderId} {c : CartId} (hk : (r.recorder k).binding = .cart c)
    (cause : DoneCause) : r.Moved (r.cartRecordingEnds k c cause) :=
  (Rig.cartFreed_moved (x := (r.cart c).recorded (r.recorder k).position) hk nofun).trans (Rig.report_moved _ _)

theorem Rig.abandonCart_moved {r : Rig} {k : RecorderId} {c : CartId} (hk : (r.recorder k).binding = .cart c)
    (cause : AbandonCause) : r.Moved (r.abandonCart k c cause) :=
  (Rig.cartFreed_moved (x := (r.cart c).cleared .defined) hk nofun).trans (Rig.report_moved _ _)

theorem Rig.abandonCarts_moved (r : Rig) (cause : AbandonCause) : r.Moved (r.abandonCarts cause) := by
  rw [Rig.abandonCarts_eq]
  refine foldl_related Rig.Moved.refl Rig.Moved.trans (fun r k => ?_) allRecorders r
  unfold Rig.abandonBound
  split
  · exact Rig.abandonCart_moved ‹_› cause
  · exact .refl r

/-! ### Recordings of alerts -/

theorem Rig.freeAlertRecorder_egress (r : Rig) (i : RecordId) : (r.freeAlertRecorder i).egress = r.egress := by
  unfold Rig.freeAlertRecorder
  split <;> rfl

theorem Rig.freeAlertRecorder_ownerStays (r : Rig) (i : RecordId) : r.OwnerStays (r.freeAlertRecorder i) := by
  unfold Rig.freeAlertRecorder
  split
  · exact ⟨rfl, rfl, Rig.sparesF_of_decks rfl⟩
  · exact .refl r

theorem Rig.setRecord_ownerStays (r : Rig) (i : RecordId) (a : AlertRecord) : r.OwnerStays (r.setRecord i a) :=
  ⟨rfl, rfl, Rig.sparesF_of_decks rfl⟩

/-- The recording of a record is over, its recorder FREE. -/
theorem Rig.alertFreed_moved {r : Rig} {i : RecordId} {a : AlertRecord} (hi : (r.record i).state = .recording)
    (ha : a.state.atRest) : r.Moved ((r.freeAlertRecorder i).setRecord i a) := by
  refine ⟨?_, fun hf => hf.alertFreed hi ha.2 ha.1,
    (r.freeAlertRecorder_ownerStays i).trans (Rig.setRecord_ownerStays _ i a)⟩
  show r.egress.Told (r.freeAlertRecorder i).egress
  rw [Rig.freeAlertRecorder_egress]
  exact .refl _

/-- Where the end of a recording sends its record (R147): a state at rest. -/
theorem Rig.placeRecorded_stays (r : Rig) (i : RecordId) (now : Nat) :
    ∃ a : AlertRecord, a.state.atRest ∧ (r.setRecord i a).Steady (r.placeRecorded i now) := by
  unfold Rig.placeRecorded
  dsimp only
  split
  · exact ⟨{ r.record i with state := .expired }, show AlertState.expired.atRest by decide, Rig.report_steady _ _⟩
  · split
    · exact ⟨{ r.record i with state := .queued, queueEntry := nextCount r.alerts.queueCount },
        show AlertState.queued.atRest by decide,
        Rig.steady_of (.refl _) rfl rfl rfl rfl rfl rfl⟩
    · exact ⟨{ r.record i with state := .awaiting, deadline := some (now + (r.record i).confirmWindow) },
        show AlertState.awaiting.atRest by decide, .refl _⟩

/-- A record set twice, with a report between. -/
theorem Rig.setRecord_twice_steady (r : Rig) (i : RecordId) (a b : AlertRecord) (m : Report) :
    (r.setRecord i b).Steady (((r.setRecord i a).report m).setRecord i b) := by
  refine ⟨r.egress.report_told m, ⟨fun j => ?_, rfl, rfl, fun _ => rfl, fun _ => rfl⟩,
    ⟨rfl, rfl, Rig.sparesF_of_decks rfl⟩⟩
  rw [Rig.record_setRecord, Rig.record_setRecord, Rig.report_record, Rig.record_setRecord]
  split <;> rfl

theorem Rig.closeAlertRecording_moved {r : Rig} {i : RecordId} (hi : (r.record i).state = .recording)
    (truncated : Bool) (now : Nat) : r.Moved (r.closeAlertRecording i truncated now) := by
  obtain ⟨a, ha, hplaced⟩ := Rig.placeRecorded_stays (((r.freeAlertRecorder i).setRecord i
    { r.record i with
      recordedLength := r.alertPosition i, truncated := truncated || (r.record i).truncated }).report
    (.alertRecorded i (r.alertPosition i) (truncated || (r.record i).truncated))) i now
  exact (Rig.alertFreed_moved hi ha).trans ((Rig.setRecord_twice_steady _ i _ a _).trans hplaced).moved

theorem Rig.alertRecordingLost_moved (r : Rig) (i : RecordId) (now : Nat) :
    r.Moved (r.alertRecordingLost i now) := by
  unfold Rig.alertRecordingLost
  split
  · exact .refl r
  · rename_i hi
    rw [not_not] at hi
    split
    · exact Rig.closeAlertRecording_moved hi true now
    · exact (Rig.alertFreed_moved (a := { r.record i with state := .aborted, recordedLength := r.alertPosition i }) hi
        (show AlertState.aborted.atRest by decide)).trans (Rig.report_moved _ _)

theorem Rig.recordingsLost_moved (r : Rig) (now : Nat) : r.Moved (r.recordingsLost now) :=
  foldl_related Rig.Moved.refl Rig.Moved.trans (fun r i => r.alertRecordingLost_moved i now) allRecords r

/-- A cart record replaced by one in the same state. -/
theorem Rig.setCart_steady {r : Rig} {c : CartId} {x : Cart} (h : x.state = (r.cart c).state) :
    r.Steady (r.setCart c x) := by
  refine ⟨.refl _, ⟨fun _ => rfl, rfl, rfl, fun d => ?_, fun _ => rfl⟩, ⟨rfl, rfl, Rig.sparesF_of_decks rfl⟩⟩
  rw [Rig.cart_setCart]
  split
  · rename_i hcd
    rw [← hcd]
    exact h
  · rfl

theorem Rig.recorderAdvances_moved (r : Rig) (k : RecorderId) : r.Moved (r.recorderAdvances k) := by
  have hbinding (j : RecorderId) : ((r.setRecorder k { r.recorder k with
      position := (r.recorder k).position + 1 }).recorder j).binding = (r.recorder j).binding := by
    rw [Rig.setRecorder_binding]
    split
    · rename_i hkj
      rw [← hkj]
    · rfl
  have moved : r.Steady (r.setRecorder k { r.recorder k with position := (r.recorder k).position + 1 }) :=
    ⟨.refl _, ⟨fun _ => rfl, rfl, rfl, fun _ => rfl, hbinding⟩, ⟨rfl, rfl, Rig.sparesF_of_decks rfl⟩⟩
  unfold Rig.recorderAdvances
  dsimp only
  split
  · exact .refl r
  · rename_i c _
    exact (moved.trans (Rig.setCart_steady (x := { r.cart c with length := (r.recorder k).position + 1 }) rfl)).moved
  · exact moved.moved.trans (Rig.setRecord_moved Iff.rfl Iff.rfl)

/-! ### What every command keeps -/

/-- The rig after an operation that uses at most `n` of the secured places and keeps the two laws. -/
structure Rig.Agrees (n : Nat) (r r' : Rig) : Prop where
  egress : r.egress.Uses n r'.egress
  alerts : r.alertLaw → r'.alertLaw
  owner : r.ownerLaw → r'.ownerLaw

theorem Rig.Agrees.refl (r : Rig) : r.Agrees 0 r := ⟨.refl _, id, id⟩

theorem Rig.Agrees.trans {m n : Nat} {r₁ r₂ r₃ : Rig} (h : Rig.Agrees m r₁ r₂) (k : Rig.Agrees n r₂ r₃) :
    Rig.Agrees (m + n) r₁ r₃ :=
  ⟨h.egress.trans k.egress, fun hl => k.alerts (h.alerts hl), fun hl => k.owner (h.owner hl)⟩

theorem Rig.Agrees.mono {m n : Nat} {r r' : Rig} (h : Rig.Agrees m r r') (hmn : m ≤ n) : Rig.Agrees n r r' :=
  ⟨h.egress.mono hmn, h.alerts, h.owner⟩

theorem Rig.Steady.agrees {r r' : Rig} (h : r.Steady r') : Rig.Agrees 0 r r' :=
  ⟨h.told.uses, h.alerts.law, h.owner.law⟩

theorem Rig.Evaluated.agrees {r r' : Rig} (h : r.Evaluated r') : Rig.Agrees 0 r r' :=
  ⟨h.told.uses, h.alerts.law, fun hl => h.owner (r.ownerLaw_iff.mp hl).2⟩

theorem Rig.report_agrees (r : Rig) (m : Report) : Rig.Agrees 0 r (r.report m) := (r.report_steady m).agrees

/-- The egress queue alone replaced. -/
theorem Rig.setEgress_agrees {n : Nat} {r : Rig} {e : Egress} (h : r.egress.Uses n e) :
    Rig.Agrees n r { r with egress := e } :=
  ⟨h, (Rig.alertsStay_of rfl rfl rfl rfl).law, Rig.OwnerStays.law ⟨rfl, rfl, Rig.sparesF_of_decks rfl⟩⟩

theorem Rig.reply_agrees (r : Rig) (tag : Tag) (k : RequestKind) (st : Status) (d : List Nat) :
    Rig.Agrees 1 r (r.reply tag k st d) := Rig.setEgress_agrees (r.egress.push_uses _)

theorem Rig.requestCommand_agrees (r : Rig) (m : Outbound) : Rig.Agrees 1 r (r.requestCommand m) :=
  Rig.setEgress_agrees (r.egress.push_uses _)

theorem Rig.command_agrees (r : Rig) (m : Outbound) : Rig.Agrees 0 r (r.command m) :=
  Rig.setEgress_agrees (r.egress.urgent_uses _)

/-- Records and recordings moved, and then the head of the queue if nothing is AIRING (R152). -/
theorem Rig.Moved.airs {r r' : Rig} (h : r.Moved r') : Rig.Agrees 0 r r'.airIfIdle :=
  ⟨(h.told.trans r'.airIfIdle_beside.told).uses,
    fun hl => Rig.airIfIdle_alertLaw (h.alerts (r.alertLaw_iff.mp hl).1),
    fun hl => Rig.airIfIdle_ownerLaw (h.owner.law hl)⟩

/-- Records and recordings moved with no record new in the queue and the same one AIRING. -/
theorem Rig.Moved.agrees {r r' : Rig} (h : r.Moved r') (hairing : r'.alerts.airing = r.alerts.airing)
    (hqueue : ∀ i, (r'.record i).state = .queued → (r.record i).state = .queued) : Rig.Agrees 0 r r' := by
  refine ⟨h.told.uses, fun hl => ?_, h.owner.law⟩
  obtain ⟨hf, hidle⟩ := r.alertLaw_iff.mp hl
  exact r'.alertLaw_iff.mpr ⟨h.alerts hf, fun hn i hi => hidle (hairing ▸ hn) i (hqueue i hi)⟩

theorem Rig.leaveAiring_agrees {r : Rig} {i : RecordId} (hi : (r.record i).state = .airing) {st : AlertState}
    (hst : st.atRest) (m : Report) : Rig.Agrees 0 r (r.leaveAiring i st m) := by
  refine ⟨(r.leaveAiring_beside i st m).told.uses, fun hl => ?_, fun hl => Rig.leaveAiring_ownerLaw hl i st m⟩
  obtain ⟨hf, -⟩ := r.alertLaw_iff.mp hl
  exact Rig.leaveAiring_alertLaw hl ((hf.airing i).mp hi) hst.1 hst.2 m

theorem Rig.stopAiring_agrees {r : Rig} {i : RecordId} (hi : (r.record i).state = .airing) {st : AlertState}
    (hst : st.atRest) (m : Report) : Rig.Agrees 0 r (r.stopAiring i st m) := by
  have emptied := r.emptyDeck_steady deckA
  exact emptied.agrees.trans (Rig.leaveAiring_agrees ((emptied.alerts.states i).trans hi) hst m)

/-- Deck A at the end of a part: the next part, or the end of the airing (R153, R154). -/
theorem Rig.partEnded_agrees (r : Rig) : Rig.Agrees 0 r r.partEnded := by
  refine ⟨r.partEnded_beside.told.uses, fun hl => ?_, fun hl => ?_⟩
  · unfold Rig.partEnded
    split
    · exact hl
    · rename_i i hi
      have unloaded := r.unloadDeck_steady deckA
      have next (p : Part) := unloaded.trans (Rig.loadPart_steady (r.unloadDeck deckA) i p)
      have leaves {r' : Rig} (h : r.Steady r') : (r'.leaveAiring i .aired (.alertAired i)).alertLaw :=
        Rig.leaveAiring_alertLaw (h.alerts.law hl) (h.alerts.airing.trans hi) (by decide) (by decide) _
      dsimp only
      split
      · exact (next .slot).alerts.law hl
      · split
        · exact (next .leadOut).alerts.law hl
        · exact leaves (next .leadOut)
      · exact leaves unloaded
  · unfold Rig.partEnded
    split
    · exact hl
    · rename_i i _
      have unloaded := (r.unloadDeck_steady deckA).owner.law hl
      have next (p : Part) := (Rig.loadPart_steady (r.unloadDeck deckA) i p).owner.law unloaded
      dsimp only
      split
      · exact next .slot
      · split
        · exact next .leadOut
        · exact Rig.leaveAiring_ownerLaw (next .leadOut) _ _ _
      · exact Rig.leaveAiring_ownerLaw unloaded _ _ _

theorem Rig.newSeconds_agrees (r : Rig) (now : Nat) : Rig.Agrees 0 r (r.newSeconds now) := by
  have tested (r : Rig) : r.Moved (allRecords.foldl (fun r i => r.testDeadlines now i) r) :=
    foldl_related Rig.Moved.refl Rig.Moved.trans (fun r i => r.testDeadlines_moved now i) allRecords r
  exact (r.orderSeconds_steady now).agrees.trans (tested (r.orderSeconds now)).airs

theorem Rig.secondAdvance_agrees (r : Rig) (old new : Nat) : Rig.Agrees 0 r (r.secondAdvance old new) := by
  refine Rig.Agrees.trans (m := 0) (n := 0) ?_ (Rig.newSeconds_agrees _ new)
  split
  · exact (r.moveDeadlines_steady _).agrees
  · exact .refl r

theorem Rig.alertRecordingEnds_agrees {r : Rig} {i : RecordId} (hi : (r.record i).state = .recording)
    (truncated : Bool) (now : Nat) : Rig.Agrees 0 r (r.alertRecordingEnds i truncated now) :=
  (Rig.closeAlertRecording_moved hi truncated now).airs

theorem Rig.recorderAdvances_agrees (r : Rig) (k : RecorderId) : Rig.Agrees 0 r (r.recorderAdvances k) := by
  obtain ⟨hairing, hstate⟩ : (r.recorderAdvances k).alerts.airing = r.alerts.airing ∧
      ∀ i, ((r.recorderAdvances k).record i).state = (r.record i).state := by
    unfold Rig.recorderAdvances
    dsimp only
    split
    · exact ⟨rfl, fun _ => rfl⟩
    · exact ⟨rfl, fun _ => rfl⟩
    · refine ⟨rfl, fun i => ?_⟩
      rw [Rig.record_setRecord]
      split
      · rename_i hji
        rw [← hji]
      · rfl
  exact (r.recorderAdvances_moved k).agrees hairing fun i hi => (hstate i).symm.trans hi

end Sys2Proof.Machine
end

section
/-!
SUPPORT. The monitors and the owner (R162, R172, R173): a change of DLY-silence handed on leaves the owner that it calls
for.
-/

namespace Sys2Proof.Machine

/-! ### Whether DLY-silence acts -/

theorem Rig.setCell_acts (r : Rig) {c b : Fin 18} (x : MonitorCell) (h : c ≠ b) :
    (r.setCell c x).monitors.acts b = r.monitors.acts b := by
  have hcell : (r.setCell c x).monitors.cells[b] = r.monitors.cells[b] := (r.cell_setCell c b x).trans (if_neg h)
  unfold Monitors.acts
  rw [hcell]
  rfl

/-- The monitors alone replaced, where DLY-silence acts as it did. -/
theorem Rig.setMonitors_steady {r : Rig} {m : Monitors} (h : m.acts dlySilence = r.monitors.acts dlySilence) :
    r.Steady { r with monitors := m } := Rig.steady_of (.refl _) rfl rfl rfl rfl h rfl

theorem Rig.notify_steady (r : Rig) (n : LineNotice) : r.Steady (r.notify n) := Rig.setMonitors_steady rfl

theorem Rig.setCell_steady (r : Rig) {c : Fin 18} (x : MonitorCell) (h : c ≠ dlySilence) : r.Steady (r.setCell c x) :=
  Rig.setMonitors_steady (r.setCell_acts x h)

theorem Rig.resetLineCells_steady (r : Rig) (k : LineId) : r.Steady (r.resetLineCells k) := by
  have hquiet : quietCell k ≠ dlySilence := by revert k; decide
  have hoverload : overloadCell k ≠ dlySilence := by revert k; decide
  exact (r.setCell_steady _ hquiet).trans (Rig.setCell_steady _ _ hoverload)

theorem Rig.changeCells_acts (r : Rig) {cs : List (Fin 18)} (f : MonitorCell → MonitorCell) {b : Fin 18}
    (h : b ∉ cs) : (r.changeCells cs f).monitors.acts b = r.monitors.acts b := by
  unfold Rig.changeCells
  induction cs generalizing r with
  | nil => rfl
  | cons c cs ih =>
    rw [List.foldl_cons, ih _ (List.not_mem_of_not_mem_cons h)]
    exact r.setCell_acts _ (List.ne_of_not_mem_cons h).symm

/-- What a change of cells leaves. -/
theorem Rig.changeCells_keeps (r : Rig) (cs : List (Fin 18)) (f : MonitorCell → MonitorCell) :
    r.changeCells cs f = { r with monitors := (r.changeCells cs f).monitors } := by
  unfold Rig.changeCells
  induction cs generalizing r with
  | nil => rfl
  | cons c cs ih =>
    rw [List.foldl_cons, ih]
    rfl

theorem Rig.withSetting_acts (r : Rig) {i : Fin 8} (m : MonitorSetting) {c : Fin 18} (h : cellSetting c ≠ i) :
    (r.withSetting i m).monitors.acts c = r.monitors.acts c := by
  show ((r.monitors.cells[c]).state == .fault && _) = _
  unfold Monitors.acts
  rw [show (r.withSetting i m).monitors.settings[cellSetting c] = r.monitors.settings[cellSetting c] from
    vset_other _ _ _ _ h.symm]

/-! ### A change handed on -/

/-- The owner is the one called for, where DLY-silence acts as it did when it was last handed on. -/
structure Rig.OwnerDue (r : Rig) (was : Bool) : Prop where
  inForm : r.OwnerInForm
  right : r.monitors.acts dlySilence = was → r.airSwitch.owner = r.evaluatedOwner

theorem Rig.ownerLaw.due {r : Rig} (h : r.ownerLaw) (was : Bool) : r.OwnerDue was := by
  obtain ⟨howner, hf⟩ := r.ownerLaw_iff.mp h
  exact ⟨hf, fun _ => howner⟩

/-- The monitors replaced, the change not yet handed on. -/
theorem Rig.ownerLaw.changed {r : Rig} (h : r.ownerLaw) (m : Monitors) :
    ({ r with monitors := m } : Rig).OwnerDue (r.monitors.acts dlySilence) := by
  obtain ⟨howner, hf⟩ := r.ownerLaw_iff.mp h
  exact ⟨⟨hf.fade, hf.deckF⟩, fun hsame =>
    howner.trans (Rig.evaluatedOwner_congr (r := r) (r' := { r with monitors := m }) rfl hsame rfl).symm⟩

theorem Rig.OwnerDue.steady {r r' : Rig} {was : Bool} (h : r.OwnerDue was) (k : r.Steady r') : r'.OwnerDue was := by
  refine ⟨k.owner.inForm h.inForm, fun hsame => ?_⟩
  rw [k.owner.airSwitch, k.owner.evaluated]
  exact h.right (k.owner.acts.symm.trans hsame)

theorem Rig.handOn_steady (r : Rig) {c : Fin 18} (hc : c ≠ dlySilence) (was : Bool) : r.Steady (r.handOn c was) := by
  unfold Rig.handOn
  rw [if_neg hc]
  split
  · exact .refl r
  · split
    · exact .refl r
    · split
      · split
        · exact .refl r
        · exact r.notify_steady _
      · exact r.notify_steady _

theorem Rig.handOn_ownerLaw {r : Rig} {was : Bool} (h : r.OwnerDue was) : (r.handOn dlySilence was).ownerLaw := by
  unfold Rig.handOn
  rw [if_pos rfl]
  split
  · exact r.ownerLaw_iff.mpr ⟨h.right ‹_›, h.inForm⟩
  · exact Rig.evaluateOwner_ownerLaw h.inForm _

/-- Whatever is handed on, the queue is told and the alerts stay. -/
theorem Rig.handOn_stays (r : Rig) (c : Fin 18) (was : Bool) :
    r.egress.Told (r.handOn c was).egress ∧ r.AlertsStay (r.handOn c was) := by
  by_cases hc : c = dlySilence
  · unfold Rig.handOn
    rw [if_pos hc]
    split
    · exact ⟨.refl _, .refl r⟩
    · have evaluated := r.evaluateOwner_evaluated (if was then .dlyClear else .dlyFault)
      exact ⟨evaluated.told, evaluated.alerts⟩
  · have steady := r.handOn_steady hc was
    exact ⟨steady.told, steady.alerts⟩

theorem Rig.handOnAll_stays (r : Rig) (cs : List (Fin 18)) (before : Monitors) :
    r.egress.Told (r.handOnAll cs before).egress ∧ r.AlertsStay (r.handOnAll cs before) := by
  unfold Rig.handOnAll
  exact foldl_related (R := fun a b : Rig => a.egress.Told b.egress ∧ a.AlertsStay b) (fun r => ⟨.refl _, .refl r⟩)
    (fun h k => ⟨h.1.trans k.1, h.2.trans k.2⟩) (fun r c => r.handOn_stays c _) cs r

/-- Once DLY-silence is among the cells handed on, or where nothing was due, the owner's law stands. -/
theorem Rig.handOnAll_ownerLaw {r : Rig} {cs : List (Fin 18)} {before : Monitors}
    (h : r.OwnerDue (before.acts dlySilence)) (hcs : dlySilence ∈ cs ∨ r.ownerLaw) :
    (r.handOnAll cs before).ownerLaw := by
  unfold Rig.handOnAll
  induction cs generalizing r with
  | nil => exact hcs.resolve_left nofun
  | cons c cs ih =>
    rw [List.foldl_cons]
    by_cases hc : c = dlySilence
    · subst hc
      have hlaw := Rig.handOn_ownerLaw h
      exact ih (hlaw.due _) (.inr hlaw)
    · have steady := r.handOn_steady hc (before.acts c)
      refine ih (h.steady steady) (hcs.imp (fun hin => ?_) steady.owner.law)
      exact (List.mem_cons.mp hin).resolve_left (Ne.symm hc)

/-- The monitors replaced and the change handed on. -/
theorem Rig.handedOn_agrees {r : Rig} {m : Monitors} {cs : List (Fin 18)}
    (h : dlySilence ∉ cs → m.acts dlySilence = r.monitors.acts dlySilence) :
    Rig.Agrees 0 r (({ r with monitors := m } : Rig).handOnAll cs r.monitors) := by
  obtain ⟨htold, hstay⟩ := ({ r with monitors := m } : Rig).handOnAll_stays cs r.monitors
  have hset : r.AlertsStay { r with monitors := m } := Rig.alertsStay_of rfl rfl rfl rfl
  refine ⟨htold.uses, (hset.trans hstay).law, fun hl => Rig.handOnAll_ownerLaw (hl.changed m) ?_⟩
  by_cases hin : dlySilence ∈ cs
  · exact .inl hin
  · exact .inr ((Rig.setMonitors_steady (h hin)).owner.law hl)

/-! ### The events of the monitors -/

theorem dlySilence_setting {i : Fin 8} (h : dlySilence ∉ cellsOf i) : cellSetting dlySilence ≠ i :=
  fun hi => h ((mem_cellsOf dlySilence i).mpr hi)

theorem Rig.changeSetting_agrees (r : Rig) (i : Fin 8) (m : MonitorSetting) :
    Rig.Agrees 0 r (r.changeSetting i m) := by
  have told : Rig.Agrees 0 r ((if m.mode = .off ∧ (r.monitors.settings[i]).mode ≠ .off then
      (r.withSetting i m).changeCells (cellsOf i) MonitorCell.switchedOff else r.withSetting i m).handOnAll (cellsOf i)
        r.monitors) := by
    split
    · rw [Rig.changeCells_keeps]
      refine Rig.handedOn_agrees fun hno => ?_
      exact (Rig.changeCells_acts _ _ hno).trans (r.withSetting_acts m (dlySilence_setting hno))
    · exact Rig.handedOn_agrees fun hno => r.withSetting_acts m (dlySilence_setting hno)
  unfold Rig.changeSetting
  dsimp only
  split
  · exact told
  · exact told.trans (Rig.notify_steady _ _).agrees

/-- The cell of a block that ends, its report before it is handed on. -/
theorem Rig.endBlock_agrees (r : Rig) (c : Fin 18) : Rig.Agrees 0 r (r.endBlock c) := by
  unfold Rig.endBlock
  dsimp only
  generalize (if (r.cell c).discard || (r.monitors.settings[cellSetting c]).mode == .off then r.cell c
      else (r.cell c).counted (isOverloadSetting (cellSetting c)) r.monitors.settings[cellSetting c]) = y
  generalize hz : ({ y with peakL := 0, peakR := 0, discard := false } : MonitorCell) = z
  have told : (r.setCell c z).Steady (if y.state = (r.cell c).state then r.setCell c z
      else (r.setCell c z).report (.monitorState (cellSetting c) (cellLine c) (r.cell c).state y.state
        (r.cell c).peak)) := by
    split
    · exact .refl _
    · exact Rig.report_steady _ _
  generalize (if y.state = (r.cell c).state then r.setCell c z
      else (r.setCell c z).report (.monitorState (cellSetting c) (cellLine c) (r.cell c).state y.state
        (r.cell c).peak)) = t at told ⊢
  obtain ⟨htold, hstay⟩ := t.handOn_stays c (r.monitors.acts c)
  have hset : r.AlertsStay (r.setCell c z) := Rig.alertsStay_of rfl rfl rfl rfl
  refine ⟨(told.told.trans htold).uses, ((hset.trans told.alerts).trans hstay).law, fun hl => ?_⟩
  by_cases hc : c = dlySilence
  · subst hc
    exact Rig.handOn_ownerLaw (Rig.OwnerDue.steady (hl.changed _) told)
  · exact (((r.setCell_steady z hc).trans told).trans (t.handOn_steady hc _)).owner.law hl

theorem Rig.endBlocks_agrees (r : Rig) : Rig.Agrees 0 r r.endBlocks :=
  foldl_related Rig.Agrees.refl Rig.Agrees.trans (fun r c => r.endBlock_agrees c) allCells r

theorem State.measuredRig_steady (s : State) : s.rig.Steady s.measuredRig := by
  refine Rig.setMonitors_steady ?_
  have hstate : (s.measureAll[dlySilence]).state = (s.rig.monitors.cells[dlySilence]).state := by
    unfold State.measureAll
    rw [vtable_get]
    rfl
  unfold Monitors.acts
  rw [hstate]

end Sys2Proof.Machine
end

section
/-!
SUPPORT. The operations of single commands that change decks, carts, recorders and alert records, each with the two laws
it keeps (R43 to R53, R57 to R70, R137 to R157).
-/

namespace Sys2Proof.Machine

/-! ### Decks -/

/-- Where deck F is not EMPTY nothing is asked of it. -/
theorem Rig.sparesF_of_busy {r : Rig} (h : (r.deck deckF).state ≠ .empty) (r' : Rig) : r.SparesF r' :=
  ⟨fun he => absurd he h⟩

theorem Rig.closeDeckFrame_agrees {r : Rig} {d : DeckId} (hbusy : (r.deck d).state ≠ .empty) (done : Bool) :
    Rig.Agrees 0 r (r.closeDeckFrame d done) := by
  have segues : r.Steady (r.sendSegue d) :=
    (r.sendSegue_ordered d).steady (r.sendSegue_sparesF fun hd => hd ▸ hbusy)
  have sent : r.Steady ((r.finishDeck d .played).sendSegue d) := by
    refine ((r.finishDeck_ordered d .played).trans (Rig.sendSegue_ordered _ d)).steady ?_
    by_cases hd : d = deckF
    · subst hd
      exact Rig.sparesF_of_busy hbusy _
    · exact (r.finishDeck_sparesF hd .played).trans (Rig.sendSegue_sparesF _ fun h => absurd h hd)
  unfold Rig.closeDeckFrame
  split
  · unfold Rig.afterDone
    split
    · exact (sent.trans ((Rig.releaseDeck_ordered _ d).steady (Rig.releaseDeck_sparesF _ d))).agrees.trans
        (Rig.settle_steady _).agrees
    · split
      · exact sent.agrees.trans (Rig.partEnded_agrees _)
      · exact sent.agrees
  · exact segues.agrees

theorem Rig.prefetched_ordered (r : Rig) (d : DeckId) : r.Ordered (r.prefetched d) := by
  unfold Rig.prefetched
  dsimp only
  have cued := (r.setDeck_ordered d { r.deck d with state := .cued, position := (r.deck d).cueIn }).trans
    (Rig.report_ordered _ (.deckLoaded d (r.deck d).source))
  split
  · exact cued.trans (Rig.orderPrefetched_ordered _ d)
  · split
    · exact cued.trans (Rig.startDeck_ordered _ _)
    · unfold Rig.fallbackPrefetched
      split
      · exact cued.trans (Rig.startDeck_ordered _ _)
      · exact cued

theorem eq_deckF_of_rest {d : DeckId} (hprogram : ¬ isProgramDeck d = true) (hA : ¬ d = deckA) : d = deckF := by
  revert d
  decide

theorem Rig.prefetched_steady {r : Rig} {d : DeckId} (hbusy : (r.deck d).state ≠ .empty) :
    r.Steady (r.prefetched d) := by
  refine (r.prefetched_ordered d).steady ?_
  by_cases hd : d = deckF
  · subst hd
    exact Rig.sparesF_of_busy hbusy _
  · unfold Rig.prefetched
    dsimp only
    have cued := (r.setDeck_sparesF (x := { r.deck d with state := .cued, position := (r.deck d).cueIn })
      fun h => absurd h hd).trans (Rig.report_sparesF _ (.deckLoaded d (r.deck d).source))
    split
    · exact cued.trans (Rig.orderPrefetched_sparesF _ d)
    · rename_i hno
      split
      · exact cued.trans (Rig.startDeck_sparesF _ fun h => absurd h deckA_ne_deckF)
      · exact absurd (eq_deckF_of_rest hno ‹_›) hd

theorem Rig.loadFrame_steady {r : Rig} {d : DeckId} (hload : (r.deck d).state = .loading) :
    r.Steady (r.loadFrame d) := by
  have aged : r.Steady (r.setDeck d { r.deck d with loadAge := (r.deck d).loadAge + 1 }) :=
    (r.setDeck_ordered d _).steady (r.setDeck_sparesF_of_busy _ fun hd => by rw [← hd, hload]; nofun)
  unfold Rig.loadFrame
  dsimp only
  split
  · refine aged.trans (Rig.prefetched_steady ?_)
    rw [Rig.deck_setDeck, if_pos rfl]
    show (r.deck d).state ≠ .empty
    rw [hload]
    nofun
  · exact aged

/-- The console's deck requests reach the program decks alone (R71). -/
theorem Rig.deckCheck_ok {r : Rig} {deck : Nat} {q : DeckRequest} {d : DeckId} (h : r.deckCheck deck q = .ok d) :
    isProgramDeck d = true ∧ (r.deck d).state.allows q = true := by
  obtain ⟨d', -, h⟩ := require_bind_ok h
  obtain ⟨hprogram, h⟩ := refuse_bind_ok h
  obtain ⟨-, h⟩ := refuse_bind_ok h
  obtain ⟨hallows, h⟩ := refuse_bind_ok h
  cases h
  exact ⟨by simpa using hprogram, by simpa using hallows⟩

theorem DeckState.allows_start {st : DeckState} (h : st.allows .start = true) : st = .cued := by
  cases st <;> first | rfl | cases h

/-- DECK_START starts the entry of a CUED deck (R71). -/
theorem Rig.deckStartCheck_ok {r : Rig} {deck : Nat} {e : Entry} (h : r.deckStartCheck deck = .ok e) (d : DeckId)
    (hd : e.deck = some d) : (r.deck d).state ≠ .empty := by
  obtain ⟨d', hcheck, h⟩ := bind_ok h
  obtain ⟨e', -, h⟩ := require_bind_ok h
  obtain ⟨hdeck, h⟩ := refuse_bind_ok h
  cases h
  have hsame : e.deck = some d' := by simpa using hdeck
  cases hsame.symm.trans hd
  rw [DeckState.allows_start (Rig.deckCheck_ok hcheck).2]
  nofun

/-- ORDER_NEXT starts an entry of a CUED deck (R90). -/
theorem Rig.nextCheck_ok {r : Rig} {e : Entry} (h : r.nextCheck = .ok e) (d : DeckId) (hd : e.deck = some d) :
    (r.deck d).state ≠ .empty := by
  obtain ⟨-, h⟩ := refuse_bind_ok h
  obtain ⟨e', -, h⟩ := require_bind_ok h
  obtain ⟨d', hdeck, h⟩ := require_bind_ok h
  obtain ⟨hcued, h⟩ := refuse_bind_ok h
  cases h
  cases hdeck.symm.trans hd
  rw [Bool.or_eq_false_iff] at hcued
  rw [show (r.deck d).state = .cued by simpa using hcued.2]
  nofun

theorem Rig.startEntry_steady {r : Rig} {e : Entry} (cause : StartCause)
    (he : ∀ d, e.deck = some d → (r.deck d).state ≠ .empty) : r.Steady (r.startEntry e cause) :=
  (r.startEntry_ordered e cause).steady (r.startEntry_sparesF cause he)

theorem Rig.assignThenSettle_steady (r : Rig) : r.Steady r.assignThenSettle :=
  r.assignThenSettle_ordered.steady r.assignThenSettle_sparesF

theorem Rig.setEntries_steady (r : Rig) (es : List Entry) : r.Steady (r.setEntries es) :=
  (r.setEntries_ordered es).steady (r.setEntries_sparesF es)

theorem Rig.unloadEntries_steady (r : Rig) (es : List Entry) : r.Steady (r.unloadEntries es) :=
  (r.unloadEntries_ordered es).steady (r.unloadEntries_sparesF es)

theorem Rig.setHold_steady (r : Rig) (hold : Bool) : r.Steady (r.setHold hold) :=
  (r.setHold_ordered hold).steady (Rig.sparesF_of_decks rfl)

theorem Rig.removeWaitingFor_steady (r : Rig) (c : CartId) : r.Steady (r.removeWaitingFor c) :=
  (r.removeWaitingFor_ordered c).steady ((r.setEntries_sparesF _).trans (Rig.reports_sparesF _ _))

/-! ### Carts -/

/-- A cart that nobody holds is bound to no recorder (R43). -/
theorem Rig.unbound_of_not_held {r : Rig} {c : CartId} (h : r.cartHeld c = false) (k : RecorderId) :
    (r.recorder k).binding ≠ .cart c := by
  unfold Rig.cartHeld at h
  simp only [Bool.or_eq_false_iff, List.any_eq_false] at h
  intro hk
  have hmem : r.recorder k ∈ r.library.recorders.toList := by
    unfold Rig.recorder
    simp
  exact h.1.2 _ hmem (beq_iff_eq.mpr hk)

/-- A cart that no recorder is bound to is replaced by one that does not record. -/
theorem Rig.setCart_agrees {r : Rig} {c : CartId} {x : Cart} (hfree : ∀ k, (r.recorder k).binding ≠ .cart c)
    (hx : x.state ≠ .recording) : Rig.Agrees 0 r (r.setCart c x) := by
  refine ⟨.refl _, fun hl => ?_, Rig.OwnerStays.law ⟨rfl, rfl, Rig.sparesF_of_decks rfl⟩⟩
  obtain ⟨⟨hairing, hrun, hbind⟩, hidle⟩ := r.alertLaw_iff.mp hl
  refine (Rig.alertLaw_iff _).mpr ⟨⟨hairing, hrun, hbind.congr (fun b hb => ?_) fun _ => rfl⟩, hidle⟩
  rw [Rig.setCart_targetRecords]
  split
  · rename_i hbc
    subst hbc
    refine iff_of_false hx fun hrec => ?_
    obtain ⟨k, hk⟩ := (hbind.target _ hb).mp hrec
    exact hfree k hk
  · exact Iff.rfl

/-- A FREE recorder found for a claim (R49). -/
theorem Rig.freeRecorder_binding {r : Rig} {k : RecorderId} (h : r.freeRecorder = some k) :
    (r.recorder k).binding = .free := by
  unfold Rig.freeRecorder at h
  simpa using List.find?_some h

theorem Rig.cartBound_agrees {r : Rig} {k : RecorderId} {c : CartId} {x : Cart}
    (hfree : (r.recorder k).binding = .free) (hnew : (r.cart c).state ≠ .recording) (hx : x.state = .recording)
    (src : RecordSource) (n : Nat) : Rig.Agrees 0 r ((r.setCart c x).bindRecorder k (.cart c) src n) := by
  refine ⟨.refl _, fun hl => ?_, Rig.OwnerStays.law ⟨rfl, rfl, Rig.sparesF_of_decks rfl⟩⟩
  obtain ⟨hf, hidle⟩ := r.alertLaw_iff.mp hl
  exact (Rig.alertLaw_iff _).mpr ⟨hf.cartBound hfree hnew hx src n, hidle⟩

/-! ### Alerts -/

/-- Records and recordings moved with no record new in the queue, and the same one AIRING. -/
structure Rig.Aside (r r' : Rig) : Prop where
  moved : r.Moved r'
  airing : r'.alerts.airing = r.alerts.airing
  queue : ∀ i, (r'.record i).state = .queued → (r.record i).state = .queued

theorem Rig.Aside.trans {r₁ r₂ r₃ : Rig} (h : r₁.Aside r₂) (k : r₂.Aside r₃) : r₁.Aside r₃ :=
  ⟨h.moved.trans k.moved, k.airing.trans h.airing, fun i hi => h.queue i (k.queue i hi)⟩

theorem Rig.Aside.agrees {r r' : Rig} (h : r.Aside r') : Rig.Agrees 0 r r' := h.moved.agrees h.airing h.queue

theorem Rig.Steady.aside {r r' : Rig} (h : r.Steady r') : r.Aside r' :=
  ⟨h.moved, h.alerts.airing, fun i hi => (h.alerts.states i).symm.trans hi⟩

theorem Rig.report_aside (r : Rig) (m : Report) : r.Aside (r.report m) := (r.report_steady m).aside

/-- The alert records as they were. -/
theorem Rig.Moved.aside {r r' : Rig} (h : r.Moved r') (ha : r'.alerts = r.alerts) : r.Aside r' := by
  refine ⟨h, congrArg Alerts.airing ha, fun i => ?_⟩
  unfold Rig.record
  rw [ha]
  exact id

/-- One record set to a state other than QUEUED, the others as they were. -/
theorem Rig.Moved.asideOf {r r' : Rig} (h : r.Moved r') (hairing : r'.alerts.airing = r.alerts.airing) {i : RecordId}
    (hi : (r'.record i).state ≠ .queued) (hother : ∀ j, j ≠ i → r'.record j = r.record j) : r.Aside r' := by
  refine ⟨h, hairing, fun j hj => ?_⟩
  by_cases hji : j = i
  · subst hji
    exact absurd hj hi
  · exact (congrArg AlertRecord.state (hother j hji)).symm.trans hj

theorem Rig.restRecord_aside {r : Rig} {i : RecordId} {a : AlertRecord} (hold : (r.record i).state.atRest)
    (hnew : a.state.atRest) (hqueue : a.state ≠ .queued) : r.Aside (r.setRecord i a) := by
  refine (Rig.restRecord_moved hold hnew).asideOf rfl (i := i) ?_ fun j hj => ?_
  · rw [Rig.record_setRecord, if_pos rfl]
    exact hqueue
  · rw [Rig.record_setRecord, if_neg hj.symm]

/-- The recording of a record is over, and the record does not wait in the queue. -/
theorem Rig.alertFreed_aside {r : Rig} {i : RecordId} {a : AlertRecord} (hi : (r.record i).state = .recording)
    (ha : a.state.atRest) (hqueue : a.state ≠ .queued) : r.Aside ((r.freeAlertRecorder i).setRecord i a) := by
  refine (Rig.alertFreed_moved hi ha).asideOf ?_ (i := i) ?_ fun j hj => ?_
  · show (r.freeAlertRecorder i).alerts.airing = r.alerts.airing
    rw [r.freeAlertRecorder_alerts i]
  · rw [Rig.freeAlertRecorder_setRecord, if_pos rfl]
    exact hqueue
  · rw [Rig.freeAlertRecorder_setRecord, if_neg hj.symm]

/-- A record that does not live neither airs nor records. -/
theorem AlertRecord.atRest_of_not_live {a : AlertRecord} (h : a.live = false) : a.state.atRest := by
  unfold AlertRecord.live at h
  constructor <;> rintro hs <;> rw [hs] at h <;> cases h

theorem Rig.freeAlertRecorder_setAlertState (r : Rig) (i : RecordId) (st : AlertState) :
    (r.freeAlertRecorder i).setAlertState i st =
      (r.freeAlertRecorder i).setRecord i { r.record i with state := st } := by
  unfold Rig.setAlertState Rig.record
  rw [r.freeAlertRecorder_alerts i]

theorem Rig.cancelAlert_agrees (r : Rig) (i : RecordId) : Rig.Agrees 0 r (r.cancelAlert i) := by
  unfold Rig.cancelAlert
  dsimp only
  split
  · exact Rig.stopAiring_agrees ‹_› (by decide) _
  · rename_i hrec
    rw [Rig.freeAlertRecorder_setAlertState]
    exact ((Rig.alertFreed_aside (a := { r.record i with state := .cancelled }) hrec
      (show AlertState.cancelled.atRest by decide) nofun).trans (Rig.report_aside _ _)).agrees
  · exact ((Rig.restRecord_aside (a := { r.record i with state := .cancelled }) ⟨‹_›, ‹_›⟩
      (show AlertState.cancelled.atRest by decide) nofun).trans (Rig.report_aside _ _)).agrees

/-- The console's decisions are on records RECORDING or AWAITING (R156). -/
theorem Rig.undecidedCheck_ok {r : Rig} {record : Nat} {i : RecordId} (h : r.undecidedCheck record = .ok i) :
    (r.record i).state = .recording ∨ (r.record i).state = .awaiting := by
  obtain ⟨i', -, h⟩ := bind_ok h
  obtain ⟨hstate, h⟩ := refuse_bind_ok h
  cases h
  rw [Bool.and_eq_false_iff] at hstate
  simpa using hstate

theorem Rig.confirmAlert_agrees {r : Rig} {i : RecordId}
    (hi : (r.record i).state = .recording ∨ (r.record i).state = .awaiting) : Rig.Agrees 0 r (r.confirmAlert i) := by
  unfold Rig.confirmAlert
  split
  · rename_i hrec
    refine (Rig.Aside.trans (Rig.Moved.asideOf (r' := r.setRecord i { r.record i with confirmedEarly := true })
      (Rig.setRecord_moved Iff.rfl Iff.rfl) rfl (i := i) ?_ fun j hj => ?_) (Rig.report_aside _ _)).agrees
    · rw [Rig.record_setRecord, if_pos rfl]
      show (r.record i).state ≠ .queued
      rw [hrec]
      nofun
    · rw [Rig.record_setRecord, if_neg hj.symm]
  · rename_i hrec
    have hrest : (r.record i).state.atRest := by
      rw [hi.resolve_left hrec]
      decide
    exact ((Rig.enqueue_moved hrest).trans (Rig.report_moved _ _)).airs

theorem Rig.declineAlert_agrees {r : Rig} {i : RecordId}
    (hi : (r.record i).state = .recording ∨ (r.record i).state = .awaiting) : Rig.Agrees 0 r (r.declineAlert i) := by
  unfold Rig.declineAlert
  split
  · rename_i hrec
    rw [Rig.freeAlertRecorder_setAlertState]
    exact ((Rig.alertFreed_aside (a := { r.record i with state := .declined }) hrec
      (show AlertState.declined.atRest by decide) nofun).trans (Rig.report_aside _ _)).agrees
  · rename_i hrec
    have hrest : (r.record i).state.atRest := by
      rw [hi.resolve_left hrec]
      decide
    exact ((Rig.restRecord_aside (a := { r.record i with state := .declined }) hrest
      (show AlertState.declined.atRest by decide) nofun).trans (Rig.report_aside _ _)).agrees

/-! ### Intake -/

/-- The record taken for a notice does not live (R143). -/
theorem Alerts.recordFor_not_live {a : Alerts} {i : RecordId} (h : a.recordFor = some i) :
    (a.records[i]).live = false := by
  have holds (l : List RecordId) (hl : ∀ x ∈ l, (a.records[x]).live = false) (best : Option RecordId)
      (hbest : ∀ b, best = some b → (a.records[b]).live = false) :
      ∀ b, l.foldl (fun best i => match best with
        | none => some i
        | some b => if serialGreater a.records[b].arrival a.records[i].arrival then some i
          else some b) best = some b → (a.records[b]).live = false := by
    induction l generalizing best with
    | nil => exact hbest
    | cons x l ih =>
      have hx := hl x (List.mem_cons_self ..)
      refine ih (fun y hy => hl y (List.mem_cons_of_mem _ hy)) _ fun b hb => ?_
      dsimp only at hb
      split at hb
      · cases hb
        exact hx
      · split at hb
        · cases hb
          exact hx
        · exact hbest b hb
  unfold Alerts.recordFor at h
  split at h
  · rename_i j hj
    cases h
    have hfree : (a.records[i]).state = .free := by simpa using List.find?_some hj
    unfold AlertRecord.live
    rw [hfree]
    rfl
  · exact holds _ (fun x hx => by simpa using (List.mem_filter.mp hx).2) none nofun i h

/-- A claim leaves the alert records, raises reports alone, and leaves what the owner's law reads. -/
theorem Rig.claimForAlert_keeps {r r' : Rig} {i : RecordId} {lane : Fin 16} (h : r.claimForAlert i lane = some r') :
    r'.alerts = r.alerts ∧ r.egress.Told r'.egress ∧ r.OwnerStays r' := by
  unfold Rig.claimForAlert at h
  dsimp only at h
  split at h
  · cases h
    exact ⟨rfl, .refl _, ⟨rfl, rfl, Rig.sparesF_of_decks rfl⟩⟩
  · split at h
    · cases h
      exact ⟨rfl, r.egress.report_told _, ⟨rfl, rfl, Rig.sparesF_of_decks rfl⟩⟩
    · cases h

/-- A record that does not live begins to record on the recorder that the claim found (R48, R49, R143). -/
theorem Rig.claimForAlert_alerts {r r' r'' : Rig} {i : RecordId} {lane : Fin 16} (hl : r.AlertsInForm)
    (h : r.claimForAlert i lane = some r') (hrest : (r.record i).state.atRest) {a : AlertRecord}
    (ha : a.state = .recording) (hr'' : (r'.setRecord i a).AlertsStay r'') : r''.AlertsInForm := by
  unfold Rig.claimForAlert at h
  dsimp only at h
  split at h
  · rename_i k hk
    cases h
    exact hl.alertBound (Rig.freeRecorder_binding hk) hrest.1 hrest.2 ha _ _ hr''
  · split at h
    · rename_i k c hy
      cases h
      have habandoned := (Rig.abandonCart_moved (Rig.youngestCart_binding hy) .alert).alerts hl
      refine habandoned.alertBound (k := k) (i := i) ?_ hrest.1 hrest.2 ha _ _ hr''
      rw [Rig.abandonCart_recorder, if_pos rfl]
      rfl
    · cases h

/-- A record taken for a notice, beyond the record itself. -/
theorem Rig.takeRecord_steady (r : Rig) (i : RecordId) (n : Notice) (st : AlertState) (v : Nat)
    (index : Option (Fin 24)) (f : Filter) :
    (r.setRecord i (n.recordOf st v (nextCount r.alerts.arrivalCount) index f)).Steady
      (r.takeRecord i n st v index f) := Rig.steady_of (.refl _) rfl rfl rfl rfl rfl rfl

theorem Rig.logNotice_aside (r : Rig) (n : Notice) (v : Nat) (index : Option (Fin 24)) (f : Filter) :
    r.Aside (r.logNotice n v index f).1 := by
  unfold Rig.logNotice
  split
  · exact r.report_aside _
  · rename_i i hi
    have hrest : (r.record i).state.atRest := AlertRecord.atRest_of_not_live (Alerts.recordFor_not_live hi)
    have logged := Rig.restRecord_aside (a := n.recordOf .logged v (nextCount r.alerts.arrivalCount) index f) hrest
      (show AlertState.logged.atRest by decide) nofun
    exact (logged.trans (r.takeRecord_steady i n .logged v index f).aside).trans (Rig.report_aside _ _)

theorem Rig.acceptNotice_aside (r : Rig) (n : Notice) (v : Nat) (index : Option (Fin 24)) (f : Filter) :
    r.Aside (r.acceptNotice n v index f).1 := by
  unfold Rig.acceptNotice
  dsimp only
  split
  · exact r.report_aside _
  · rename_i i hi
    have hrest : (r.record i).state.atRest := AlertRecord.atRest_of_not_live (Alerts.recordFor_not_live hi)
    split
    · exact r.report_aside _
    · split
      · exact r.report_aside _
      · rename_i granted hclaim
        obtain ⟨halerts, htold, howner⟩ := Rig.claimForAlert_keeps hclaim
        have taken := granted.takeRecord_steady i n .recording v index f
        have moved : r.Moved (granted.takeRecord i n .recording v index f) :=
          ⟨htold, fun hl => Rig.claimForAlert_alerts hl hclaim hrest rfl taken.alerts,
            (howner.trans (Rig.setRecord_ownerStays _ i _)).trans taken.owner⟩
        have hairing : (granted.takeRecord i n .recording v index f).alerts.airing = r.alerts.airing := by
          show granted.alerts.airing = r.alerts.airing
          rw [halerts]
        refine Rig.Aside.trans (moved.asideOf hairing (i := i) ?_ fun j hj => ?_) (Rig.report_aside _ _)
        · show ((granted.setRecord i _).record i).state ≠ .queued
          rw [Rig.record_setRecord, if_pos rfl]
          nofun
        · show (granted.setRecord i _).record j = r.record j
          rw [Rig.record_setRecord, if_neg hj.symm]
          exact congrArg (fun a : Alerts => a.records[j]) halerts

theorem Rig.filterNotice_aside (r : Rig) (n : Notice) (v : Nat) : r.Aside (r.filterNotice n v).1 := by
  unfold Rig.filterNotice
  dsimp only
  split
  · exact r.report_aside _
  · exact r.logNotice_aside n v _ _
  · exact r.acceptNotice_aside n v _ _
  · exact r.acceptNotice_aside n v _ _

theorem Rig.intake_agrees (r : Rig) (clock : Clock) (n : Notice) : Rig.Agrees 0 r (r.intake clock n).1 := by
  have known : r.Steady { r with alerts := { r.alerts with
      recent := rememberPair r.alerts.recent (n.originator, n.identity) } } :=
    Rig.steady_of (.refl _) rfl rfl rfl rfl rfl rfl
  unfold Rig.intake
  split
  · exact (r.report_aside _).agrees
  · dsimp only
    split
    · exact (known.aside.trans (Rig.report_aside _ _)).agrees
    · exact (known.aside.trans (Rig.filterNotice_aside _ n _)).agrees

/-! ### Recorders at their frames -/

theorem Rig.alertRecordingEnds_owner (r : Rig) (i : RecordId) (truncated : Bool) (now : Nat) :
    r.egress.Told (r.alertRecordingEnds i truncated now).egress ∧
      (r.ownerLaw → (r.alertRecordingEnds i truncated now).ownerLaw) := by
  obtain ⟨a, -, hplaced⟩ := Rig.placeRecorded_stays (((r.freeAlertRecorder i).setRecord i
    { r.record i with
      recordedLength := r.alertPosition i, truncated := truncated || (r.record i).truncated }).report
    (.alertRecorded i (r.alertPosition i) (truncated || (r.record i).truncated))) i now
  have twice := (Rig.setRecord_twice_steady (r.freeAlertRecorder i) i _ a _).trans hplaced
  have closed : r.egress.Told (r.closeAlertRecording i truncated now).egress := by
    have htold : (r.freeAlertRecorder i).egress.Told (r.closeAlertRecording i truncated now).egress := twice.told
    rwa [Rig.freeAlertRecorder_egress] at htold
  have howner : r.OwnerStays (r.closeAlertRecording i truncated now) :=
    ((r.freeAlertRecorder_ownerStays i).trans (Rig.setRecord_ownerStays _ i a)).trans twice.owner
  exact ⟨closed.trans (Rig.airIfIdle_beside _).told, fun hl => Rig.airIfIdle_ownerLaw (howner.law hl)⟩

theorem Rig.recorderEnds_agrees (r : Rig) (k : RecorderId) (now : Nat) : Rig.Agrees 0 r (r.recorderEnds k now) := by
  have ends {i : RecordId} (hk : (r.recorder k).binding = .alert i) (truncated : Bool) :
      Rig.Agrees 0 r (r.alertRecordingEnds i truncated now) := by
    obtain ⟨htold, howner⟩ := r.alertRecordingEnds_owner i truncated now
    refine ⟨htold.uses, fun hl => ?_, howner⟩
    have hrec : (r.record i).state = .recording :=
      ((r.alertLaw_iff.mp hl).1.bindings.target (.alert i) nofun).mpr ⟨k, hk⟩
    exact (Rig.alertRecordingEnds_agrees hrec truncated now).alerts hl
  unfold Rig.recorderEnds
  dsimp only
  split
  · exact .refl r
  · rename_i c hk
    split
    · exact ((Rig.cartRecordingEnds_moved hk .full).aside rfl).agrees
    · exact .refl r
  · rename_i i hk
    split
    · exact ends hk false
    · split
      · exact ends hk true
      · exact .refl r

end Sys2Proof.Machine
end

section
/-!
SUPPORT and the statements on the store and the egress queue, and on the alerts and the owner, at every step: O55 and
O57. What every command keeps of the four laws, command by command.
-/

namespace Sys2Proof.Machine

/-! ### The part -/

/-- The part after operations that keep the store in form, use at most `n` of the secured places, and keep the two laws
of the rig. -/
structure State.Agrees (n : Nat) (s t : State) : Prop where
  store : s.storeLaw → t.storeLaw
  rig : Rig.Agrees n s.rig t.rig

theorem State.Agrees.refl (s : State) : State.Agrees 0 s s := ⟨id, .refl _⟩

theorem State.Agrees.trans {m n : Nat} {s₁ s₂ s₃ : State} (h : State.Agrees m s₁ s₂) (k : State.Agrees n s₂ s₃) :
    State.Agrees (m + n) s₁ s₃ := ⟨fun hs => k.store (h.store hs), h.rig.trans k.rig⟩

/-- Operations that use no place, after operations that do. -/
theorem State.Agrees.quiet {n : Nat} {s₁ s₂ s₃ : State} (h : State.Agrees n s₁ s₂) (k : State.Agrees 0 s₂ s₃) :
    State.Agrees n s₁ s₃ := h.trans k

/-- Operations that use no place, before operations that do. -/
theorem State.Agrees.before {n : Nat} {s₁ s₂ s₃ : State} (h : State.Agrees 0 s₁ s₂) (k : State.Agrees n s₂ s₃) :
    State.Agrees n s₁ s₃ := Nat.zero_add n ▸ h.trans k

theorem Rig.Agrees.quiet {n : Nat} {r₁ r₂ r₃ : Rig} (h : Rig.Agrees n r₁ r₂) (k : Rig.Agrees 0 r₂ r₃) :
    Rig.Agrees n r₁ r₃ := h.trans k

theorem Rig.Agrees.before {n : Nat} {r₁ r₂ r₃ : Rig} (h : Rig.Agrees 0 r₁ r₂) (k : Rig.Agrees n r₂ r₃) :
    Rig.Agrees n r₁ r₃ := Nat.zero_add n ▸ h.trans k

/-- The store and the rig as they stood. -/
theorem State.agrees_of {s t : State} (hs : t.store = s.store) (hr : t.rig = s.rig) : State.Agrees 0 s t := by
  refine ⟨fun h => ?_, hr ▸ .refl _⟩
  unfold State.storeLaw
  rw [hs]
  exact h

theorem State.onRig_agrees {n : Nat} {s : State} {f : Rig → Rig} (h : Rig.Agrees n s.rig (f s.rig)) :
    State.Agrees n s (s.onRig f) := ⟨id, h⟩

theorem State.reply_agrees (s : State) (tag : Tag) (k : RequestKind) (st : Status) (d : List Nat) :
    State.Agrees 1 s (s.reply tag k st d) := State.onRig_agrees (Rig.reply_agrees _ tag k st d)

theorem State.report_agrees (s : State) (m : Report) : State.Agrees 0 s (s.report m) :=
  State.onRig_agrees (Rig.report_agrees _ m)

theorem State.command_agrees (s : State) (m : Outbound) : State.Agrees 0 s (s.onRig (·.command m)) :=
  State.onRig_agrees (Rig.command_agrees _ m)

theorem State.requestCommand_agrees (s : State) (m : Outbound) :
    State.Agrees 1 s (s.onRig (·.requestCommand m)) := State.onRig_agrees (Rig.requestCommand_agrees _ m)

theorem Rig.reports_steady (r : Rig) (ms : List Report) : r.Steady (r.reports ms) :=
  (r.reports_ordered ms).steady (r.reports_sparesF ms)

/-! ### Events and requests -/

/-- A step from `s` to `t` keeps the four laws: the store's, the queue's, the alerts' and the owner's. -/
structure State.StepAgrees (s t : State) : Prop where
  store : s.storeLaw → t.storeLaw
  egress : s.egressLaw → t.egressLaw
  alerts : s.rig.alertLaw → t.rig.alertLaw
  owner : s.rig.ownerLaw → t.rig.ownerLaw

/-- An event secures no place. -/
theorem State.Agrees.step {s t : State} (h : State.Agrees 0 s t) : s.StepAgrees t := by
  refine ⟨h.store, fun hl => ?_, h.rig.alerts, h.rig.owner⟩
  obtain ⟨hf, hres⟩ := s.egressLaw_iff.mp hl
  exact t.egressLaw_iff.mpr ⟨h.rig.egress.inForm hf (Nat.zero_le _), Nat.le_zero.mp (hres ▸ h.rig.egress.fewer)⟩

/-- A request secures its places, and those that it does not use are given back (R197). -/
theorem State.take_agrees {s : State} {n : Nat} {f : State → State} (hn : n ≤ 32)
    (h : ∀ s : State, State.Agrees n s (f s)) : s.StepAgrees (s.take n f) := by
  unfold State.take
  split
  · rename_i e he
    have carried := h { s with inbound := none, rig := { s.rig with egress := e } }
    have set : s.rig.AlertsStay { s.rig with egress := e } ∧ s.rig.OwnerStays { s.rig with egress := e } :=
      ⟨Rig.alertsStay_of rfl rfl rfl rfl, ⟨rfl, rfl, Rig.sparesF_of_decks rfl⟩⟩
    refine ⟨carried.store, fun hl => ?_, fun hl => ?_, fun hl => ?_⟩
    · obtain ⟨hf, hres⟩ := s.egressLaw_iff.mp hl
      obtain ⟨hmade, hreserved⟩ := Egress.secure_inForm hf hn he
      obtain ⟨hroom, hhead⟩ := carried.rig.egress.inForm hmade (Nat.le_of_eq hreserved.symm)
      exact (State.egressLaw_iff _).mpr ⟨⟨Nat.le_trans (Nat.add_le_add_left (Nat.zero_le _) _) hroom, hhead⟩, rfl⟩
    · exact (Rig.alertsStay_of rfl rfl rfl rfl).law (carried.rig.alerts (set.1.law hl))
    · exact Rig.OwnerStays.law ⟨rfl, rfl, Rig.sparesF_of_decks rfl⟩ (carried.rig.owner (set.2.law hl))
  · exact State.Agrees.step ⟨id, Rig.setEgress_agrees ⟨fun hf _ => ⟨hf.room, hf.head⟩, Nat.le_refl _, Nat.le_refl _⟩⟩

/-- An answer of a command from `s`: where it is a next state, the four laws pass to it. -/
def Agreed (s : State) (a : Answer) : Prop := ∀ t, a = .next t → s.StepAgrees t

theorem agreed_next {s t : State} (h : State.Agrees 0 s t) : Agreed s (.next t) := by
  intro u hu
  cases hu
  exact h.step

theorem agreed_fault (s : State) (x : Fault) : Agreed s (.fault x) := by
  intro t ht
  cases ht

theorem agreed_whenDue {s : State} {b : Bool} {f : State → Answer} (h : b = true → Agreed s (f s)) :
    Agreed s (whenDue b s f) := by
  cases b with
  | true => exact h rfl
  | false => exact agreed_next (.refl s)

theorem agreed_take {s : State} {n : Nat} {f : State → State} (hn : n ≤ 32)
    (h : ∀ s : State, State.Agrees n s (f s)) : Agreed s (.next (s.take n f)) := by
  intro t ht
  cases ht
  exact State.take_agrees hn h

/-- A request that is judged: a refusal is a reply alone. -/
theorem agreed_judged {α : Type} {s : State} {n : Nat} {tag : Tag} {k : RequestKind}
    {check : State → Except Status α} {f : State → α → State} (h1 : 1 ≤ n) (hn : n ≤ 32)
    (h : ∀ (s : State) a, check s = .ok a → State.Agrees n s (f s a)) :
    Agreed s (.next (s.take n fun s => s.judged tag k (check s) (f s))) := by
  refine agreed_take hn fun s => ?_
  unfold State.judged
  split
  · have refused := s.reply_agrees tag k ‹_› []
    exact ⟨refused.store, refused.rig.mono h1⟩
  · exact h s _ ‹_›

theorem agreed_takeOnRig {s : State} {f : Rig → Rig} (h : ∀ r : Rig, Rig.Agrees 1 r (f r)) :
    Agreed s (.next (s.takeOnRig f)) := agreed_take (by decide) fun _ => State.onRig_agrees (h _)

theorem agreed_judgedOnRig {α : Type} {s : State} {tag : Tag} {k : RequestKind} {check : Rig → Except Status α}
    {f : Rig → α → Rig} (h : ∀ (r : Rig) a, check r = .ok a → Rig.Agrees 1 r (f r a)) :
    Agreed s (.next (s.takeOnRig fun r => r.judged tag k (check r) (f r))) := by
  refine agreed_takeOnRig fun r => ?_
  unfold Rig.judged
  split
  · exact r.reply_agrees tag k _ []
  · exact h r _ ‹_›

end Sys2Proof.Machine
end

section
/-!
SUPPORT. The store, the queue, the alerts and the owner, command by command.
-/

namespace Sys2Proof.Machine

/-! ### Caller lines -/

theorem State.setLine_agrees (s : State) (k : LineId) (l : Line) : State.Agrees 0 s (s.setLine k l) :=
  State.agrees_of rfl rfl

theorem State.setQueue_agrees (s : State) (q : List LineId) : State.Agrees 0 s (s.setQueue q) :=
  State.agrees_of rfl rfl

theorem State.setNotices_agrees (s : State) (ns : List LineNotice) : State.Agrees 0 s (s.setNotices ns) :=
  State.onRig_agrees (Rig.setMonitors_steady (m := { s.rig.monitors with lineNotices := ns }) rfl).agrees

theorem State.tellMonitors_agrees (s : State) (k : LineId) : State.Agrees 0 s (s.tellMonitors k) :=
  State.onRig_agrees (Rig.resetLineCells_steady _ k).agrees

theorem State.remuteLine_agrees (s : State) (k : LineId) : State.Agrees 0 s (s.remuteLine k) := by
  unfold State.remuteLine
  dsimp only
  split
  · exact .refl s
  · exact (s.setLine_agrees k _).trans (State.report_agrees _ _)

theorem State.remute_agrees (s : State) : State.Agrees 0 s s.remute :=
  foldl_related State.Agrees.refl State.Agrees.trans (fun s k => s.remuteLine_agrees k) allLines s

theorem State.remuteAfter_agrees (s : State) (left : LineState) : State.Agrees 0 s (s.remuteAfter left) := by
  unfold State.remuteAfter
  split
  · exact s.remute_agrees
  · exact .refl s

theorem State.endCall_agrees (s : State) (k : LineId) : State.Agrees 0 s (s.endCall k) := by
  have idle := (s.setLine_agrees k (s.line k).idled).trans
    (State.setQueue_agrees _ (s.callers.queue.filter (· != k)))
  unfold State.endCall
  dsimp only
  split
  · exact idle.trans (State.tellMonitors_agrees _ k)
  · exact idle

theorem State.countAnswerTimers_agrees (s : State) : State.Agrees 0 s s.countAnswerTimers := by
  unfold State.countAnswerTimers
  refine foldl_related State.Agrees.refl State.Agrees.trans (fun s k => ?_) allLines s
  unfold State.countAnswerTimer
  dsimp only
  split
  · exact .refl s
  · split
    · exact ((s.endCall_agrees k).trans (State.command_agrees _ _)).trans (State.report_agrees _ _)
    · exact s.setLine_agrees k _

theorem State.restartCallers_agrees (s : State) : State.Agrees 0 s s.restartCallers := by
  unfold State.restartCallers
  refine State.Agrees.quiet (n := 0) ?_ (State.setQueue_agrees _ [])
  refine foldl_related State.Agrees.refl State.Agrees.trans (fun s k => ?_) allLines s
  unfold State.restartLine
  dsimp only
  split
  · exact .refl s
  · exact (s.setLine_agrees k _).trans (State.command_agrees _ _)

theorem execLineQuietFault_agreed (k : LineId) (s : State) : Agreed s (execLineQuietFault k s) := by
  refine agreed_whenDue fun _ => agreed_next ?_
  have taken := s.setNotices_agrees (takeNotice (.quietFault k) s.rig.monitors.lineNotices)
  split
  · exact taken
  · exact (((taken.trans (State.endCall_agrees _ k)).trans (State.command_agrees _ _)).trans
      (State.report_agrees _ _)).trans (State.remute_agrees _)

theorem execLineOverloadChange_agreed (s : State) : Agreed s (execLineOverloadChange s) := by
  unfold execLineOverloadChange
  split
  · exact agreed_next (.refl s)
  · exact agreed_next ((s.setNotices_agrees _).trans (State.remute_agrees _))

theorem execCallAnswer_agreed (tag : Tag) (line : Nat) (s : State) : Agreed s (execCallAnswer tag line s) :=
  agreed_judged (by decide) (by decide) fun s k _ => ((s.setLine_agrees k _).before
    (State.requestCommand_agrees _ _)).trans (State.reply_agrees _ _ _ _ _)

theorem execCallReady_agreed (tag : Tag) (line : Nat) (s : State) : Agreed s (execCallReady tag line s) :=
  agreed_judged (by decide) (by decide) fun s k _ => ((s.setLine_agrees k _).trans (State.setQueue_agrees _ _)).before
    (State.reply_agrees _ _ _ _ _)

theorem execCallTake_agreed (tag : Tag) (line : Nat) (s : State) : Agreed s (execCallTake tag line s) :=
  agreed_judged (by decide) (by decide) fun s k _ => ((((s.setLine_agrees k _).trans (State.setQueue_agrees _ _)).trans
    (State.tellMonitors_agrees _ k)).trans (State.remute_agrees _)).before (State.reply_agrees _ _ _ _ _)

theorem execCallPark_agreed (tag : Tag) (line : Nat) (s : State) : Agreed s (execCallPark tag line s) :=
  agreed_judged (by decide) (by decide) fun s k _ => ((((s.setLine_agrees k _).trans (State.setQueue_agrees _ _)).trans
    (State.tellMonitors_agrees _ k)).trans (State.remute_agrees _)).before (State.reply_agrees _ _ _ _ _)

theorem execCallDrop_agreed (tag : Tag) (line : Nat) (s : State) : Agreed s (execCallDrop tag line s) :=
  agreed_judged (by decide) (by decide) fun s k _ => (((s.endCall_agrees k).before
    (State.requestCommand_agrees _ _)).trans (State.reply_agrees _ _ _ _ _)).quiet (State.remuteAfter_agrees _ _)

theorem execCallSetup_agreed (tag : Tag) (limit holdGain : Option Nat) (items : List LineFields) (s : State) :
    Agreed s (execCallSetup tag limit holdGain items s) := by
  refine agreed_judged (by decide) (by decide) fun s v _ => State.Agrees.before ?_ (State.reply_agrees _ _ _ _ _)
  have set : State.Agrees 0 s { s with callers := { s.callers with
      limit := v.1.getD s.callers.limit, holdGain := v.2.1.getD s.callers.holdGain } } := State.agrees_of rfl rfl
  exact set.trans (foldl_related State.Agrees.refl State.Agrees.trans (fun s i => s.setLine_agrees i.1 _) v.2.2 _)

theorem execLineRead_agreed (tag : Tag) (line : Nat) (s : State) : Agreed s (execLineRead tag line s) :=
  agreed_judged (by decide) (by decide) fun s _ _ => s.reply_agrees _ _ _ _

theorem execLineRing_agreed (tag : Tag) (line ref : Nat) (s : State) : Agreed s (execLineRing tag line ref s) :=
  agreed_judged (by decide) (by decide) fun s k _ => ((s.setLine_agrees k _).before
    (State.reply_agrees _ _ _ _ _)).quiet (State.report_agrees _ _)

theorem execLineConnected_agreed (tag : Tag) (line ref : Nat) (s : State) :
    Agreed s (execLineConnected tag line ref s) :=
  agreed_judged (by decide) (by decide) fun s k _ => ((s.setLine_agrees k _).trans (State.report_agrees _ _)).before
    (State.reply_agrees _ _ _ _ _)

theorem execLineHangup_agreed (tag : Tag) (line ref : Nat) (s : State) : Agreed s (execLineHangup tag line ref s) :=
  agreed_judged (by decide) (by decide) fun s k _ => (((s.endCall_agrees k).trans (State.report_agrees _ _)).before
    (State.reply_agrees _ _ _ _ _)).quiet (State.remuteAfter_agrees _ _)

/-! ### The receiver and the clock -/

theorem State.loseFrame_agrees (s : State) : State.Agrees 0 s s.loseFrame :=
  ⟨id, ((((s.rig.abandonCarts_moved .lost).trans (Rig.recordingsLost_moved _ s.clock.seconds)).airs)).trans
    (Rig.report_agrees _ _)⟩

theorem State.settleFrame_agrees (s : State) : State.Agrees 0 s s.settleFrame := by
  unfold State.settleFrame
  split
  · exact ⟨id, Rig.report_agrees _ _⟩
  · exact State.agrees_of rfl rfl

theorem State.settleFailure_agrees (s : State) : State.Agrees 0 s s.settleFailure := by
  unfold State.settleFailure
  split <;> exact State.agrees_of rfl rfl

theorem State.lockedFailure_agrees (s : State) : State.Agrees 0 s s.lockedFailure := by
  unfold State.lockedFailure
  split
  · exact s.loseFrame_agrees
  · exact State.agrees_of rfl rfl

theorem execActivitySeen_agreed (s : State) : Agreed s (execActivitySeen s) := by
  refine agreed_next ?_
  split <;> exact State.agrees_of rfl rfl

theorem execActivityCeases_agreed (s : State) : Agreed s (execActivityCeases s) := by
  refine agreed_next ?_
  split
  · exact .refl s
  · exact State.agrees_of rfl rfl
  · exact State.agrees_of rfl rfl
  · exact s.loseFrame_agrees

theorem execAlignmentFound_agreed (s : State) : Agreed s (execAlignmentFound s) := by
  refine agreed_next ?_
  split <;> exact State.agrees_of rfl rfl

theorem execAlignedFrame_agreed (lanes : Vector Sample 16) (s : State) : Agreed s (execAlignedFrame lanes s) := by
  refine agreed_next ?_
  split
  · exact .refl s
  · exact .refl s
  · exact s.settleFrame_agrees
  · exact State.agrees_of rfl rfl

theorem execFailedPosition_agreed (s : State) : Agreed s (execFailedPosition s) := by
  refine agreed_next ?_
  split
  · exact .refl s
  · exact .refl s
  · exact s.settleFailure_agrees
  · exact s.lockedFailure_agrees

theorem State.framed_agrees (s : State) : State.Agrees 0 s s.framed := by
  obtain ⟨-, -, -, -, hrig⟩ := s.openFrame_keeps
  have hstore : s.openFrame.store = s.store := by
    unfold State.openFrame
    dsimp only
    split <;> rfl
  exact State.agrees_of hstore hrig

theorem State.clockFrame_agrees (s : State) : State.Agrees 0 s s.clockFrame := by
  have told : State.Agrees 0 s (if s.clock.secondDue then
      s.framed.onRig (·.secondAdvance s.clock.seconds s.clock.nextSeconds) else s.framed) := by
    split
    · have advanced : State.Agrees 0 s.framed (s.framed.onRig (·.secondAdvance s.clock.seconds s.clock.nextSeconds)) :=
        State.onRig_agrees (s.framed.rig.secondAdvance_agrees s.clock.seconds s.clock.nextSeconds)
      exact s.framed_agrees.quiet advanced
    · exact s.framed_agrees
  exact told.quiet (State.countAnswerTimers_agrees _)

theorem Rig.timeSet_agrees (r : Rig) (valid : Bool) (old new : Nat) :
    Rig.Agrees 0 r ((if valid then r else r.moveDeadlines (stepDeadline old new)).newSeconds new) := by
  refine Rig.Agrees.quiet (n := 0) ?_ (Rig.newSeconds_agrees _ new)
  split
  · exact .refl _
  · exact (Rig.moveDeadlines_steady _ _).agrees

theorem execTimeSet_agreed (tag : Tag) (n : Nat) (s : State) : Agreed s (execTimeSet tag n s) := by
  refine agreed_judged (by decide) (by decide) fun s _ _ => ?_
  have replied := (State.agrees_of (s := s)
    (t := { s with clock := { s.clock with seconds := n, frameCount := 0, timeValid := true } }) rfl rfl).before
    (State.reply_agrees _ tag .timeSet .done [])
  exact replied.quiet (State.onRig_agrees (Rig.timeSet_agrees _ s.clock.timeValid s.clock.seconds n))

/-! ### The mix, the link and the monitors -/

theorem State.mixFrame_agrees (s : State) : State.Agrees 0 s s.mixFrame := ⟨id, (Rig.reports_steady _ _).agrees⟩

theorem State.setRoute_agrees (s : State) (i : RouteId) (r : Route) : State.Agrees 0 s (s.setRoute i r) :=
  State.agrees_of rfl rfl

theorem execRouteSet_agreed (tag : Tag) (index kind number destination gain exponent voice duckable : Nat)
    (s : State) : Agreed s (execRouteSet tag index kind number destination gain exponent voice duckable s) :=
  agreed_judged (by decide) (by decide) fun s _ _ => (s.setRoute_agrees _ _).before (State.reply_agrees _ _ _ _ _)

theorem execRouteGain_agreed (tag : Tag) (index gain exponent : Nat) (s : State) :
    Agreed s (execRouteGain tag index gain exponent s) :=
  agreed_judged (by decide) (by decide) fun s _ _ => (s.setRoute_agrees _ _).before (State.reply_agrees _ _ _ _ _)

theorem execRouteClear_agreed (tag : Tag) (index exponent : Nat) (s : State) :
    Agreed s (execRouteClear tag index exponent s) := by
  refine agreed_judged (by decide) (by decide) fun s i _ => ?_
  have done := (s.setRoute_agrees i (s.mix.routes[i].cleared exponent)).before
    (State.reply_agrees _ tag .routeClear .done [])
  dsimp only
  split
  · exact done.quiet (State.report_agrees _ _)
  · exact done

theorem execDuckSet_agreed (tag : Tag) (depth attack release threshold hold : Nat) (s : State) :
    Agreed s (execDuckSet tag depth attack release threshold hold s) :=
  agreed_judged (by decide) (by decide) fun s duck _ =>
    State.Agrees.before (s₂ := { s with mix := { s.mix with duck := duck } }) (State.agrees_of rfl rfl)
      (State.reply_agrees _ _ _ _ _)

theorem execRouteRead_agreed (tag : Tag) (index : Nat) (s : State) : Agreed s (execRouteRead tag index s) :=
  agreed_judged (by decide) (by decide) fun s _ _ => s.reply_agrees _ _ _ _

theorem State.onLink_agrees (s : State) (f : Linked → Linked) : State.Agrees 0 s (s.onLink f) :=
  ⟨id, (Rig.reports_steady _ _).agrees⟩

theorem State.gatherFrame_agrees (s : State) : State.Agrees 0 s s.gatherFrame := by
  unfold State.gatherFrame
  dsimp only
  split
  · exact State.Agrees.trans (m := 0) (n := 0) (s₂ := { s with link := (s.link.gather s.taken.air).completed _ })
      (State.agrees_of rfl rfl) (State.onLink_agrees _ _)
  · exact State.agrees_of rfl rfl

theorem State.beatFrame_agrees (s : State) (p : Port) : State.Agrees 0 s (s.beatFrame p) := s.onLink_agrees _

theorem State.linkFrame_agrees (s : State) : State.Agrees 0 s s.linkFrame := by
  unfold State.linkFrame State.beforeRevert
  exact ((s.gatherFrame_agrees.trans (State.beatFrame_agrees _ .a)).trans (State.beatFrame_agrees _ .b)).trans
    (State.onLink_agrees _ _)

theorem execSiteReport_agreed (p : Port) (w0 w1 w2 : Word32) (s : State) :
    Agreed s (execSiteReport p w0 w1 w2 s) := by
  refine agreed_next ?_
  split
  · exact State.agrees_of rfl rfl
  · exact s.onLink_agrees _

theorem execLinkSetup_agreed (tag : Tag) (f : LinkFields) (s : State) : Agreed s (execLinkSetup tag f s) := by
  refine agreed_judged (by decide) (by decide) fun s change _ => ?_
  have set : State.Agrees 1 s (({ s with link := s.link.setUp change } : State).reply tag .linkSetup .done []) :=
    State.Agrees.before (s₂ := { s with link := s.link.setUp change }) (State.agrees_of rfl rfl)
      (State.reply_agrees _ _ _ _ _)
  dsimp only
  split
  · exact set.quiet (State.onLink_agrees _ _)
  · exact set

theorem execLinkSelect_agreed (tag : Tag) (port force : Nat) (s : State) : Agreed s (execLinkSelect tag port force s) := by
  refine agreed_judged (by decide) (by decide) fun s p _ => State.Agrees.before ?_ (State.reply_agrees _ _ _ _ _)
  split
  · exact .refl s
  · exact s.onLink_agrees _

theorem execLinkRead_agreed (tag : Tag) (s : State) : Agreed s (execLinkRead tag s) :=
  agreed_take (by decide) fun s => s.reply_agrees _ _ _ _

theorem State.monitorFrame_agrees (s : State) : State.Agrees 0 s s.monitorFrame := by
  rw [State.monitorFrame_eq]
  refine State.onRig_agrees ?_
  split
  · exact s.measuredRig_steady.agrees.trans (Rig.endBlocks_agrees _)
  · exact s.measuredRig_steady.agrees

theorem execMonitorSet_agreed (tag : Tag) (setting : Nat) (f : MonitorFields) (s : State) :
    Agreed s (execMonitorSet tag setting f s) :=
  agreed_judgedOnRig fun r a _ => (r.changeSetting_agrees a.1 _).before (Rig.reply_agrees _ _ _ _ _)

theorem execMonitorClear_agreed (tag : Tag) (setting line : Nat) (s : State) :
    Agreed s (execMonitorClear tag setting line s) := by
  refine agreed_judgedOnRig fun r cs _ => ?_
  rw [Rig.changeCells_keeps]
  exact (r.reply_agrees tag .monitorClear .done []).quiet
    (Rig.handedOn_agrees (r := r.reply tag .monitorClear .done []) fun hno => Rig.changeCells_acts r _ hno)

theorem execMonitorRead_agreed (tag : Tag) (setting line : Nat) (s : State) :
    Agreed s (execMonitorRead tag setting line s) := agreed_judgedOnRig fun r _ _ => r.reply_agrees _ _ _ _

/-! ### The switch and the delay -/

theorem Rig.switchFaded_agrees (r : Rig) : Rig.Agrees 0 r r.switchFaded := by
  have stepped : r.AlertsStay r.fadeStepped :=
    Rig.alertsStay_of rfl rfl rfl r.airSwitch.faded_keeps.2.1
  exact ⟨r.switchFaded_ordered.told.uses, (stepped.trans r.switchFaded_ordered.alertsStay).law,
    Rig.switchFaded_ownerLaw⟩

theorem State.switchFrame_agrees (s : State) : State.Agrees 0 s s.switchFrame := ⟨id, s.rig.switchFaded_agrees⟩

/-- A length of 1 to 100 ms in frames (R167). -/
theorem airCheck_ok {cart enable fadeMs : Option Nat} {c : Option (Option CartId)} {e : Option Bool} {f : Option Nat}
    (h : airCheck cart enable fadeMs = .ok (c, e, f)) : ∀ n, f = some n → 1 ≤ n ∧ n ≤ 100 := by
  obtain ⟨-, h⟩ := refuse_bind_ok h
  obtain ⟨c', -, h⟩ := require_bind_ok h
  obtain ⟨e', -, h⟩ := require_bind_ok h
  obtain ⟨f', hf, h⟩ := require_bind_ok h
  cases h
  intro n hn
  subst hn
  obtain ⟨k, -, hk⟩ := optional?_some hf
  exact (inRange?_some hk).2

theorem AirSwitch.setUp_inForm {a : AirSwitch} (h : a.InForm) (c : Option (Option CartId)) (e : Option Bool)
    {f : Option Nat} (hf : ∀ n, f = some n → 1 ≤ n ∧ n ≤ 100) : (a.setUp c e f).InForm := by
  obtain ⟨hapart, hbelow, hweight, hlow, hhigh, hfl, hfh⟩ := h
  have hrange : 48 ≤ (a.setUp c e f).fadeLength ∧ (a.setUp c e f).fadeLength ≤ 4800 := by
    cases f with
    | none => exact ⟨hfl, hfh⟩
    | some n =>
      obtain ⟨h1, h2⟩ := hf n rfl
      show 48 ≤ n * 48 ∧ n * 48 ≤ 4800
      omega
  exact ⟨hapart, hbelow, hweight, hlow, hhigh, hrange.1, hrange.2⟩

/-- The switch's settings replaced, and the owner evaluated where the enable changed (R167). -/
theorem Rig.setUp_agrees {r : Rig} {c : Option (Option CartId)} {e : Option Bool} {f : Option Nat}
    (hf : ∀ n, f = some n → 1 ≤ n ∧ n ≤ 100) (tag : Tag) :
    Rig.Agrees 1 r (if (({ r with airSwitch := r.airSwitch.setUp c e f } : Rig).reply tag .airSetup .done
        []).airSwitch.fallbackEnable = r.airSwitch.fallbackEnable
      then ({ r with airSwitch := r.airSwitch.setUp c e f } : Rig).reply tag .airSetup .done []
      else (({ r with airSwitch := r.airSwitch.setUp c e f } : Rig).reply tag .airSetup .done []).evaluateOwner
        .setup) := by
  have hform : r.ownerLaw → (({ r with airSwitch := r.airSwitch.setUp c e f } : Rig).reply tag .airSetup .done
      []).OwnerInForm := fun hl => by
    obtain ⟨-, hfade, hdeck⟩ := r.ownerLaw_iff.mp hl
    exact ⟨AirSwitch.setUp_inForm hfade c e hf, hdeck⟩
  have stays : r.AlertsStay (({ r with airSwitch := r.airSwitch.setUp c e f } : Rig).reply tag .airSetup .done []) :=
    Rig.alertsStay_of rfl rfl rfl rfl
  have uses : r.egress.Uses 1 (({ r with airSwitch := r.airSwitch.setUp c e f } : Rig).reply tag .airSetup .done
      []).egress := r.egress.push_uses _
  split
  · rename_i hsame
    refine ⟨uses, stays.law, fun hl => (Rig.ownerLaw_iff _).mpr ⟨?_, hform hl⟩⟩
    exact (r.ownerLaw_iff.mp hl).1.trans (Rig.evaluatedOwner_congr (r := r)
      (r' := ({ r with airSwitch := r.airSwitch.setUp c e f } : Rig).reply tag .airSetup .done []) rfl rfl hsame).symm
  · have evaluated := Rig.evaluateOwner_evaluated (({ r with airSwitch := r.airSwitch.setUp c e f } : Rig).reply tag
      .airSetup .done []) .setup
    exact ⟨uses.trans evaluated.told.uses, (stays.trans evaluated.alerts).law, fun hl => evaluated.owner (hform hl)⟩

theorem execAirSetup_agreed (tag : Tag) (cart enable fadeMs : Option Nat) (s : State) :
    Agreed s (execAirSetup tag cart enable fadeMs s) :=
  agreed_judgedOnRig fun _ _ hc => Rig.setUp_agrees (airCheck_ok hc) tag

/-- A frame of the ring written, and then the rig. -/
theorem State.ringStore_agrees {s t : State} (hs : ∃ pgm, t.store = s.ringStore pgm) (hr : Rig.Agrees 0 s.rig t.rig) :
    State.Agrees 0 s t := by
  obtain ⟨pgm, hs⟩ := hs
  refine ⟨fun h => ?_, hr⟩
  unfold State.storeLaw
  rw [hs]
  exact Store.writeFrame_wf _ _ _ _ h

theorem Rig.heldFrame_steady (r : Rig) : r.Steady r.heldFrame := by
  unfold Rig.heldFrame
  dsimp only
  refine Rig.Steady.trans ?_ (Rig.changeDelay_steady _ _ _)
  split
  · exact r.report_steady _
  · exact .refl r

theorem State.delayFrame_agreed (s : State) : Agreed s s.delayFrame := by
  unfold State.delayFrame
  dsimp only
  split
  · exact agreed_next ⟨id, (Rig.setDelay_steady _ _).agrees⟩
  · split
    · exact agreed_fault s _
    · split
      · exact agreed_next (State.ringStore_agrees ⟨_, rfl⟩ s.rig.heldFrame_steady.agrees)
      · split
        · exact agreed_next (State.ringStore_agrees ⟨_, rfl⟩ (s.rig.changeDelay_steady _ _).agrees)
        · exact agreed_next (State.ringStore_agrees ⟨_, rfl⟩ (s.rig.changeDelay_steady _ _).agrees)

theorem execDelaySetup_agreed (tag : Tag) (target dump build catchup : Option Nat) (s : State) :
    Agreed s (execDelaySetup tag target dump build catchup s) :=
  agreed_judgedOnRig fun r _ _ => (r.reply_agrees _ _ _ _).quiet (Rig.changeDelay_steady _ _ _).agrees

theorem execDelayStart_agreed (tag : Tag) (s : State) : Agreed s (execDelayStart tag s) :=
  agreed_judgedOnRig fun r _ _ => (r.changeDelay_steady _ _).agrees.before (Rig.reply_agrees _ _ _ _ _)

theorem execDelayExit_agreed (tag : Tag) (s : State) : Agreed s (execDelayExit tag s) :=
  agreed_judged (by decide) (by decide) fun s _ _ => State.onRig_agrees
    ((s.rig.changeDelay_steady _ _).agrees.before (Rig.reply_agrees _ _ _ _ _))

theorem execDelayDump_agreed (tag : Tag) (s : State) : Agreed s (execDelayDump tag s) :=
  agreed_judgedOnRig fun r _ _ => ((r.report_steady _).trans (Rig.changeDelay_steady _ _ _)).agrees.before
    (Rig.reply_agrees _ _ _ _ _)

theorem execDelayRead_agreed (tag : Tag) (s : State) : Agreed s (execDelayRead tag s) :=
  agreed_takeOnRig fun r => r.reply_agrees _ _ _ _

end Sys2Proof.Machine
end

section
/-!
SUPPORT and the statements O55 and O57: the decks, the running order, the store and the alerts command by command, the
service channel, and every step.
-/

namespace Sys2Proof.Machine

/-! ### Decks and the running order -/

/-- A deck's frame puts its output, and acts on the rig. -/
theorem agreed_putDeck {s : State} {d : DeckId} {x : Frame} {f : Rig → Rig} (h : Rig.Agrees 0 s.rig (f s.rig)) :
    Agreed s (.next ((s.putDeck d x).onRig f)) := agreed_next ⟨id, h⟩

theorem Deck.fadeStep_state {k : Deck} {d : DeckId} (h : k.state ≠ .empty) : (k.fadeStep d).state ≠ .empty := by
  unfold Deck.fadeStep
  split
  · nofun
  · exact h

theorem Deck.looped_state (k : Deck) (d : DeckId) : (k.looped d).state = k.state := by
  unfold Deck.looped
  split <;> rfl

theorem State.playFrame_agreed {s : State} {d : DeckId} (hbusy : (s.rig.deck d).state ≠ .empty) :
    Agreed s (s.playFrame d) := by
  have closed {k : Deck} (hk : k.state ≠ .empty) (done : Bool) :
      Rig.Agrees 0 s.rig ((s.rig.setDeck d k).closeDeckFrame d done) := by
    have set : s.rig.Steady (s.rig.setDeck d k) :=
      (s.rig.setDeck_ordered d k).steady (s.rig.setDeck_sparesF_of_busy k fun hd => hd ▸ hbusy)
    refine set.agrees.trans (Rig.closeDeckFrame_agrees ?_ done)
    rw [Rig.deck_setDeck, if_pos rfl]
    exact hk
  have stepped : (((s.rig.deck d).fadeStep d).looped d).state ≠ .empty :=
    (Deck.looped_state _ d).symm ▸ Deck.fadeStep_state hbusy
  have moved : ((((s.rig.deck d).fadeStep d).looped d).advanced.looped d).state ≠ .empty :=
    (Deck.looped_state _ d).symm ▸ stepped
  unfold State.playFrame
  dsimp only
  split
  · exact agreed_putDeck (closed stepped _)
  · split
    · exact agreed_putDeck (closed moved _)
    · split
      · exact agreed_putDeck (closed moved _)
      · exact agreed_fault s _

theorem State.deckFrame_agreed (s : State) (d : DeckId) : Agreed s (s.deckFrame d) := by
  have rests : Agreed s (.next (s.putDeck d (silenceIn (s.rig.deck d).form))) :=
    agreed_next (State.agrees_of rfl rfl)
  unfold State.deckFrame
  dsimp only
  split
  · rename_i hk
    exact State.playFrame_agreed (by rw [hk]; nofun)
  · rename_i hk
    exact State.playFrame_agreed (by rw [hk]; nofun)
  · exact agreed_putDeck (Rig.loadFrame_steady ‹_›).agrees
  all_goals exact rests

theorem execPrefetchComplete_agreed (d : DeckId) (s : State) : Agreed s (execPrefetchComplete d s) := by
  refine agreed_whenDue fun hdue => agreed_next (State.onRig_agrees (Rig.prefetched_steady ?_).agrees)
  rw [Bool.and_eq_true] at hdue
  rw [beq_iff_eq.mp hdue.1]
  nofun

theorem execDeckStart_agreed (tag : Tag) (deck : Nat) (s : State) : Agreed s (execDeckStart tag deck s) :=
  agreed_judgedOnRig fun _ _ hc => ((Rig.startEntry_steady .request (Rig.deckStartCheck_ok hc)).agrees.before
    (Rig.reply_agrees _ _ _ _ _)).quiet (Rig.assignThenSettle_steady _).agrees

theorem execDeckFade_agreed (tag : Tag) (deck : Nat) (s : State) : Agreed s (execDeckFade tag deck s) :=
  agreed_judgedOnRig fun r d hc => (((r.fadeDeck_ordered d _).steady
    (r.fadeDeck_sparesF (ne_deckF_of_program (Rig.deckCheck_ok hc).1) _)).agrees.before
    (Rig.reply_agrees _ _ _ _ _)).quiet (Rig.settle_steady _).agrees

theorem execDeckCut_agreed (tag : Tag) (deck : Nat) (s : State) : Agreed s (execDeckCut tag deck s) :=
  agreed_judgedOnRig fun r d hc => (((r.cutDeck_ordered d).steady
    (r.cutDeck_sparesF (ne_deckF_of_program (Rig.deckCheck_ok hc).1))).agrees.before
    (Rig.reply_agrees _ _ _ _ _)).quiet (Rig.settle_steady _).agrees

theorem execDeckPause_agreed (tag : Tag) (deck : Nat) (s : State) : Agreed s (execDeckPause tag deck s) :=
  agreed_judgedOnRig fun r d hc => ((r.setDeck_ordered d _).steady
    (r.setDeck_sparesF fun h => absurd h (ne_deckF_of_program (Rig.deckCheck_ok hc).1))).agrees.before
    (Rig.reply_agrees _ _ _ _ _)

theorem execDeckResume_agreed (tag : Tag) (deck : Nat) (s : State) : Agreed s (execDeckResume tag deck s) :=
  agreed_judgedOnRig fun r d hc => (((r.resumeDeck_ordered d).steady
    (r.resumeDeck_sparesF (ne_deckF_of_program (Rig.deckCheck_ok hc).1))).agrees.before
    (Rig.reply_agrees _ _ _ _ _)).quiet (Rig.settle_steady _).agrees

theorem execDeckRead_agreed (tag : Tag) (deck : Nat) (s : State) : Agreed s (execDeckRead tag deck s) :=
  agreed_judgedOnRig fun r _ _ => r.reply_agrees _ _ _ _

theorem execOrderAppend_agreed (tag : Tag) (f : EntryFields) (s : State) : Agreed s (execOrderAppend tag f s) :=
  agreed_judged (by decide) (by decide) fun s _ _ => State.onRig_agrees
    (((s.rig.setEntries_steady _).agrees.before (Rig.reply_agrees _ _ _ _ _)).quiet
      (Rig.assignThenSettle_steady _).agrees)

theorem execOrderInsert_agreed (tag : Tag) (f : EntryFields) (before : Nat) (s : State) :
    Agreed s (execOrderInsert tag f before s) :=
  agreed_judged (by decide) (by decide) fun s _ _ => State.onRig_agrees
    (((s.rig.setEntries_steady _).agrees.before (Rig.reply_agrees _ _ _ _ _)).quiet
      (Rig.assignThenSettle_steady _).agrees)

theorem execOrderRemove_agreed (tag : Tag) (entryTag : Nat) (s : State) :
    Agreed s (execOrderRemove tag entryTag s) :=
  agreed_judgedOnRig fun r e _ => (((r.unloadEntries_steady [e]).trans (Rig.setEntries_steady _ _)).agrees.before
    (Rig.reply_agrees _ _ _ _ _)).quiet (Rig.assignThenSettle_steady _).agrees

theorem execOrderClear_agreed (tag : Tag) (s : State) : Agreed s (execOrderClear tag s) :=
  agreed_takeOnRig fun r => (((r.unloadEntries_steady _).trans (Rig.setEntries_steady _ _)).agrees.before
    (Rig.reply_agrees _ _ _ _ _)).quiet (Rig.settle_steady _).agrees

theorem execOrderNext_agreed (tag : Tag) (s : State) : Agreed s (execOrderNext tag s) :=
  agreed_judgedOnRig fun _ _ hc => ((Rig.startEntry_steady .request (Rig.nextCheck_ok hc)).agrees.before
    (Rig.reply_agrees _ _ _ _ _)).quiet (Rig.assignThenSettle_steady _).agrees

theorem execOrderHold_agreed (tag : Tag) (s : State) : Agreed s (execOrderHold tag s) :=
  agreed_takeOnRig fun r => ((r.setHold_steady true).agrees.before (Rig.reply_agrees _ _ _ _ _)).quiet
    (Rig.settle_steady _).agrees

theorem execOrderRun_agreed (tag : Tag) (s : State) : Agreed s (execOrderRun tag s) :=
  agreed_takeOnRig fun r => ((r.setHold_steady false).agrees.before (Rig.reply_agrees _ _ _ _ _)).quiet
    (Rig.settle_steady _).agrees

theorem execOrderRead_agreed (tag : Tag) (position : Nat) (s : State) : Agreed s (execOrderRead tag position s) :=
  agreed_judgedOnRig fun r _ _ => r.reply_agrees _ _ _ _

/-! ### The store -/

theorem State.recorderFrame_agreed (s : State) (k : RecorderId) : Agreed s (s.recorderFrame k) := by
  unfold State.recorderFrame
  dsimp only
  split
  · exact agreed_next (.refl s)
  · split
    · exact agreed_next ⟨Store.writeFrame_wf _ _ _ _,
        (s.rig.recorderAdvances_agrees k).trans (Rig.recorderEnds_agrees _ k _)⟩
    · exact agreed_fault s _

/-- The regions alone replaced. -/
theorem Rig.setRegions_steady (r : Rig) (delay alert : Region) :
    r.Steady { r with library := { r.library with delayRegion := delay, alertRegion := alert } } :=
  ⟨.refl _, ⟨fun _ => rfl, rfl, rfl, fun _ => rfl, fun _ => rfl⟩, ⟨rfl, rfl, Rig.sparesF_of_decks rfl⟩⟩

theorem execRegionSet_agreed (tag : Tag) (region start pages : Nat) (s : State) :
    Agreed s (execRegionSet tag region start pages s) := by
  refine agreed_takeOnRig fun r => ?_
  split
  · split
    · exact r.reply_agrees _ _ _ _
    · exact (r.setRegions_steady (regionOf start pages) r.library.alertRegion).agrees.before
        (Rig.reply_agrees _ _ _ _ _)
  · split
    · exact r.reply_agrees _ _ _ _
    · exact (r.setRegions_steady r.library.delayRegion (regionOf start pages)).agrees.before
        (Rig.reply_agrees _ _ _ _ _)
  · exact r.reply_agrees _ _ _ _

theorem execCartDefine_agreed (tag : Tag) (cart start pages form cls : Nat) (s : State) :
    Agreed s (execCartDefine tag cart start pages form cls s) := by
  refine agreed_judgedOnRig ?_
  rintro r ⟨c, f, k⟩ hc
  obtain ⟨c', -, hc⟩ := require_bind_ok hc
  obtain ⟨-, hc⟩ := refuse_bind_ok hc
  obtain ⟨f', -, hc⟩ := require_bind_ok hc
  obtain ⟨k', -, hc⟩ := require_bind_ok hc
  obtain ⟨hheld, hc⟩ := refuse_bind_ok hc
  obtain ⟨-, hc⟩ := refuse_bind_ok hc
  obtain ⟨-, hc⟩ := refuse_bind_ok hc
  cases hc
  exact (Rig.setCart_agrees (x := { Cart.empty with
    state := .defined, start := start, pages := pages, form := f, cls := k }) (Rig.unbound_of_not_held hheld)
    nofun).before (Rig.reply_agrees _ _ _ _ _)

theorem execCartDelete_agreed (tag : Tag) (cart : Nat) (s : State) : Agreed s (execCartDelete tag cart s) := by
  refine agreed_judgedOnRig fun r c hc => ?_
  obtain ⟨c', -, hc⟩ := require_bind_ok hc
  obtain ⟨hheld, hc⟩ := refuse_bind_ok hc
  cases hc
  split
  · exact r.reply_agrees _ _ _ _
  · exact (((Rig.setCart_agrees (Rig.unbound_of_not_held hheld) (x := .empty) nofun).trans
      (Rig.removeWaitingFor_steady _ c).agrees).before (Rig.reply_agrees _ _ _ _ _)).quiet
      (Rig.settle_steady _).agrees

theorem execCartMarks_agreed (tag : Tag) (cart cueIn cueOut : Nat) (intro segue : Option Nat) (s : State) :
    Agreed s (execCartMarks tag cart cueIn cueOut intro segue s) :=
  agreed_judgedOnRig fun r c _ =>
    (Rig.setCart_steady (r := r) (c := c) (x := (r.cart c).marked cueIn cueOut intro segue) rfl).agrees.before
      (Rig.reply_agrees _ _ _ _ _)

theorem execCartRecord_agreed (tag : Tag) (cart kind number : Nat) (s : State) :
    Agreed s (execCartRecord tag cart kind number s) := by
  refine agreed_judgedOnRig ?_
  rintro r ⟨c, source, k⟩ hc
  obtain ⟨c', -, hc⟩ := require_bind_ok hc
  obtain ⟨source', -, hc⟩ := require_bind_ok hc
  obtain ⟨-, hc⟩ := refuse_bind_ok hc
  obtain ⟨hstate, hc⟩ := refuse_bind_ok hc
  obtain ⟨-, hc⟩ := refuse_bind_ok hc
  obtain ⟨k', hk, hc⟩ := require_bind_ok hc
  cases hc
  rw [Bool.or_eq_false_iff] at hstate
  have bound := Rig.cartBound_agrees (x := (r.cart c).cleared .recording) (Rig.freeRecorder_binding hk)
    (by simpa using hstate.2) rfl source (r.cart c).capacity
  exact ((bound.trans (Rig.removeWaitingFor_steady _ c).agrees).before (Rig.reply_agrees _ _ _ _ _)).quiet
    (Rig.settle_steady _).agrees

theorem execCartRecordStop_agreed (tag : Tag) (cart : Nat) (s : State) : Agreed s (execCartRecordStop tag cart s) := by
  refine agreed_judgedOnRig ?_
  rintro r ⟨c, k⟩ hc
  obtain ⟨c', -, hc⟩ := require_bind_ok hc
  obtain ⟨-, hc⟩ := refuse_bind_ok hc
  obtain ⟨k', hk, hc⟩ := require_bind_ok hc
  cases hc
  have ends := (Rig.cartRecordingEnds_moved (r := r.reply tag .cartRecordStop .done [])
    (Rig.recorderOf_binding hk) .stop).aside rfl
  exact (r.reply_agrees tag .cartRecordStop .done []).quiet ends.agrees

theorem execCartRead_agreed (tag : Tag) (cart : Nat) (s : State) : Agreed s (execCartRead tag cart s) :=
  agreed_judgedOnRig fun r _ _ => r.reply_agrees _ _ _ _

/-! ### Alerts -/

theorem execAlertNotice_agreed (tag : Tag) (f : NoticeFields) (s : State) : Agreed s (execAlertNotice tag f s) :=
  agreed_judgedOnRig fun r n _ => (r.intake_agrees s.clock n).before (Rig.reply_agrees _ _ _ _ _)

theorem execAlertAudioEnd_agreed (tag : Tag) (originator identity : Nat) (s : State) :
    Agreed s (execAlertAudioEnd tag originator identity s) := by
  refine agreed_judgedOnRig fun r i hc => ?_
  obtain ⟨i', -, hc⟩ := bind_ok hc
  obtain ⟨hstate, hc⟩ := refuse_bind_ok hc
  cases hc
  have hrec : (r.record i).state = .recording := by simpa using hstate
  exact (r.reply_agrees tag .alertAudioEnd .done []).quiet
    (Rig.alertRecordingEnds_agrees (r := r.reply tag .alertAudioEnd .done []) hrec false _)

theorem execAlertCancel_agreed (tag : Tag) (originator identity : Nat) (s : State) :
    Agreed s (execAlertCancel tag originator identity s) :=
  agreed_judgedOnRig fun r i _ => (r.reply_agrees _ _ _ _).quiet (Rig.cancelAlert_agrees _ i)

theorem execAlertConfirm_agreed (tag : Tag) (record : Nat) (s : State) : Agreed s (execAlertConfirm tag record s) :=
  agreed_judgedOnRig fun r _ hc => (r.reply_agrees tag .alertConfirm .done []).quiet
    (Rig.confirmAlert_agrees (r := r.reply tag .alertConfirm .done []) (Rig.undecidedCheck_ok hc))

theorem execAlertDecline_agreed (tag : Tag) (record : Nat) (s : State) : Agreed s (execAlertDecline tag record s) :=
  agreed_judgedOnRig fun r _ hc => (r.reply_agrees tag .alertDecline .done []).quiet
    (Rig.declineAlert_agrees (r := r.reply tag .alertDecline .done []) (Rig.undecidedCheck_ok hc))

theorem execAlertAbort_agreed (tag : Tag) (record : Nat) (s : State) : Agreed s (execAlertAbort tag record s) := by
  refine agreed_judgedOnRig fun r i hc => ?_
  obtain ⟨i', -, hc⟩ := bind_ok hc
  obtain ⟨hstate, hc⟩ := refuse_bind_ok hc
  cases hc
  exact (Rig.stopAiring_agrees (by simpa using hstate) (by decide) _).before (Rig.reply_agrees _ _ _ _ _)

theorem execAlertForget_agreed (tag : Tag) (record : Nat) (s : State) : Agreed s (execAlertForget tag record s) := by
  refine agreed_judgedOnRig fun r i hc => ?_
  obtain ⟨i', -, hc⟩ := require_bind_ok hc
  obtain ⟨hlive, hc⟩ := refuse_bind_ok hc
  cases hc
  exact (Rig.restRecord_aside (a := .free) (AlertRecord.atRest_of_not_live hlive)
    (show AlertState.free.atRest by decide) nofun).agrees.before (Rig.reply_agrees _ _ _ _ _)

theorem execAlertRead_agreed (tag : Tag) (record : Nat) (s : State) : Agreed s (execAlertRead tag record s) :=
  agreed_judgedOnRig fun r _ _ => r.reply_agrees _ _ _ _

theorem Rig.setFilter_steady (r : Rig) (i : Fin 24) (f : Filter) : r.Steady (r.setFilter i f) :=
  Rig.steady_of (.refl _) rfl rfl rfl rfl rfl rfl

theorem execFilterSet_agreed (tag : Tag) (f : FilterFields) (s : State) : Agreed s (execFilterSet tag f s) :=
  agreed_judgedOnRig fun r a _ => (r.setFilter_steady a.1 a.2).agrees.before (Rig.reply_agrees _ _ _ _ _)

theorem execFilterClear_agreed (tag : Tag) (index : Nat) (s : State) : Agreed s (execFilterClear tag index s) :=
  agreed_judgedOnRig fun r i _ => (r.setFilter_steady i _).agrees.before (Rig.reply_agrees _ _ _ _ _)

/-! ### Restart, power-on and the small requests -/

theorem Rig.restarted_alertLaw (r : Rig) : r.restarted.alertLaw := by
  have record (i : RecordId) : r.restarted.record i =
      if (r.record i).live then { r.record i with state := .aborted } else r.record i := vmap_get _ _ i
  have rests (i : RecordId) : (r.restarted.record i).state.atRest ∧ (r.restarted.record i).state ≠ .queued := by
    rw [record]
    split
    · exact ⟨show AlertState.aborted.atRest by decide, nofun⟩
    · rename_i hlive
      rw [Bool.not_eq_true] at hlive
      refine ⟨AlertRecord.atRest_of_not_live hlive, fun hq => ?_⟩
      unfold AlertRecord.live at hlive
      rw [hq] at hlive
      cases hlive
  have recorder (k : RecorderId) : r.restarted.recorder k = .free := by
    show (Vector.replicate 4 Recorder.free)[k] = .free
    simp
  have cart (c : CartId) : (r.restarted.cart c).state ≠ .recording := by
    have hc : r.restarted.cart c = (r.cart c).restarted := vmap_get _ _ c
    rw [hc]
    unfold Cart.restarted
    split
    · nofun
    · assumption
  refine ⟨fun i => iff_of_false (rests i).1.1 nofun, rfl, fun _ i => (rests i).2,
    fun i => iff_of_false (rests i).1.2 ?_, fun c => iff_of_false (cart c) ?_, fun j k _ hj => ?_⟩
  · rintro ⟨k, hk⟩
    rw [recorder] at hk
    cases hk
  · rintro ⟨k, hk⟩
    rw [recorder] at hk
    cases hk
  · rw [recorder] at hj
    exact absurd rfl hj

theorem Rig.restarted_ownerLaw {r : Rig} (h : r.ownerLaw) : r.restarted.ownerLaw := by
  obtain ⟨-, hfade, -⟩ := r.ownerLaw_iff.mp h
  refine (Rig.ownerLaw_iff _).mpr ⟨?_, ⟨nofun, fun hn => absurd rfl hn, Nat.zero_le _, hfade.spanLow, hfade.spanHigh,
    hfade.fadeLow, hfade.fadeHigh⟩, fun _ => ?_⟩
  · have hacts : r.restarted.monitors.acts dlySilence = false := by
      have hcell : r.restarted.monitors.cells[dlySilence] = .reset := by simp [Rig.restarted, Monitors.restarted]
      unfold Monitors.acts
      rw [hcell]
      rfl
    unfold Rig.evaluatedOwner
    rw [hacts]
    rfl
  · have hdeck : r.restarted.deck deckF = (r.deck deckF).emptied := vmap_get _ _ deckF
    rw [hdeck]
    rfl

theorem execRestart_agreed (tag : Tag) (s : State) : Agreed s (execRestart tag s) := by
  refine agreed_take (by decide) fun s => ?_
  have restarts (t : State) : State.Agrees 0 t { t with
      mix := t.mix.restarted, rig := t.rig.restarted
      completed := t.completed.decksSilent, taken := t.taken.decksSilent } :=
    ⟨id, .refl _, fun _ => t.rig.restarted_alertLaw, Rig.restarted_ownerLaw⟩
  exact ((s.reply_agrees tag .restart .done []).quiet (restarts _)).quiet (State.restartCallers_agrees _)

theorem execStatusRead_agreed (tag : Tag) (s : State) : Agreed s (execStatusRead tag s) :=
  agreed_take (by decide) fun s => (s.reply_agrees tag .statusRead .done s.statusData).quiet
    (State.onRig_agrees (Rig.setEgress_agrees ⟨fun hf _ => ⟨hf.room, hf.head⟩, Nat.le_refl _, Nat.le_refl _⟩))

theorem execOutmapSet_agreed (tag : Tag) (items : List (Nat × Nat)) (s : State) : Agreed s (execOutmapSet tag items s) :=
  agreed_judged (by decide) (by decide) fun s is _ => State.Agrees.before
    (s₂ := { s with outMap := is.foldl (fun m (i : Fin 16 × Signal) => vset m i.1 i.2) s.outMap })
    (State.agrees_of rfl rfl) (State.reply_agrees _ _ _ _ _)

theorem execPowerOn_agreed (s : State) : Agreed s (execPowerOn s) := by
  intro t ht
  cases ht
  refine ⟨fun _ => rfl, fun _ => ?_, fun _ => reset_alertLaw, fun _ => reset_ownerLaw⟩
  exact ⟨by show (0 : Nat) ≤ 32; decide, rfl, rfl⟩

theorem execTransmitFrame_agreed (s : State) : Agreed s (execTransmitFrame s) :=
  agreed_next ⟨id, Rig.setEgress_agrees s.rig.egress.advanced_uses⟩

/-! ### The service channel -/

theorem State.rejectMessage_agrees (s : State) (m : OpenMessage) (st : Status) :
    State.Agrees 0 s (s.rejectMessage m st) := ⟨id, Rig.command_agrees _ _⟩

theorem State.badForm_agrees (s : State) : State.Agrees 0 s s.badForm := by
  unfold State.badForm
  split
  · exact .refl s
  · exact s.rejectMessage_agrees _ _

theorem State.firstWord_agrees (s : State) (p : Nat) : State.Agrees 0 s (s.firstWord p) := by
  unfold State.firstWord
  dsimp only
  split
  · exact s.badForm_agrees
  · exact s.badForm_agrees.trans (State.agrees_of (s := s.badForm)
      (t := { s.badForm with inbound := some (openWith p) }) rfl rfl)

theorem State.nextWord_agrees (s : State) (p : Nat) : State.Agrees 0 s (s.nextWord p) := by
  unfold State.nextWord
  split
  · exact .refl s
  · split
    · exact State.agrees_of rfl rfl
    · exact s.rejectMessage_agrees _ _

/-- Every request that a message carries keeps the four laws. -/
theorem carryOut_agreed (i : Instr) (s : State) : Agreed s (carryOut i s) := by
  cases i
  case statusRead tag => exact execStatusRead_agreed tag s
  case timeSet tag n => exact execTimeSet_agreed tag n s
  case restart tag => exact execRestart_agreed tag s
  case routeSet tag a b c d e f g h => exact execRouteSet_agreed tag a b c d e f g h s
  case routeGain tag a b c => exact execRouteGain_agreed tag a b c s
  case routeClear tag a b => exact execRouteClear_agreed tag a b s
  case routeRead tag a => exact execRouteRead_agreed tag a s
  case duckSet tag a b c d e => exact execDuckSet_agreed tag a b c d e s
  case outmapSet tag items => exact execOutmapSet_agreed tag items s
  case regionSet tag a b c => exact execRegionSet_agreed tag a b c s
  case cartDefine tag a b c d e => exact execCartDefine_agreed tag a b c d e s
  case cartDelete tag a => exact execCartDelete_agreed tag a s
  case cartMarks tag a b c d e => exact execCartMarks_agreed tag a b c d e s
  case cartRecord tag a b c => exact execCartRecord_agreed tag a b c s
  case cartRecordStop tag a => exact execCartRecordStop_agreed tag a s
  case cartRead tag a => exact execCartRead_agreed tag a s
  case deckStart tag a => exact execDeckStart_agreed tag a s
  case deckFade tag a => exact execDeckFade_agreed tag a s
  case deckCut tag a => exact execDeckCut_agreed tag a s
  case deckPause tag a => exact execDeckPause_agreed tag a s
  case deckResume tag a => exact execDeckResume_agreed tag a s
  case deckRead tag a => exact execDeckRead_agreed tag a s
  case orderAppend tag e => exact execOrderAppend_agreed tag e s
  case orderInsert tag e b => exact execOrderInsert_agreed tag e b s
  case orderRemove tag a => exact execOrderRemove_agreed tag a s
  case orderClear tag => exact execOrderClear_agreed tag s
  case orderNext tag => exact execOrderNext_agreed tag s
  case orderHold tag => exact execOrderHold_agreed tag s
  case orderRun tag => exact execOrderRun_agreed tag s
  case orderRead tag a => exact execOrderRead_agreed tag a s
  case callAnswer tag a => exact execCallAnswer_agreed tag a s
  case callReady tag a => exact execCallReady_agreed tag a s
  case callTake tag a => exact execCallTake_agreed tag a s
  case callPark tag a => exact execCallPark_agreed tag a s
  case callDrop tag a => exact execCallDrop_agreed tag a s
  case callSetup tag a b items => exact execCallSetup_agreed tag a b items s
  case lineRead tag a => exact execLineRead_agreed tag a s
  case lineRing tag a b => exact execLineRing_agreed tag a b s
  case lineConnected tag a b => exact execLineConnected_agreed tag a b s
  case lineHangup tag a b => exact execLineHangup_agreed tag a b s
  case delaySetup tag a b c d => exact execDelaySetup_agreed tag a b c d s
  case delayStart tag => exact execDelayStart_agreed tag s
  case delayExit tag => exact execDelayExit_agreed tag s
  case delayDump tag => exact execDelayDump_agreed tag s
  case delayRead tag => exact execDelayRead_agreed tag s
  case alertNotice tag n => exact execAlertNotice_agreed tag n s
  case alertAudioEnd tag a b => exact execAlertAudioEnd_agreed tag a b s
  case alertCancel tag a b => exact execAlertCancel_agreed tag a b s
  case alertConfirm tag a => exact execAlertConfirm_agreed tag a s
  case alertDecline tag a => exact execAlertDecline_agreed tag a s
  case alertAbort tag a => exact execAlertAbort_agreed tag a s
  case alertForget tag a => exact execAlertForget_agreed tag a s
  case alertRead tag a => exact execAlertRead_agreed tag a s
  case filterSet tag f => exact execFilterSet_agreed tag f s
  case filterClear tag a => exact execFilterClear_agreed tag a s
  case airSetup tag a b c => exact execAirSetup_agreed tag a b c s
  case monitorSet tag a f => exact execMonitorSet_agreed tag a f s
  case monitorClear tag a b => exact execMonitorClear_agreed tag a b s
  case monitorRead tag a b => exact execMonitorRead_agreed tag a b s
  case linkSetup tag f => exact execLinkSetup_agreed tag f s
  case linkSelect tag a b => exact execLinkSelect_agreed tag a b s
  case linkRead tag => exact execLinkRead_agreed tag s
  all_goals exact agreed_next (.refl s)

theorem execServiceWord_agreed (w : Word32) (s : State) : Agreed s (execServiceWord w s) := by
  unfold execServiceWord
  split
  · exact agreed_next (.refl s)
  · split
    · exact agreed_next s.badForm_agrees
    · exact agreed_next (s.firstWord_agrees _)
    · exact agreed_next (s.nextWord_agrees _)
    · unfold State.lastWord
      split
      · exact agreed_next (.refl s)
      · split
        · exact agreed_next (s.rejectMessage_agrees _ _)
        · exact carryOut_agreed _ s

theorem execBadMessage_agreed (p : BitVec 30) (s : State) : Agreed s (execBadMessage p s) := by
  have same : Agreed s (.next s) := agreed_next (.refl s)
  unfold execBadMessage
  split
  · exact same
  · split
    · exact same
    · split
      · exact agreed_next (s.rejectMessage_agrees _ _)
      · exact same

/-! ### Every command, every step -/

/-- Every command keeps the four laws: the events of the part one by one, and the requests as a message carries them. -/
theorem exec_agreed (i : Instr) (s : State) : Agreed s (exec i s) := by
  have request := carryOut_agreed i s
  have clock : Agreed s (.next s.clockFrame) := agreed_next s.clockFrame_agrees
  have mix : Agreed s (.next s.mixFrame) := agreed_next s.mixFrame_agrees
  have switch : Agreed s (.next s.switchFrame) := agreed_next s.switchFrame_agrees
  have monitor : Agreed s (.next s.monitorFrame) := agreed_next s.monitorFrame_agrees
  have link : Agreed s (.next s.linkFrame) := agreed_next s.linkFrame_agrees
  cases i
  case powerOn => exact execPowerOn_agreed s
  case activitySeen => exact execActivitySeen_agreed s
  case activityCeases => exact execActivityCeases_agreed s
  case alignmentFound => exact execAlignmentFound_agreed s
  case alignedFrame lanes => exact execAlignedFrame_agreed lanes s
  case failedPosition => exact execFailedPosition_agreed s
  case settlingFailure => exact agreed_whenDue (f := fun s => .next s.settleFailure) fun _ => agreed_next s.settleFailure_agrees
  case lockEvent => exact agreed_whenDue (f := fun s => .next s.settleFrame) fun _ => agreed_next s.settleFrame_agrees
  case frameLoss => exact agreed_whenDue (f := fun s => .next s.lockedFailure) fun _ => agreed_next s.lockedFailure_agrees
  case stationClockFrame => exact clock
  case secondAdvance | timeReached | validityExpiry | windowExpiry | answerTimerExpiry =>
    exact agreed_whenDue (f := fun s => .next s.clockFrame) fun _ => clock
  case mixFrame => exact mix
  case routeRampEnd | gateRampEnd | voiceHoldExpiry =>
    exact agreed_whenDue (f := fun s => .next s.mixFrame) fun _ => mix
  case transmitFrame => exact execTransmitFrame_agreed s
  case deckFrame d => exact s.deckFrame_agreed d
  case prefetchComplete d => exact execPrefetchComplete_agreed d s
  case autoFadeStart d | segueEvent d | playEnd d | fadeEnd d =>
    exact agreed_whenDue (f := fun s => s.deckFrame d) fun _ => s.deckFrame_agreed d
  case recorderFrame k => exact s.recorderFrame_agreed k
  case cartRecordingFull k | alertDeclaredLength k | alertSlotFull k =>
    exact agreed_whenDue (f := fun s => s.recorderFrame k) fun _ => s.recorderFrame_agreed k
  case delayFrame => exact s.delayFrame_agreed
  case targetLanding | bypassReached | delayOverrun | dumpCrossfadeEnd =>
    exact agreed_whenDue (f := fun s => s.delayFrame) fun _ => s.delayFrame_agreed
  case switchFrame => exact switch
  case crossfadeEnd => exact agreed_whenDue (f := fun s => .next s.switchFrame) fun _ => switch
  case monitorFrame => exact monitor
  case monitorBlockEnd => exact agreed_whenDue (f := fun s => .next s.monitorFrame) fun _ => monitor
  case lineQuietFault k => exact execLineQuietFault_agreed k s
  case lineOverloadChange => exact execLineOverloadChange_agreed s
  case linkFrame => exact link
  case linkBlockComplete | heartbeatExpiry | revertiveReturn =>
    exact agreed_whenDue (f := fun s => .next s.linkFrame) fun _ => link
  case siteReport p w0 w1 w2 => exact execSiteReport_agreed p w0 w1 w2 s
  case serviceWord w => exact execServiceWord_agreed w s
  case badMessage p => exact execBadMessage_agreed p s
  all_goals exact request

/-- A step takes nothing from the laws: the queue's rest is no part of any block. -/
theorem step_agrees {s t : State} (h : step s = .next t) : s.StepAgrees t := by
  unfold step at h
  split at h
  · cases h
    exact (State.Agrees.refl s).step
  · have kept := exec_agreed _ _ t h
    exact ⟨kept.store, kept.egress, kept.alerts, kept.owner⟩

/-- Settles O55: every command keeps the store in form and the queue in bounds, by the lemma of its own for each. -/
theorem everyStepKeepsStoreAndQueueInForm : Obligations.EveryStepKeepsStoreAndQueueInForm := by
  intro s t h
  have kept := step_agrees h
  exact ⟨kept.store, kept.egress⟩

/-- Settles O57: every command keeps the alerts and the owner in agreement, by the lemma of its own for each. -/
theorem everyStepKeepsAlertsAndOwnerInAgreement : Obligations.EveryStepKeepsAlertsAndOwnerInAgreement := by
  intro s t h
  have kept := step_agrees h
  exact ⟨kept.alerts, kept.owner⟩

end Sys2Proof.Machine
end

section
/-!
SUPPORT and the statement on the regions: O26.
-/

namespace Sys2Proof.Machine

/-! ### Requests on the rig, answered by the verdict of their checks -/

/-- A check that ends a sequence. -/
theorem refuse_last {x : Status} {b c : Bool} (hb : c = b) : refuse x c = decided [(b, x)] () := by
  rw [hb]
  cases b <;> rfl

/-- A request on the rig: its outcome is the verdict of its checks. -/
theorem answer_decidedOnRig {α : Type} {s : State} {e : Egress} {tag : Tag} {k : RequestKind}
    (he : s.rig.egress.secure 1 = some e) {check : Rig → Except Status α} {f : Rig → α → Rig}
    {checks : List (Bool × Status)} {a : α} (hc : check { s.rig with egress := e } = decided checks a) :
    (.next (s.takeOnRig fun r => r.judged tag k (check r) (f r)) : Answer) =
      .next (s.outcome e tag k checks ((s.received e).onRig fun r => f r a).release) := by
  unfold State.outcome
  unfold decided at hc
  cases hfirst : firstRefusal checks with
  | some x => exact answer_refusedOnRig he (by rw [hc, hfirst])
  | none =>
    rw [hfirst] at hc
    rw [State.takeOnRig_room _ he, hc, Rig.judged_ok]
    rfl

/-- A change of the rig behind which the reply stands: no place stays secured. -/
theorem State.received_replied {s : State} {e : Egress} (he : s.rig.egress.secure 1 = some e) (tag : Tag)
    (k : RequestKind) (d : List Nat) {f : Rig → Rig}
    (hf : ∀ (r : Rig) (x : Egress), f { r with egress := x } = { f r with egress := x }) :
    ((s.received e).onRig fun r => (f r).reply tag k .done d).release =
      (s.answered e [doneWith tag k d]).onRig f := by
  have hegress : (f { s.rig with egress := e }).egress = e := by rw [hf]
  calc ((s.received e).onRig fun r => (f r).reply tag k .done d).release
    _ = { s with inbound := none, rig := { f { s.rig with egress := e } with
          egress := { (f { s.rig with egress := e }).egress.push (doneWith tag k d) with reserved := 0 } } } := rfl
    _ = { s with inbound := none, rig := { f { s.rig with egress := e } with
          egress := e.answered [doneWith tag k d] } } := by rw [hegress, Egress.push_secured he]; rfl
    _ = (s.answered e [doneWith tag k d]).onRig f := by
      show _ = { s with inbound := none, rig := f { s.rig with egress := e.answered [doneWith tag k d] } }
      rw [hf s.rig e, hf s.rig (e.answered [doneWith tag k d])]

/-! ### Pages in use -/

theorem Library.meetsCart_iff (l : Library) (start pages : Nat) (except : Option CartId) :
    l.meetsCart start pages except = true ↔ ∃ c : CartId, some c ≠ except ∧ (l.carts[c]).state ≠ .empty ∧
      pagesMeet start pages (l.carts[c]).start (l.carts[c]).pages = true := by
  unfold Library.meetsCart
  rw [List.any_eq_true]
  simp only [List.mem_finRange, true_and, Bool.and_eq_true, bne_iff_ne]
  exact exists_congr fun c => by tauto

theorem Rig.anyAlertLive_iff (r : Rig) : r.anyAlertLive = true ↔ ∃ i : RecordId, (r.record i).live = true :=
  any_toList_iff _ _

/-- A run of pages meets the other region or a cart that is not EMPTY (R40). -/
theorem Rig.pagesInUse (r : Rig) (start pages : Nat) (other : Region) :
    (pagesMeet start pages other.start other.pages || r.library.meetsCart start pages none) =
      decide (pagesMeet start pages other.start other.pages = true ∨ ∃ c : CartId, (r.cart c).state ≠ .empty ∧
        pagesMeet start pages (r.cart c).start (r.cart c).pages = true) := by
  rw [Bool.eq_iff_iff, Bool.or_eq_true, decide_eq_true_iff, Library.meetsCart_iff]
  exact or_congr_right (exists_congr fun c => and_iff_right nofun)

theorem Rig.delayRegionCheck_decided (r : Rig) (start pages : Nat) : r.delayRegionCheck start pages =
    decided [(128 < pages ∨ (pages ≠ 0 ∧ 4096 < start + pages), .range), (r.delay.state ≠ .bypass, .state),
      (pagesMeet start pages r.library.alertRegion.start r.library.alertRegion.pages = true ∨
        ∃ c : CartId, (r.cart c).state ≠ .empty ∧
          pagesMeet start pages (r.cart c).start (r.cart c).pages = true, .busy)] () := by
  refine refuse_decided ?_ (refuse_decided ?_ (refuse_last (r.pagesInUse start pages _)))
  · rw [Bool.eq_iff_iff]
    simp
  · rw [Bool.eq_iff_iff]
    simp

theorem Rig.alertRegionCheck_decided (r : Rig) (start pages : Nat) : r.alertRegionCheck start pages =
    decided [(pages % 16 ≠ 0 ∨ 2048 < pages ∨ (pages ≠ 0 ∧ 4096 < start + pages), .range),
      (∃ i : RecordId, (r.record i).live = true, .busy),
      (pagesMeet start pages r.library.delayRegion.start r.library.delayRegion.pages = true ∨
        ∃ c : CartId, (r.cart c).state ≠ .empty ∧
          pagesMeet start pages (r.cart c).start (r.cart c).pages = true, .busy)] () := by
  refine refuse_decided ?_ (refuse_decided ?_ (refuse_last (r.pagesInUse start pages _)))
  · rw [Bool.eq_iff_iff]
    simp [or_assoc]
  · rw [Bool.eq_iff_iff, r.anyAlertLive_iff, decide_eq_true_iff]

/-! ### REGION_SET -/

theorem execRegionSet_delay (s : State) (tag : Tag) (start pages : Nat) : exec (.regionSet tag 0 start pages) s =
    .next (s.takeOnRig fun r => r.judged tag .regionSet (r.delayRegionCheck start pages) fun _ =>
      ({ r with library := { r.library with delayRegion := regionOf start pages } }).reply tag .regionSet .done []) := by
  refine congrArg (fun f => Host.Outcome.next (s.takeOnRig f)) (funext fun r => ?_)
  unfold Rig.judged
  cases r.delayRegionCheck start pages <;> rfl

theorem execRegionSet_alert (s : State) (tag : Tag) (start pages : Nat) : exec (.regionSet tag 1 start pages) s =
    .next (s.takeOnRig fun r => r.judged tag .regionSet (r.alertRegionCheck start pages) fun _ =>
      ({ r with library := { r.library with alertRegion := regionOf start pages } }).reply tag .regionSet .done []) := by
  refine congrArg (fun f => Host.Outcome.next (s.takeOnRig f)) (funext fun r => ?_)
  unfold Rig.judged
  cases r.alertRegionCheck start pages <;> rfl

/-- A region that is neither the delay's nor the alerts' is refused (R40). -/
theorem execRegionSet_other {s : State} {e : Egress} (he : s.rig.egress.secure 1 = some e) (tag : Tag) {n : Nat}
    (hn : 2 ≤ n) (start pages : Nat) : exec (.regionSet tag n start pages) s =
      .next (s.answered e [refusedWith tag .regionSet .range]) := by
  match n, hn with
  | n + 2, _ => exact congrArg Host.Outcome.next (State.takeOnRig_room _ he)

/-- Settles O26: each region's outcome by the verdict of its checks, and RANGE for any other region. -/
theorem regionSetSetsOneRegion : Obligations.RegionSetSetsOneRegion := by
  intro s e tag start pages he given
  refine ⟨?_, ?_, fun n hn => execRegionSet_other he tag hn start pages⟩
  · rw [execRegionSet_delay, answer_decidedOnRig he (Rig.delayRegionCheck_decided _ start pages)]
    rw [State.received_replied he tag .regionSet []
      (f := fun r => { r with library := { r.library with delayRegion := regionOf start pages } }) fun _ _ => rfl]
    rfl
  · rw [execRegionSet_alert, answer_decidedOnRig he (Rig.alertRegionCheck_decided _ start pages)]
    rw [State.received_replied he tag .regionSet []
      (f := fun r => { r with library := { r.library with alertRegion := regionOf start pages } }) fun _ _ => rfl]
    rfl

end Sys2Proof.Machine
end

section
/-!
SUPPORT and the statement on the frame of a cart recording: O29.
-/

namespace Sys2Proof.Machine

/-! ### The words of a frame (R37, R51) -/

/-- The words that one frame from a source takes, with the samples they take: the page `start`, position `p`. -/
def RecordSource.words (o : Outputs) (start p : Nat) : RecordSource → List (Nat × Sample)
  | .lane x => [(start * 65536 + p, o.lanes[x])]
  | .pair j => [(start * 65536 + 2 * p, o.lanes[(⟨2 * j.val, by omega⟩ : Fin 16)]),
      (start * 65536 + 2 * p + 1, o.lanes[(⟨2 * j.val + 1, by omega⟩ : Fin 16)])]

theorem RecordSource.words_inStore (src : RecordSource) (o : Outputs) (start p : Nat) :
    inStore (extentWords src.form start p) = true ↔ ∀ w ∈ src.words o start p, w.1 < 268435456 := by
  simp only [inStore, List.all_eq_true, decide_eq_true_eq]
  cases src <;> simp [extentWords, RecordSource.form, RecordSource.words, Config.pageWords, Config.storeWords]

/-- The words of a frame written read as its samples, and every other word as before. -/
theorem RecordSource.words_written (src : RecordSource) (o : Outputs) (st : Store) (start p : Nat) :
    (∀ w ∈ src.words o start p, (st.writeFrame start p (o.recorded src)).read w.1 = w.2) ∧
      ∀ a, (∀ w ∈ src.words o start p, w.1 ≠ a) → (st.writeFrame start p (o.recorded src)).read a = st.read a := by
  cases src with
  | lane x =>
    simp only [RecordSource.words, List.mem_singleton, forall_eq]
    exact ⟨(Store.read_write ..).trans (if_pos rfl), fun a ha => (Store.read_write ..).trans (if_neg ha.symm)⟩
  | pair j =>
    simp only [RecordSource.words, List.mem_cons, List.not_mem_nil, or_false, forall_eq_or_imp, forall_eq]
    refine ⟨⟨?_, (Store.read_write ..).trans (if_pos rfl)⟩, fun a ⟨hl, hr⟩ => ?_⟩
    · exact ((Store.read_write ..).trans (if_neg (Nat.ne_of_lt (Nat.lt_succ_self _)))).trans
        ((Store.read_write ..).trans (if_pos rfl))
    · exact ((Store.read_write ..).trans (if_neg hr.symm)).trans ((Store.read_write ..).trans (if_neg hl.symm))

/-! ### A recorder's frame event -/

/-- The frame event of a recorder whose words lie in the store (R51). -/
theorem execRecorderFrame_writes {s : State} {k : RecorderId} {start : Nat}
    (hstart : s.rig.targetStart (s.rig.recorder k).binding = some start)
    (hwords : ∀ w ∈ (s.rig.recorder k).source.words s.taken start (s.rig.recorder k).position, w.1 < 268435456) :
    s.recorderFrame k = .next { s with
      store := s.store.writeFrame start (s.rig.recorder k).position (s.taken.recorded (s.rig.recorder k).source)
      rig := (s.rig.recorderAdvances k).recorderEnds k s.clock.seconds } := by
  unfold State.recorderFrame
  dsimp only
  rw [hstart]
  exact if_pos ((RecordSource.words_inStore _ _ _ _).mpr hwords)

theorem execRecorderFrame_free {s : State} {k : RecorderId} (h : (s.rig.recorder k).binding = .free) :
    exec (.recorderFrame k) s = .next s := by
  show s.recorderFrame k = .next s
  unfold State.recorderFrame
  dsimp only
  rw [h]
  rfl

theorem vset_twice {α : Type} {n : Nat} (v : Vector α n) (i : Fin n) (x y : α) :
    vset (vset v i x) i y = vset v i y := by
  ext j hj
  simp only [vset_getElem]
  split <;> rfl

/-- The rig after a cart recording's position has advanced, with the cart's length (R51). -/
theorem Rig.recorderAdvances_cart {r : Rig} {k : RecorderId} {c : CartId} (hk : (r.recorder k).binding = .cart c) :
    r.recorderAdvances k = (r.setRecorder k { r.recorder k with position := (r.recorder k).position + 1 }).setCart c
      { r.cart c with length := (r.recorder k).position + 1 } := by
  unfold Rig.recorderAdvances
  dsimp only
  rw [hk]

theorem Rig.recorderEnds_cart {r : Rig} {k : RecorderId} {c : CartId} (hk : (r.recorder k).binding = .cart c)
    (now : Nat) : r.recorderEnds k now =
      if (r.recorder k).limit ≤ (r.recorder k).position then r.cartRecordingEnds k c .full else r := by
  unfold Rig.recorderEnds
  dsimp only
  rw [hk]

/-- A recorder that has advanced keeps its binding and its limit. -/
theorem Rig.recorderAdvances_recorder {r : Rig} {k : RecorderId} {c : CartId}
    (hk : (r.recorder k).binding = .cart c) : (r.recorderAdvances k).recorder k =
      { r.recorder k with position := (r.recorder k).position + 1 } := by
  rw [Rig.recorderAdvances_cart hk]
  exact (r.recorder_setRecorder k k _).trans (if_pos rfl)

/-- A cart recording goes on below its limit. -/
theorem Rig.cartFrame_goesOn {r : Rig} {k : RecorderId} {c : CartId} (hk : (r.recorder k).binding = .cart c)
    (hlimit : (r.recorder k).position + 1 < (r.recorder k).limit) (now : Nat) :
    (r.recorderAdvances k).recorderEnds k now = { r with library := { r.library with
      carts := vset r.library.carts c { r.cart c with length := (r.recorder k).position + 1 }
      recorders := vset r.library.recorders k
        { r.recorder k with position := (r.recorder k).position + 1 } } } := by
  have hrecorder := Rig.recorderAdvances_recorder hk
  have hbinding : ((r.recorderAdvances k).recorder k).binding = .cart c := by
    rw [hrecorder]
    exact hk
  rw [Rig.recorderEnds_cart hbinding, hrecorder, if_neg (by dsimp only; omega), Rig.recorderAdvances_cart hk]
  rfl

/-- A cart recording ends with cause FULL at its limit (R52). -/
theorem Rig.cartFrame_full {r : Rig} {k : RecorderId} {c : CartId} (hk : (r.recorder k).binding = .cart c)
    (hlimit : (r.recorder k).limit ≤ (r.recorder k).position + 1) (now : Nat) :
    (r.recorderAdvances k).recorderEnds k now = { r with
      egress := r.egress.report (.recordDone c ((r.recorder k).position + 1) .full)
      library := { r.library with
        carts := vset r.library.carts c { r.cart c with
          state := .ready, length := (r.recorder k).position + 1, cueIn := 0, intro := none, segue := none
          cueOut := (r.recorder k).position + 1 }
        recorders := vset r.library.recorders k .free } } := by
  have hrecorder := Rig.recorderAdvances_recorder hk
  have hbinding : ((r.recorderAdvances k).recorder k).binding = .cart c := by
    rw [hrecorder]
    exact hk
  have hcart : (r.recorderAdvances k).cart c = { r.cart c with length := (r.recorder k).position + 1 } := by
    rw [Rig.recorderAdvances_cart hk, Rig.cart_setCart, if_pos rfl]
  rw [Rig.recorderEnds_cart hbinding, hrecorder, if_pos hlimit]
  unfold Rig.cartRecordingEnds
  dsimp only
  rw [hrecorder, hcart, Rig.recorderAdvances_cart hk]
  simp only [Rig.setCart, Rig.setRecorder, Rig.report, vset_twice, Cart.recorded]

theorem execCartRecordingFull_due {s : State} {k : RecorderId} {c : CartId}
    (hk : (s.rig.recorder k).binding = .cart c) (hlimit : (s.rig.recorder k).limit ≤ (s.rig.recorder k).position + 1) :
    exec (.cartRecordingFull k) s = exec (.recorderFrame k) s := by
  refine whenDue_due s (fun s => s.recorderFrame k) ?_
  rw [hk, decide_eq_true hlimit]
  rfl

/-- Settles O29: the frame's words by the source's form, and the recording's end by its limit. -/
theorem recorderFrameWritesOneFrame : Obligations.RecorderFrameWritesOneFrame := by
  intro s k
  refine ⟨execRecorderFrame_free, ?_⟩
  intro c hk p base words hwords
  have hlist : words = (s.rig.recorder k).source.words s.taken (s.rig.cart c).start p := by
    unfold words
    cases (s.rig.recorder k).source <;> rfl
  rw [hlist] at hwords ⊢
  obtain ⟨hread, hother⟩ := RecordSource.words_written (s.rig.recorder k).source s.taken s.store (s.rig.cart c).start p
  have hframe : exec (.recorderFrame k) s = .next _ :=
    execRecorderFrame_writes (start := (s.rig.cart c).start) (by rw [hk]; rfl) hwords
  refine ⟨_, hframe, hread, hother, fun hlimit => ?_, fun hlimit =>
    ⟨(execCartRecordingFull_due hk hlimit).trans hframe, ?_⟩⟩
  · rw [Rig.cartFrame_goesOn hk hlimit]
  · rw [Rig.cartFrame_full hk hlimit]

end Sys2Proof.Machine
end

section
/-!
SUPPORT and the statement on the frame of an alert recording: O30.
-/

namespace Sys2Proof.Machine

/-! ### The lowest of a kind -/

/-- In a rising list the search finds the lowest member that has the property. -/
theorem find?_lowest {n : Nat} {p : Fin n → Bool} {k : Fin n} {l : List (Fin n)} (hl : l.Pairwise (· < ·))
    (hmem : k ∈ l) (hk : p k = true) (hlow : ∀ j < k, p j = false) : l.find? p = some k := by
  induction l with
  | nil => exact absurd hmem List.not_mem_nil
  | cons x rest ih =>
    obtain ⟨hx, hrest⟩ := List.pairwise_cons.mp hl
    rcases List.mem_cons.mp hmem with rfl | hmem
    · exact List.find?_cons_of_pos hk
    · rw [List.find?_cons_of_neg (by rw [hlow x (hx k hmem)]; nofun)]
      exact ih hrest hmem

theorem allRecorders_rising : allRecorders.Pairwise (· < ·) := by decide

theorem Rig.recorderOf_lowest {r : Rig} {b : Binding} {k : RecorderId} (hk : (r.recorder k).binding = b)
    (hlow : ∀ j < k, (r.recorder j).binding ≠ b) : r.recorderOf b = some k :=
  find?_lowest allRecorders_rising (mem_allRecorders k) (beq_iff_eq.mpr hk) fun j hj => beq_eq_false_iff_ne.mpr (hlow j hj)

/-! ### Where the end of a recording sends its record (R147) -/

theorem Rig.placeRecorded_expired {r : Rig} {i : RecordId} {now : Nat}
    (h : (r.record i).validUntilReached = true ∨ (r.record i).validUntil ≤ now) :
    (r.placeRecorded i now).record i = { r.record i with state := .expired } := by
  unfold Rig.placeRecorded
  dsimp only
  rw [if_pos h]
  exact vset_same _ i _

theorem Rig.placeRecorded_queued {r : Rig} {i : RecordId} {now : Nat}
    (hvalid : (r.record i).validUntilReached = false ∧ now < (r.record i).validUntil)
    (hauto : (r.record i).action = .auto ∨ (r.record i).confirmedEarly = true) :
    ((r.placeRecorded i now).record i).state = .queued := by
  unfold Rig.placeRecorded
  dsimp only
  rw [if_neg (not_or.mpr ⟨by rw [hvalid.1]; nofun, hvalid.2.not_ge⟩), if_pos hauto, Rig.enqueue_record]

theorem Rig.placeRecorded_awaiting {r : Rig} {i : RecordId} {now : Nat}
    (hvalid : (r.record i).validUntilReached = false ∧ now < (r.record i).validUntil)
    (haction : (r.record i).action ≠ .auto) (hearly : (r.record i).confirmedEarly = false) :
    (r.placeRecorded i now).record i =
      { r.record i with state := .awaiting, deadline := some (now + (r.record i).confirmWindow) } := by
  unfold Rig.placeRecorded
  dsimp only
  rw [if_neg (not_or.mpr ⟨by rw [hvalid.1]; nofun, hvalid.2.not_ge⟩), if_neg (by rw [hearly]; simpa using haction)]
  exact vset_same _ i _

/-! ### The end of an alert recording (R144, R152) -/

/-- The rig at the end of an alert recording on recorder `k`, before the record goes where R147 sends it. -/
def Rig.recordingTold (r : Rig) (k : RecorderId) (i : RecordId) (truncated : Bool) : Rig :=
  ((r.setRecorder k .free).setRecord i { r.record i with
    recordedLength := (r.recorder k).position, truncated := truncated || (r.record i).truncated }).report
    (.alertRecorded i (r.recorder k).position (truncated || (r.record i).truncated))

theorem Rig.alertRecordingEnds_told {r : Rig} {k : RecorderId} {i : RecordId} (hk : r.recorderOf (.alert i) = some k)
    (truncated : Bool) (now : Nat) :
    r.alertRecordingEnds i truncated now = ((r.recordingTold k i truncated).placeRecorded i now).airIfIdle := by
  unfold Rig.alertRecordingEnds Rig.closeAlertRecording Rig.freeAlertRecorder Rig.alertPosition
  rw [hk]
  rfl

theorem Rig.recordingTold_record (r : Rig) (k : RecorderId) (i : RecordId) (truncated : Bool) :
    (r.recordingTold k i truncated).record i = { r.record i with
      recordedLength := (r.recorder k).position, truncated := truncated || (r.record i).truncated } := vset_same _ i _

/-- The recorder of a recording that has ended is FREE. -/
theorem Rig.alertRecordingEnds_recorder {r : Rig} {k : RecorderId} {i : RecordId}
    (hk : r.recorderOf (.alert i) = some k) (truncated : Bool) (now : Nat) :
    (r.alertRecordingEnds i truncated now).recorder k = .free := by
  rw [Rig.alertRecordingEnds_told hk, Rig.recorder,
    ((Rig.placeRecorded_beside _ i now).trans (Rig.airIfIdle_beside _)).library]
  exact vset_same _ k _

/-- The head of the queue airs, and nothing else of the records changes. -/
theorem Rig.airIfIdle_recording (r : Rig) (i : RecordId) :
    (r.airIfIdle.record i).recordedLength = (r.record i).recordedLength ∧
      (r.airIfIdle.record i).truncated = (r.record i).truncated := by
  rcases r.airIfIdle_record i with h | ⟨-, -, h⟩ <;> rw [h] <;> exact ⟨rfl, rfl⟩

/-- A record that is not QUEUED stands as it stood when the head of the queue airs. -/
theorem Rig.airIfIdle_record_of_not_queued {r : Rig} {i : RecordId} (h : (r.record i).state ≠ .queued) :
    r.airIfIdle.record i = r.record i :=
  (r.airIfIdle_record i).resolve_right fun ⟨_, hq, _⟩ => h hq

/-- A QUEUED record is QUEUED or AIRING when the head of the queue airs. -/
theorem Rig.airIfIdle_record_of_queued {r : Rig} {i : RecordId} (h : (r.record i).state = .queued) :
    (r.airIfIdle.record i).state = .queued ∨ (r.airIfIdle.record i).state = .airing := by
  rcases r.airIfIdle_record i with hkept | ⟨-, -, hairs⟩
  · exact .inl (by rw [hkept, h])
  · exact .inr (by rw [hairs])

theorem Rig.alertRecordingEnds_recording {r : Rig} {k : RecorderId} {i : RecordId}
    (hk : r.recorderOf (.alert i) = some k) (truncated : Bool) (now : Nat) :
    ((r.alertRecordingEnds i truncated now).record i).recordedLength = (r.recorder k).position ∧
      ((r.alertRecordingEnds i truncated now).record i).truncated = (truncated || (r.record i).truncated) := by
  obtain ⟨-, htruncated, hlength⟩ := Rig.placeRecorded_record (r.recordingTold k i truncated) i i now
  obtain ⟨hairLength, hairTruncated⟩ := Rig.airIfIdle_recording ((r.recordingTold k i truncated).placeRecorded i now) i
  rw [Rig.alertRecordingEnds_told hk, hairLength, hairTruncated, hlength, htruncated, Rig.recordingTold_record]
  exact ⟨rfl, rfl⟩

theorem Rig.alertRecordingEnds_expired {r : Rig} {k : RecorderId} {i : RecordId}
    (hk : r.recorderOf (.alert i) = some k) (truncated : Bool) {now : Nat}
    (h : (r.record i).validUntilReached = true ∨ (r.record i).validUntil ≤ now) :
    ((r.alertRecordingEnds i truncated now).record i).state = .expired := by
  have hplaced := Rig.placeRecorded_expired (r := r.recordingTold k i truncated) (i := i) (now := now)
    (by rw [Rig.recordingTold_record]; exact h)
  rw [Rig.alertRecordingEnds_told hk, Rig.airIfIdle_record_of_not_queued (by rw [hplaced]; nofun), hplaced]

theorem Rig.alertRecordingEnds_queued {r : Rig} {k : RecorderId} {i : RecordId}
    (hk : r.recorderOf (.alert i) = some k) (truncated : Bool) {now : Nat}
    (hvalid : (r.record i).validUntilReached = false ∧ now < (r.record i).validUntil)
    (hauto : (r.record i).action = .auto ∨ (r.record i).confirmedEarly = true) :
    ((r.alertRecordingEnds i truncated now).record i).state = .queued ∨
      ((r.alertRecordingEnds i truncated now).record i).state = .airing := by
  rw [Rig.alertRecordingEnds_told hk]
  refine Rig.airIfIdle_record_of_queued (Rig.placeRecorded_queued ?_ ?_) <;> rw [Rig.recordingTold_record]
  · exact hvalid
  · exact hauto

theorem Rig.alertRecordingEnds_awaiting {r : Rig} {k : RecorderId} {i : RecordId}
    (hk : r.recorderOf (.alert i) = some k) (truncated : Bool) {now : Nat}
    (hvalid : (r.record i).validUntilReached = false ∧ now < (r.record i).validUntil)
    (haction : (r.record i).action ≠ .auto) (hearly : (r.record i).confirmedEarly = false) :
    ((r.alertRecordingEnds i truncated now).record i).state = .awaiting ∧
      ((r.alertRecordingEnds i truncated now).record i).deadline = some (now + (r.record i).confirmWindow) := by
  have hplaced := Rig.placeRecorded_awaiting (r := r.recordingTold k i truncated) (i := i) (now := now)
    (by rw [Rig.recordingTold_record]; exact hvalid) (by rw [Rig.recordingTold_record]; exact haction)
    (by rw [Rig.recordingTold_record]; exact hearly)
  rw [Rig.alertRecordingEnds_told hk, Rig.airIfIdle_record_of_not_queued (by rw [hplaced]; nofun), hplaced,
    Rig.recordingTold_record]
  exact ⟨rfl, rfl⟩

/-! ### The frame of an alert recording (R51) -/

/-- The rig after an alert recording's position has advanced, with the record's length (R51, R144). -/
theorem Rig.recorderAdvances_alert {r : Rig} {k : RecorderId} {i : RecordId} (hk : (r.recorder k).binding = .alert i) :
    r.recorderAdvances k = (r.setRecorder k { r.recorder k with position := (r.recorder k).position + 1 }).setRecord i
      { r.record i with recordedLength := (r.recorder k).position + 1 } := by
  unfold Rig.recorderAdvances
  dsimp only
  rw [hk]

theorem Rig.recorderAdvances_alert_recorder {r : Rig} {k : RecorderId} {i : RecordId}
    (hk : (r.recorder k).binding = .alert i) (j : RecorderId) : (r.recorderAdvances k).recorder j =
      if k = j then { r.recorder k with position := (r.recorder k).position + 1 } else r.recorder j := by
  rw [Rig.recorderAdvances_alert hk]
  exact r.recorder_setRecorder k j _

theorem Rig.recorderAdvances_alert_record {r : Rig} {k : RecorderId} {i : RecordId}
    (hk : (r.recorder k).binding = .alert i) :
    (r.recorderAdvances k).record i = { r.record i with recordedLength := (r.recorder k).position + 1 } := by
  rw [Rig.recorderAdvances_alert hk, Rig.record_setRecord, if_pos rfl]

/-- The recorder bound to a record stays the one bound to it. -/
theorem Rig.recorderAdvances_recorderOf {r : Rig} (hlaw : r.alertLaw) {k : RecorderId} {i : RecordId}
    (hk : (r.recorder k).binding = .alert i) : (r.recorderAdvances k).recorderOf (.alert i) = some k := by
  refine Rig.recorderOf_lowest ?_ fun j hj hbound => ?_
  · rw [Rig.recorderAdvances_alert_recorder hk, if_pos rfl]
    exact hk
  · rw [Rig.recorderAdvances_alert_recorder hk, if_neg hj.ne'] at hbound
    exact hj.ne ((Rig.alertLaw_iff _).mp hlaw |>.1.bindings.single j k (hbound.trans hk.symm) (by rw [hbound]; nofun))

/-- What ends at an alert recording's frame: it goes on below its declared length and its limit, and else it ends,
truncated when below its declared length (R144). -/
theorem Rig.alertFrame_ends {r : Rig} {k : RecorderId} {i : RecordId} (hk : (r.recorder k).binding = .alert i)
    (now : Nat) : (r.recorderAdvances k).recorderEnds k now =
      if (r.record i).declaredLength ≤ (r.recorder k).position + 1 then
        (r.recorderAdvances k).alertRecordingEnds i false now
      else if (r.recorder k).limit ≤ (r.recorder k).position + 1 then
        (r.recorderAdvances k).alertRecordingEnds i true now
      else r.recorderAdvances k := by
  unfold Rig.recorderEnds
  dsimp only
  rw [Rig.recorderAdvances_alert_recorder hk, if_pos rfl]
  dsimp only
  rw [hk]
  dsimp only
  rw [Rig.recorderAdvances_alert_record hk]

theorem Rig.alertFrame_goesOn {r : Rig} {k : RecorderId} {i : RecordId} (hk : (r.recorder k).binding = .alert i)
    (hdeclared : (r.recorder k).position + 1 < (r.record i).declaredLength)
    (hlimit : (r.recorder k).position + 1 < (r.recorder k).limit) (now : Nat) :
    (r.recorderAdvances k).recorderEnds k now = r.recorderAdvances k := by
  rw [Rig.alertFrame_ends hk, if_neg hdeclared.not_ge, if_neg hlimit.not_ge]

theorem Rig.alertFrame_over {r : Rig} {k : RecorderId} {i : RecordId} (hk : (r.recorder k).binding = .alert i)
    (hover : (r.record i).declaredLength ≤ (r.recorder k).position + 1 ∨
      (r.recorder k).limit ≤ (r.recorder k).position + 1) (now : Nat) :
    (r.recorderAdvances k).recorderEnds k now = (r.recorderAdvances k).alertRecordingEnds i
      (decide ((r.recorder k).position + 1 < (r.record i).declaredLength)) now := by
  rw [Rig.alertFrame_ends hk]
  by_cases hdeclared : (r.record i).declaredLength ≤ (r.recorder k).position + 1
  · rw [if_pos hdeclared, decide_eq_false hdeclared.not_gt]
  · rw [if_neg hdeclared, if_pos (hover.resolve_left hdeclared), decide_eq_true (Nat.lt_of_not_le hdeclared)]

theorem execAlertDeclaredLength_due {s : State} {k : RecorderId} {i : RecordId}
    (hk : (s.rig.recorder k).binding = .alert i)
    (h : (s.rig.record i).declaredLength ≤ (s.rig.recorder k).position + 1) :
    exec (.alertDeclaredLength k) s = exec (.recorderFrame k) s := by
  refine whenDue_due s (fun s => s.recorderFrame k) ?_
  rw [hk]
  exact decide_eq_true h

theorem execAlertSlotFull_due {s : State} {k : RecorderId} {i : RecordId}
    (hk : (s.rig.recorder k).binding = .alert i)
    (hdeclared : (s.rig.recorder k).position + 1 < (s.rig.record i).declaredLength)
    (hlimit : (s.rig.recorder k).limit ≤ (s.rig.recorder k).position + 1) :
    exec (.alertSlotFull k) s = exec (.recorderFrame k) s := by
  refine whenDue_due s (fun s => s.recorderFrame k) ?_
  rw [hk]
  exact Bool.and_eq_true_iff.mpr ⟨decide_eq_true hdeclared, decide_eq_true hlimit⟩

/-- The recorded length follows the recorder, whether the recording goes on or ends. -/
theorem Rig.alertFrame_recordedLength {r : Rig} (hlaw : r.alertLaw) {k : RecorderId} {i : RecordId}
    (hk : (r.recorder k).binding = .alert i) (now : Nat) :
    (((r.recorderAdvances k).recorderEnds k now).record i).recordedLength = (r.recorder k).position + 1 := by
  have hposition : ((r.recorderAdvances k).recorder k).position = (r.recorder k).position + 1 := by
    rw [Rig.recorderAdvances_alert_recorder hk, if_pos rfl]
  have hends (truncated : Bool) : (((r.recorderAdvances k).alertRecordingEnds i truncated now).record i).recordedLength =
      (r.recorder k).position + 1 :=
    (Rig.alertRecordingEnds_recording (Rig.recorderAdvances_recorderOf hlaw hk) truncated now).1.trans hposition
  rw [Rig.alertFrame_ends hk]
  split
  · exact hends false
  · split
    · exact hends true
    · rw [Rig.recorderAdvances_alert_record hk]

/-- Settles O30: the frame's word, and the recording's end by its declared length and its limit. -/
theorem alertRecordingFrameEndsAtItsLength : Obligations.AlertRecordingFrameEndsAtItsLength := by
  intro s k i x hlaw hk hx p a word hword
  have hwords : (s.rig.recorder k).source.words s.taken (s.rig.library.slotStart i) p = [(word, s.taken.lanes[x])] := by
    rw [hx]
    rfl
  obtain ⟨hread, hother⟩ :=
    RecordSource.words_written (s.rig.recorder k).source s.taken s.store (s.rig.library.slotStart i) p
  rw [hwords] at hread hother
  have hframe : exec (.recorderFrame k) s = .next _ := execRecorderFrame_writes (start := s.rig.library.slotStart i)
    (by rw [hk]; rfl) (by rw [hwords]; simpa using hword)
  have hbound := Rig.recorderAdvances_recorderOf hlaw hk
  have hrecord := Rig.recorderAdvances_alert_record hk
  refine ⟨_, hframe, hread _ (List.mem_singleton.mpr rfl), fun b hb => hother b (by simpa using hb.symm),
    Rig.alertFrame_recordedLength hlaw hk _, fun hdeclared hlimit => ?_, fun hover => ?_,
    fun hdeclared => (execAlertDeclaredLength_due hk hdeclared).trans hframe,
    fun hdeclared hlimit => (execAlertSlotFull_due hk hdeclared hlimit).trans hframe⟩
  · dsimp only
    rw [Rig.alertFrame_goesOn hk hdeclared hlimit, hrecord, Rig.recorderAdvances_alert_recorder hk, if_pos rfl,
      Rig.recorderAdvances_alert hk]
    exact ⟨rfl, rfl, rfl⟩
  · dsimp only
    rw [Rig.alertFrame_over hk hover]
    obtain ⟨-, htruncated⟩ := Rig.alertRecordingEnds_recording hbound (decide (p + 1 < a.declaredLength)) s.clock.seconds
    refine ⟨Rig.alertRecordingEnds_recorder hbound _ _, htruncated.trans ?_, fun hexpired => ?_,
      fun hreached huntil hauto => ?_, fun hreached huntil haction hearly => ?_⟩
    · rw [hrecord]
      exact Bool.or_comm _ _
    · exact Rig.alertRecordingEnds_expired hbound _ (by rw [hrecord]; exact hexpired)
    · exact Rig.alertRecordingEnds_queued hbound _ (by rw [hrecord]; exact ⟨hreached, huntil⟩)
        (by rw [hrecord]; exact hauto)
    · obtain ⟨hstate, hdeadline⟩ := Rig.alertRecordingEnds_awaiting hbound (decide (p + 1 < a.declaredLength))
        (now := s.clock.seconds) (by rw [hrecord]; exact ⟨hreached, huntil⟩) (by rw [hrecord]; exact haction)
        (by rw [hrecord]; exact hearly)
      exact ⟨hstate, hdeadline.trans (by rw [hrecord])⟩

end Sys2Proof.Machine
end

section
/-!
SUPPORT: the entries of the running order through its settling, and a cart taken from the running order (R45, R50, R85).
-/

namespace Sys2Proof.Machine

/-! ### The carts that the entries name -/

/-- Every entry of the list after stood in the list before under its tag, and named the same cart. -/
def Rig.KeepsNames (r r' : Rig) : Prop :=
  ∀ y ∈ r'.order.entries, ∃ x ∈ r.order.entries, y.tag = x.tag ∧ y.cart = x.cart

theorem Rig.KeepsNames.refl (r : Rig) : r.KeepsNames r := fun y hy => ⟨y, hy, rfl, rfl⟩

theorem Rig.KeepsNames.trans {r₁ r₂ r₃ : Rig} (h : r₁.KeepsNames r₂) (k : r₂.KeepsNames r₃) : r₁.KeepsNames r₃ := by
  intro z hz
  obtain ⟨y, hy, htag, hcart⟩ := k z hz
  obtain ⟨x, hx, htag', hcart'⟩ := h y hy
  exact ⟨x, hx, htag.trans htag', hcart.trans hcart'⟩

/-- A list that takes no entry in. -/
theorem Rig.keepsNames_of_subset {r r' : Rig} (h : r'.order.entries ⊆ r.order.entries) : r.KeepsNames r' :=
  fun y hy => ⟨y, h hy, rfl, rfl⟩

theorem Rig.keepsNames_of_order {r r' : Rig} (h : r'.order = r.order) : r.KeepsNames r' :=
  Rig.keepsNames_of_subset (by rw [h]; exact List.Subset.refl _)

theorem Rig.updateEntry_keepsNames (r : Rig) (tag : Nat) {f : Entry → Entry}
    (hf : ∀ x, (f x).tag = x.tag ∧ (f x).cart = x.cart) : r.KeepsNames (r.updateEntry tag f) := by
  intro y hy
  obtain ⟨x, hx, rfl⟩ := List.mem_map.mp hy
  refine ⟨x, hx, ?_⟩
  split
  · exact hf x
  · exact ⟨rfl, rfl⟩

/-! ### The decks' part: no entry joins the list -/

theorem Rig.releaseDeck_entries (r : Rig) (d : DeckId) : (r.releaseDeck d).order.entries ⊆ r.order.entries := by
  unfold Rig.releaseDeck
  dsimp only
  split <;> exact List.filter_subset_self _

theorem Rig.endDeck_entries (r : Rig) (d : DeckId) (c : EndCause) : (r.endDeck d c).order.entries ⊆ r.order.entries := by
  unfold Rig.endDeck
  split
  · exact (r.finishDeck d c).releaseDeck_entries d
  · exact List.Subset.refl _

theorem Rig.startDeck_entries (r : Rig) (d : DeckId) : (r.startDeck d).order.entries ⊆ r.order.entries := by
  have ruled : r.audibleRule.order.entries ⊆ r.order.entries := by
    unfold Rig.audibleRule
    split
    · exact List.Subset.refl _
    · split
      · exact r.endDeck_entries _ .cut
      · exact List.Subset.refl _
  unfold Rig.startDeck
  split
  · exact ruled
  · exact List.Subset.refl _

theorem Rig.fadeDeck_entries (r : Rig) (d : DeckId) (frames : Nat) :
    (r.fadeDeck d frames).order.entries ⊆ r.order.entries := by
  unfold Rig.fadeDeck
  dsimp only
  split
  · exact List.Subset.refl _
  · split
    · exact r.endDeck_entries d .played
    · exact List.Subset.refl _

theorem Rig.fadeAudible_entries (r : Rig) (frames : Nat) (ds : List DeckId) :
    (r.fadeAudible frames ds).order.entries ⊆ r.order.entries := by
  induction ds generalizing r with
  | nil => exact List.Subset.refl _
  | cons d ds ih =>
    unfold Rig.fadeAudible
    refine List.Subset.trans (ih _) ?_
    split
    · exact r.fadeDeck_entries d frames
    · exact List.Subset.refl _

/-! ### The settling -/

theorem Rig.skipTo_keepsNames (r : Rig) (e : Entry) : r.KeepsNames (r.skipTo e) := by
  refine Rig.KeepsNames.trans (Rig.keepsNames_of_subset ?_) (Rig.updateEntry_keepsNames _ _ fun _ => ⟨rfl, rfl⟩)
  refine List.Subset.trans (Rig.fadeAudible_entries _ _ _) ?_
  rw [Rig.reports_eq]
  refine List.append_subset.mpr ⟨fun y hy => ?_, fun y hy => ?_⟩
  · exact (List.takeWhile_sublist _).subset (List.mem_of_mem_filter hy)
  · exact (List.dropWhile_sublist _).subset hy

theorem Rig.makeSkip_keepsNames (r : Rig) : r.KeepsNames r.makeSkip := by
  unfold Rig.makeSkip
  split
  · exact .refl r
  · split
    · exact r.skipTo_keepsNames _
    · exact .refl r

theorem Rig.assignOne_keepsNames {r r' : Rig} (h : r.assignOne = some r') : r.KeepsNames r' := by
  unfold Rig.assignOne at h
  split at h
  · cases h
  · split at h
    · split at h
      · cases h
        refine Rig.KeepsNames.trans ?_ (Rig.keepsNames_of_order (Rig.loadDeck_order _ _ _))
        exact r.updateEntry_keepsNames _ fun _ => ⟨rfl, rfl⟩
      · cases h
    · cases h

theorem Rig.displace_keepsNames (r : Rig) (e : Entry) : r.KeepsNames (r.displace e) := by
  unfold Rig.displace
  split
  · exact r.updateEntry_keepsNames _ fun _ => ⟨rfl, rfl⟩
  · exact Rig.updateEntry_keepsNames r _ fun _ => ⟨rfl, rfl⟩

theorem Rig.arrangeFor_keepsNames (n : Nat) (r : Rig) : r.KeepsNames (r.arrangeFor n) := by
  induction n generalizing r with
  | zero => exact .refl r
  | succ n ih =>
    unfold Rig.arrangeFor
    split
    · rename_i r' h
      exact (Rig.assignOne_keepsNames h).trans (ih r')
    · split
      · split
        · exact (r.displace_keepsNames _).trans (ih _)
        · exact .refl r
      · exact .refl r

theorem Rig.startEntry_keepsNames (r : Rig) (e : Entry) (cause : StartCause) : r.KeepsNames (r.startEntry e cause) := by
  unfold Rig.startEntry
  split
  · exact .refl r
  · rename_i d _
    exact (Rig.keepsNames_of_subset (r.startDeck_entries d)).trans
      ((r.startDeck d).updateEntry_keepsNames e.tag fun _ => ⟨rfl, rfl⟩)

theorem Rig.startDue_keepsNames (n : Nat) (r : Rig) : r.KeepsNames (r.startDue n) := by
  induction n generalizing r with
  | zero => exact .refl r
  | succ n ih =>
    unfold Rig.startDue
    split
    · exact ((r.startEntry_keepsNames _ _).trans (Rig.arrangeFor_keepsNames _ _)).trans (ih _)
    · exact .refl r

theorem Rig.settle_keepsNames (r : Rig) : r.KeepsNames r.settle :=
  (r.makeSkip_keepsNames.trans (Rig.startDue_keepsNames _ _)).trans (Rig.arrangeFor_keepsNames _ _)

/-! ### A cart taken from the running order, with the reply behind the reports -/

/-- Reports leave the secured places as they were. -/
theorem Egress.Told.reserved {e e' : Egress} (h : e.Told e') : e'.reserved = e.reserved := by
  obtain ⟨ms, rfl⟩ := h
  exact foldl_related (R := fun a b : Egress => b.reserved = a.reserved) (fun _ => rfl) (fun h k => k.trans h)
    Egress.report_reserved ms e

/-- A reply behind reports takes the secured place. -/
theorem Egress.reports_push {e₀ e : Egress} (he : e₀.secure 1 = some e) (ms : List Report) (m : Outbound) :
    (ms.foldl Egress.report e).push m = (ms.foldl Egress.report e).answered [m] := by
  have hreserved : (ms.foldl Egress.report e).reserved = 1 :=
    (Egress.Told.reserved ⟨ms, rfl⟩).trans (Egress.secure_spec he).1
  simp [Egress.push, Egress.answered, hreserved]

theorem Rig.removeWaitingFor_replied {r : Rig} {e₀ e : Egress} (he : e₀.secure 1 = some e) (l : Library) (c : CartId)
    (tag : Tag) (k : RequestKind) (d : List Nat) :
    (({ r with egress := e, library := l } : Rig).removeWaitingFor c).reply tag k .done d =
      r.withoutCart e c [doneWith tag k d] l := by
  have hnames : (fun x : Entry => x.state == .waiting && x.cart == c) =
      fun x : Entry => decide (x.state = .waiting ∧ x.cart = c) := by
    funext x
    rw [Bool.eq_iff_iff]
    simp
  have hkept : (fun x : Entry => !(x.state == .waiting && x.cart == c)) =
      fun x : Entry => !decide (x.state = .waiting ∧ x.cart = c) := funext fun x => congrArg not (congrFun hnames x)
  unfold Rig.removeWaitingFor Rig.withoutCart
  dsimp only
  rw [Rig.reports_eq, hnames, hkept, ← Egress.reports_push he]
  rfl

/-- A request that takes a cart from the running order, over the library `l` that it has made. -/
theorem State.received_withoutCart {s : State} {e : Egress} (he : s.rig.egress.secure 1 = some e) (l : Library)
    (c : CartId) (tag : Tag) (k : RequestKind) (d : List Nat) :
    ((s.received e).onRig fun r => ((({ r with library := l } : Rig).removeWaitingFor c).reply tag k .done d).settle).release =
      { s with inbound := none, rig := (s.rig.withoutCart e c [doneWith tag k d] l).settle } := by
  have hreserved : (s.rig.withoutCart e c [doneWith tag k d] l).settle.egress.reserved = 0 :=
    (Rig.settle_ordered _).told.reserved
  unfold State.release State.onRig State.received
  dsimp only
  rw [Rig.removeWaitingFor_replied he, ← hreserved]

theorem Rig.withoutCart_settle_library (r : Rig) (e : Egress) (c : CartId) (ms : List Outbound) (l : Library) :
    (r.withoutCart e c ms l).settle.library = l := (Rig.settle_ordered _).library

/-- The queue's replies: the earlier ones and then the request's own. -/
theorem Rig.withoutCart_settle_replies (r : Rig) (e : Egress) (c : CartId) (tag : Tag) (k : RequestKind) (l : Library) :
    repliesOf (r.withoutCart e c [doneWith tag k []] l).settle.egress.queue =
      repliesOf e.queue ++ [doneWith tag k []] :=
  ((Rig.settle_ordered _).told.replies.trans (repliesOf_answered _ tag k)).trans
    (congrArg (· ++ _) (Egress.Told.replies ⟨_, rfl⟩))

/-- Only the queue, the library, the decks and the running order change. -/
theorem Rig.withoutCart_settle_rest (r : Rig) (e : Egress) (c : CartId) (ms : List Outbound) (l : Library) :
    (r.withoutCart e c ms l).settle = { r with
      egress := (r.withoutCart e c ms l).settle.egress
      library := (r.withoutCart e c ms l).settle.library
      decks := (r.withoutCart e c ms l).settle.decks
      order := (r.withoutCart e c ms l).settle.order } := by
  obtain ⟨-, -, hdelay, halerts, hswitch, hmonitors⟩ := (r.withoutCart e c ms l).settle_ordered
  generalize (r.withoutCart e c ms l).settle = r' at hdelay halerts hswitch hmonitors ⊢
  obtain ⟨_, _, _, _, _, _, _, _⟩ := r'
  cases hdelay
  cases halerts
  cases hswitch
  cases hmonitors
  rfl

/-- Every entry that remains stood in the list, and was not WAITING with the cart's name. -/
theorem Rig.withoutCart_settle_entries (r : Rig) (e : Egress) (c : CartId) (ms : List Outbound) (l : Library)
    {x : Entry} (hx : x ∈ (r.withoutCart e c ms l).settle.order.entries) :
    ∃ y ∈ r.order.entries, x.tag = y.tag ∧ x.cart = y.cart ∧ (y.state = .waiting → y.cart ≠ c) := by
  obtain ⟨y, hy, htag, hcart⟩ := (r.withoutCart e c ms l).settle_keepsNames x hx
  obtain ⟨hmem, hkept⟩ := List.mem_filter.mp hy
  refine ⟨y, hmem, htag, hcart, fun hwaiting hc => ?_⟩
  simp [hwaiting, hc] at hkept

end Sys2Proof.Machine
end

section
/-!
SUPPORT and the statement on the cart requests: O27.
-/

namespace Sys2Proof.Machine

/-! ### Checks -/

/-- Two checks in a row that give one status are one check. -/
theorem decided_merge {α : Type} {x : Status} {b c : Bool} {rest : List (Bool × Status)} {a : α} :
    decided ((b, x) :: (c, x) :: rest) a = decided ((b || c, x) :: rest) a := by
  cases b <;> rfl

theorem form?_isNone (k : Nat) : (form? k).isNone = decide (1 < k) := by
  match k with
  | 0 | 1 => rfl
  | k + 2 => exact (decide_eq_true (by omega)).symm

theorem form?_some {k : Nat} {f : Form} (h : form? k = some f) : f = if k = 0 then .mono else .stereo := by
  unfold form? at h
  split at h <;> cases h <;> rfl

theorem cartClass?_isNone (k : Nat) : (cartClass? k).isNone = decide (1 < k) := by
  match k with
  | 0 | 1 => rfl
  | k + 2 => exact (decide_eq_true (by omega)).symm

theorem cartClass?_some {k : Nat} {x : CartClass} (h : cartClass? k = some x) :
    x = if k = 0 then .program else .service := by
  unfold cartClass? at h
  split at h <;> cases h <;> rfl

/-! ### Who holds a cart (R43) -/

theorem Rig.cartInDeck_iff (r : Rig) (c : CartId) : r.cartInDeck c = true ↔
    ∃ d : DeckId, (r.deck d).state ≠ .empty ∧ (r.deck d).source = .cart c := by
  refine (any_toList_iff _ _).trans (exists_congr fun d => ?_)
  rw [Bool.and_eq_true, bne_iff_ne, beq_iff_eq]
  rfl

/-- The entries that name a cart that nobody holds are WAITING. -/
theorem Rig.waiting_of_not_held {r : Rig} {c : CartId} (h : r.cartHeld c = false) {x : Entry}
    (hx : x ∈ r.order.entries) (hc : x.cart = c) : x.state = .waiting := by
  have hentries : r.order.entries.any (fun e => e.state != .waiting && e.cart == c) = false :=
    (Bool.or_eq_false_iff.mp h).2
  by_contra hstate
  exact List.any_eq_false.mp hentries x hx (Bool.and_eq_true_iff.mpr ⟨bne_iff_ne.mpr hstate, beq_iff_eq.mpr hc⟩)

/-! ### CART_DEFINE (R44) -/

/-- A run of pages meets a region or another cart that is not EMPTY (R44). -/
theorem Rig.pagesInUse_besides (r : Rig) (start pages : Nat) (c : CartId) :
    (pagesMeet start pages r.library.delayRegion.start r.library.delayRegion.pages ||
      pagesMeet start pages r.library.alertRegion.start r.library.alertRegion.pages ||
      r.library.meetsCart start pages (some c)) =
    decide (pagesMeet start pages r.library.delayRegion.start r.library.delayRegion.pages = true ∨
      pagesMeet start pages r.library.alertRegion.start r.library.alertRegion.pages = true ∨
      ∃ b : CartId, b ≠ c ∧ (r.cart b).state ≠ .empty ∧
        pagesMeet start pages (r.cart b).start (r.cart b).pages = true) := by
  rw [Bool.eq_iff_iff, Bool.or_eq_true, Bool.or_eq_true, or_assoc, decide_eq_true_iff, Library.meetsCart_iff]
  refine or_congr_right (or_congr_right (exists_congr fun b => and_congr_left fun _ => ?_))
  rw [ne_eq, Option.some.injEq]

theorem Rig.cartDefineCheck_decided (r : Rig) (c : CartId) (start pages form cls : Nat) :
    r.cartDefineCheck c start pages form cls = decided
      [(pages = 0 ∨ 4096 < pages ∨ 4096 < start + pages ∨ 1 < form ∨ 1 < cls, .range),
        (r.cartHeld c, .busy), ((r.cart c).state = .ready, .state),
        (pagesMeet start pages r.library.delayRegion.start r.library.delayRegion.pages = true ∨
          pagesMeet start pages r.library.alertRegion.start r.library.alertRegion.pages = true ∨
          ∃ b : CartId, b ≠ c ∧ (r.cart b).state ≠ .empty ∧
            pagesMeet start pages (r.cart b).start (r.cart b).pages = true, .busy)]
      (c, if form = 0 then .mono else .stereo, if cls = 0 then .program else .service) := by
  have hrange : decide (pages = 0 ∨ 4096 < pages ∨ 4096 < start + pages ∨ 1 < form ∨ 1 < cls) =
      ((pages == 0 || 4096 < pages || 4096 < start + pages) || decide (1 < form) || decide (1 < cls)) := by
    rw [Bool.eq_iff_iff]
    simp [or_assoc]
  unfold Rig.cartDefineCheck
  rw [require_index, ok_bind, hrange, ← decided_merge, ← decided_merge]
  refine refuse_decided rfl (require_decided (form?_isNone form) fun f hf => ?_)
  refine require_decided (cartClass?_isNone cls) fun k hk => refuse_decided rfl ?_
  refine refuse_decided ?_ (refuse_decided (r.pagesInUse_besides start pages c) ?_)
  · rw [Bool.eq_iff_iff]
    simp
  · rw [form?_some hf, cartClass?_some hk]
    rfl

theorem execCartDefine_answered {s : State} {e : Egress} (he : s.rig.egress.secure 1 = some e) (tag : Tag) (c : CartId)
    (start pages form cls : Nat) : exec (.cartDefine tag c start pages form cls) s = .next (s.outcome e tag .cartDefine
      [(pages = 0 ∨ 4096 < pages ∨ 4096 < start + pages ∨ 1 < form ∨ 1 < cls, .range),
        (s.rig.cartHeld c, .busy), ((s.rig.cart c).state = .ready, .state),
        (pagesMeet start pages s.rig.library.delayRegion.start s.rig.library.delayRegion.pages = true ∨
          pagesMeet start pages s.rig.library.alertRegion.start s.rig.library.alertRegion.pages = true ∨
          ∃ b : CartId, b ≠ c ∧ (s.rig.cart b).state ≠ .empty ∧
            pagesMeet start pages (s.rig.cart b).start (s.rig.cart b).pages = true, .busy)]
      ((s.answered e [doneWith tag .cartDefine []]).onRig (·.setCart c { Cart.empty with
        state := .defined, start := start, pages := pages
        form := if form = 0 then .mono else .stereo, cls := if cls = 0 then .program else .service }))) := by
  refine (answer_decidedOnRig he (Rig.cartDefineCheck_decided { s.rig with egress := e } c start pages form cls)).trans ?_
  exact congrArg (fun t => Host.Outcome.next (s.outcome e tag .cartDefine _ t))
    (State.received_replied he tag .cartDefine [] (f := (·.setCart c _)) fun _ _ => rfl)

/-! ### CART_MARKS (R46) -/

theorem Cart.clampMark_eq (x : Cart) (mark : Nat) : x.clampMark mark = min mark x.length := by
  unfold Cart.clampMark
  split <;> omega

/-- Each mark is at or below the next: the marks stand in order. -/
theorem zip_tail_all_iff (l : List Nat) : ((l.zip l.tail).all fun p => p.1 ≤ p.2) = true ↔ l.Pairwise (· ≤ ·) := by
  rw [← List.isChain_iff_pairwise]
  induction l with
  | nil => simp
  | cons x rest ih =>
    cases rest with
    | nil => simp
    | cons y rest =>
      rw [List.isChain_cons_cons, ← ih]
      simp

theorem Cart.marked_eq (x : Cart) (cueIn cueOut : Nat) (intro segue : Option Nat) :
    x.marked cueIn cueOut intro segue = { x with
      cueIn := min cueIn x.length, cueOut := min cueOut x.length
      intro := intro.map (min · x.length), segue := segue.map (min · x.length) } := by
  have hclamp : x.clampMark = (min · x.length) := funext x.clampMark_eq
  unfold Cart.marked
  rw [hclamp]

theorem Cart.marked_unordered (x : Cart) (cueIn cueOut : Nat) (intro segue : Option Nat) :
    (!(x.marked cueIn cueOut intro segue).marksInOrder) =
      decide (¬ (min cueIn x.length :: (intro.map (min · x.length)).toList ++
        (segue.map (min · x.length)).toList ++ [min cueOut x.length]).Pairwise (· ≤ ·)) := by
  rw [Cart.marked_eq, decide_not]
  refine congrArg not ?_
  unfold Cart.marksInOrder
  rw [Bool.eq_iff_iff, Bool.and_eq_true, zip_tail_all_iff, decide_eq_true_iff, decide_eq_true_iff]
  exact and_iff_right (Nat.min_le_right _ _)

theorem Rig.cartMarksCheck_decided (r : Rig) (c : CartId) (cueIn cueOut : Nat) (intro segue : Option Nat) :
    r.cartMarksCheck c cueIn cueOut intro segue = decided
      [((r.cart c).state ≠ .ready, .state),
        (∃ d : DeckId, (r.deck d).state ≠ .empty ∧ (r.deck d).source = .cart c, .busy),
        (¬ (min cueIn (r.cart c).length :: (intro.map (min · (r.cart c).length)).toList ++
          (segue.map (min · (r.cart c).length)).toList ++ [min cueOut (r.cart c).length]).Pairwise (· ≤ ·), .range)] c := by
  unfold Rig.cartMarksCheck
  rw [require_index, ok_bind]
  refine refuse_decided ?_ (refuse_decided ?_ (refuse_decided (Cart.marked_unordered _ _ _ _ _) decided_nil))
  · rw [Bool.eq_iff_iff]
    simp
  · rw [Bool.eq_iff_iff, r.cartInDeck_iff, decide_eq_true_iff]

theorem execCartMarks_answered {s : State} {e : Egress} (he : s.rig.egress.secure 1 = some e) (tag : Tag) (c : CartId)
    (cueIn cueOut : Nat) (intro segue : Option Nat) :
    exec (.cartMarks tag c cueIn cueOut intro segue) s = .next (s.outcome e tag .cartMarks
      [((s.rig.cart c).state ≠ .ready, .state),
        (∃ d : DeckId, (s.rig.deck d).state ≠ .empty ∧ (s.rig.deck d).source = .cart c, .busy),
        (¬ (min cueIn (s.rig.cart c).length :: (intro.map (min · (s.rig.cart c).length)).toList ++
          (segue.map (min · (s.rig.cart c).length)).toList ++
          [min cueOut (s.rig.cart c).length]).Pairwise (· ≤ ·), .range)]
      ((s.answered e [doneWith tag .cartMarks []]).onRig
        (·.setCart c ((s.rig.cart c).marked cueIn cueOut intro segue)))) := by
  refine (answer_decidedOnRig he (Rig.cartMarksCheck_decided { s.rig with egress := e } c cueIn cueOut intro segue)).trans ?_
  exact congrArg (fun t => Host.Outcome.next (s.outcome e tag .cartMarks _ t))
    (State.received_replied he tag .cartMarks []
      (f := fun r => r.setCart c ((r.cart c).marked cueIn cueOut intro segue)) fun _ _ => rfl)

/-! ### CART_DELETE (R45) -/

/-- CART_DELETE carried out on the rig. -/
def Rig.cartDeleted (r : Rig) (tag : Tag) (c : CartId) : Rig :=
  if (r.cart c).state = .empty then r.reply tag .cartDelete .done []
  else (((r.setCart c .empty).removeWaitingFor c).reply tag .cartDelete .done []).settle

theorem execCartDelete_answered {s : State} {e : Egress} (he : s.rig.egress.secure 1 = some e) (tag : Tag) (c : CartId) :
    exec (.cartDelete tag c) s = .next (s.outcome e tag .cartDelete [(s.rig.cartHeld c, .busy)]
      ((s.received e).onRig fun r => r.cartDeleted tag c).release) := by
  refine answer_decidedOnRig he (f := fun r a => r.cartDeleted tag a) (a := c) ?_
  rw [require_index, ok_bind]
  exact refuse_decided rfl decided_nil

theorem execCartDelete_held {s : State} {e : Egress} (he : s.rig.egress.secure 1 = some e) (tag : Tag) {c : CartId}
    (hheld : s.rig.cartHeld c = true) :
    exec (.cartDelete tag c) s = .next (s.answered e [refusedWith tag .cartDelete .busy]) := by
  rw [execCartDelete_answered he, hheld]
  rfl

theorem execCartDelete_empty {s : State} {e : Egress} (he : s.rig.egress.secure 1 = some e) (tag : Tag) {c : CartId}
    (hheld : s.rig.cartHeld c = false) (hempty : (s.rig.cart c).state = .empty) :
    exec (.cartDelete tag c) s = .next (s.answered e [doneWith tag .cartDelete []]) := by
  have hdone : (s.received e).onRig (fun r => r.cartDeleted tag c) =
      (s.received e).onRig fun r => r.reply tag .cartDelete .done [] :=
    congrArg (fun r => { s.received e with rig := r }) (if_pos hempty)
  rw [execCartDelete_answered he, hheld, hdone]
  exact congrArg Host.Outcome.next (State.received_replied he tag .cartDelete [] (f := id) fun _ _ => rfl)

theorem execCartDelete_deletes {s : State} {e : Egress} (he : s.rig.egress.secure 1 = some e) (tag : Tag) {c : CartId}
    (hheld : s.rig.cartHeld c = false) (hstate : (s.rig.cart c).state ≠ .empty) :
    exec (.cartDelete tag c) s = .next { s with
      inbound := none
      rig := (s.rig.withoutCart e c [doneWith tag .cartDelete []]
        { s.rig.library with carts := vset s.rig.library.carts c .empty }).settle } := by
  have hdone : (s.received e).onRig (fun r => r.cartDeleted tag c) = (s.received e).onRig fun r =>
      ((({ r with library := { s.rig.library with carts := vset s.rig.library.carts c .empty } } : Rig).removeWaitingFor
        c).reply tag .cartDelete .done []).settle :=
    congrArg (fun r => { s.received e with rig := r }) (if_neg hstate)
  rw [execCartDelete_answered he, hheld, hdone]
  exact congrArg Host.Outcome.next (State.received_withoutCart he _ c tag .cartDelete [])

/-- Settles O27: CART_DEFINE and CART_MARKS by the verdict of their checks, CART_DELETE by the cart's state. -/
theorem cartRequestsDefineMarkAndDelete : Obligations.CartRequestsDefineMarkAndDelete := by
  refine ⟨fun s e tag c he => ⟨?_, ?_⟩, fun s e tag c he =>
    ⟨execCartDelete_held he tag, execCartDelete_empty he tag, fun hheld hstate => ?_⟩⟩
  · exact execCartDefine_answered he tag c
  · intro cueIn cueOut intro segue x marks
    rw [← Cart.marked_eq]
    exact execCartMarks_answered he tag c cueIn cueOut intro segue
  · refine ⟨_, execCartDelete_deletes he tag hheld hstate, Rig.withoutCart_settle_library .., fun x hx hc => ?_,
      fun x hx => ?_, Rig.withoutCart_settle_replies .., rfl, rfl, Rig.withoutCart_settle_rest ..⟩
    · obtain ⟨y, hy, -, hcart, hkept⟩ := Rig.withoutCart_settle_entries _ _ _ _ _ hx
      have hyc : y.cart = c := hcart.symm.trans hc
      exact hkept (Rig.waiting_of_not_held hheld hy hyc) hyc
    · obtain ⟨y, hy, htag, hcart, -⟩ := Rig.withoutCart_settle_entries _ _ _ _ _ hx
      exact ⟨y, hy, htag, hcart⟩

end Sys2Proof.Machine
end

section
/-!
SUPPORT and the statement on the recording of carts: O28.
-/

namespace Sys2Proof.Machine

/-! ### Outcomes -/

theorem State.outcome_refused {s : State} {e : Egress} {tag : Tag} {k : RequestKind} {checks : List (Bool × Status)}
    {st : Status} (h : firstRefusal checks = some st) (t : State) :
    s.outcome e tag k checks t = s.answered e [refusedWith tag k st] := by
  unfold State.outcome
  rw [h]

theorem State.outcome_passed {s : State} {e : Egress} {tag : Tag} {k : RequestKind} {checks : List (Bool × Status)}
    (h : firstRefusal checks = none) (t : State) : s.outcome e tag k checks t = t := by
  unfold State.outcome
  rw [h]

theorem require_decided_getD {α β : Type} {x : Status} {o : Option β} {f : β → Except Status α}
    {rest : List (Bool × Status)} {a : β → α} (v₀ : β) (h : ∀ v, o = some v → f v = decided rest (a v)) :
    (require x o >>= f) = decided ((o.isNone, x) :: rest) (a (o.getD v₀)) :=
  require_decided rfl fun v hv => by rw [hv]; exact h v hv

/-! ### The checks of CART_RECORD (R49, R50) -/

theorem recordSource?_form {kind number : Nat} {src : RecordSource} (h : recordSource? kind number = some src) :
    src.form = if kind = 0 then .mono else .stereo := by
  unfold recordSource? at h
  split at h
  · obtain ⟨x, -, rfl⟩ := Option.map_eq_some_iff.mp h
    rfl
  · obtain ⟨j, -, rfl⟩ := Option.map_eq_some_iff.mp h
    rfl
  · cases h

theorem Rig.freeRecorder_isNone (r : Rig) :
    r.freeRecorder.isNone = decide (∀ k : RecorderId, (r.recorder k).binding ≠ .free) := by
  unfold Rig.freeRecorder
  rw [Bool.eq_iff_iff, Option.isNone_iff_eq_none, List.find?_eq_none, decide_eq_true_iff]
  exact ⟨fun h k hk => h k (mem_allRecorders k) (beq_iff_eq.mpr hk), fun h k _ hk => h k (beq_iff_eq.mp hk)⟩

theorem Rig.freeRecorder_lowest {r : Rig} {k : RecorderId} (hk : (r.recorder k).binding = .free)
    (hlow : ∀ j < k, (r.recorder j).binding ≠ .free) : r.freeRecorder = some k :=
  Rig.recorderOf_lowest hk hlow

/-- CART_RECORD's checks after its index, in the order of R50. -/
def Rig.cartRecordChecks (r : Rig) (c : CartId) (kind number : Nat) : List (Bool × Status) :=
  [((recordSource? kind number).isNone, .range),
    ((r.cart c).state ≠ .empty ∧ (r.cart c).form ≠ (if kind = 0 then .mono else .stereo), .range),
    ((r.cart c).state = .empty ∨ (r.cart c).state = .recording, .state),
    (∃ d : DeckId, (r.deck d).state ≠ .empty ∧ (r.deck d).source = .cart c, .busy),
    (∀ k : RecorderId, (r.recorder k).binding ≠ .free, .busy)]

theorem Rig.cartRecordCheck_decided (r : Rig) (c : CartId) (kind number : Nat) :
    r.cartRecordCheck c kind number = decided (r.cartRecordChecks c kind number)
      (c, (recordSource? kind number).getD (RecordSource.lane 0), r.freeRecorder.getD 0) := by
  unfold Rig.cartRecordCheck Rig.cartRecordChecks
  rw [require_index, ok_bind, ← r.freeRecorder_isNone]
  refine require_decided_getD (a := fun src => (c, src, r.freeRecorder.getD 0)) (RecordSource.lane 0) fun src hsrc => ?_
  refine refuse_decided ?_ (refuse_decided ?_ (refuse_decided ?_
    (require_decided_getD (a := fun k => (c, src, k)) 0 fun k _ => rfl)))
  · rw [recordSource?_form hsrc, Bool.eq_iff_iff, Bool.and_eq_true, bne_iff_ne, bne_iff_ne, decide_eq_true_iff]
    exact and_congr_right fun _ => ne_comm
  · rw [Bool.eq_iff_iff]
    simp
  · rw [Bool.eq_iff_iff, r.cartInDeck_iff, decide_eq_true_iff]

theorem Rig.cartRecordChecks_pass {r : Rig} {c : CartId} {kind number : Nat} {src : RecordSource} {k : RecorderId}
    (hsrc : recordSource? kind number = some src) (hform : (r.cart c).form = if kind = 0 then .mono else .stereo)
    (hstate : (r.cart c).state = .defined ∨ (r.cart c).state = .ready)
    (hdecks : ∀ d : DeckId, (r.deck d).state = .empty ∨ (r.deck d).source ≠ .cart c)
    (hk : (r.recorder k).binding = .free) : firstRefusal (r.cartRecordChecks c kind number) = none := by
  have hnot : ¬ ((r.cart c).state = .empty ∨ (r.cart c).state = .recording) := by
    rcases hstate with h | h <;> rw [h] <;> decide
  have hdeck : ¬ ∃ d : DeckId, (r.deck d).state ≠ .empty ∧ (r.deck d).source = .cart c :=
    fun ⟨d, hbusy, hsource⟩ => (hdecks d).elim hbusy fun h => h hsource
  unfold Rig.cartRecordChecks
  rw [hsrc, decide_eq_false fun h => h.2 hform, decide_eq_false hnot, decide_eq_false hdeck,
    decide_eq_false fun h => h k hk]
  rfl

/-! ### CART_RECORD carried out (R50) -/

/-- The library with cart `c` RECORDING on recorder `k` (R48, R50). -/
def Library.recording (l : Library) (k : RecorderId) (c : CartId) (src : RecordSource) : Library :=
  { l with
    carts := vset l.carts c ((l.carts[c]).cleared .recording)
    recorders := vset l.recorders k
      { binding := .cart c, source := src, position := 0, limit := (l.carts[c]).capacity
        grantOrder := nextSerial l.lastGrant }
    lastGrant := nextSerial l.lastGrant }

theorem Rig.bindRecorder_recording (r : Rig) (k : RecorderId) (c : CartId) (src : RecordSource) :
    (r.setCart c ((r.cart c).cleared .recording)).bindRecorder k (.cart c) src (r.cart c).capacity =
      { r with library := r.library.recording k c src } := rfl

/-- CART_RECORD carried out on the rig: its cart RECORDING, and then taken from the running order. -/
def Rig.cartRecording (r : Rig) (tag : Tag) (a : CartId × RecordSource × RecorderId) : Rig :=
  match a with
  | (c, src, k) => ((((r.setCart c ((r.cart c).cleared .recording)).bindRecorder k (.cart c) src
      (r.cart c).capacity).removeWaitingFor c).reply tag .cartRecord .done []).settle

theorem execCartRecord_answered {s : State} {e : Egress} (he : s.rig.egress.secure 1 = some e) (tag : Tag) (c : CartId)
    (kind number : Nat) : exec (.cartRecord tag c kind number) s =
      .next (s.outcome e tag .cartRecord (s.rig.cartRecordChecks c kind number) ((s.received e).onRig fun r =>
        r.cartRecording tag (c, (recordSource? kind number).getD (.lane 0), s.rig.freeRecorder.getD 0)).release) :=
  answer_decidedOnRig he (f := fun r a => r.cartRecording tag a)
    (Rig.cartRecordCheck_decided { s.rig with egress := e } c kind number)

theorem execCartRecord_records {s : State} {e : Egress} (he : s.rig.egress.secure 1 = some e) (tag : Tag) {c : CartId}
    {kind number : Nat} {src : RecordSource} {k : RecorderId} (hsrc : recordSource? kind number = some src)
    (hfree : s.rig.freeRecorder = some k) (hpass : firstRefusal (s.rig.cartRecordChecks c kind number) = none) :
    exec (.cartRecord tag c kind number) s = .next { s with
      inbound := none
      rig := (s.rig.withoutCart e c [doneWith tag .cartRecord []] (s.rig.library.recording k c src)).settle } := by
  have hlibrary : (s.received e).onRig (fun r => r.cartRecording tag (c, src, k)) = (s.received e).onRig fun r =>
      ((({ r with library := s.rig.library.recording k c src } : Rig).removeWaitingFor c).reply tag .cartRecord .done
        []).settle :=
    congrArg (fun r => { s.received e with rig := ((r.removeWaitingFor c).reply tag .cartRecord .done []).settle })
      (Rig.bindRecorder_recording (s.received e).rig k c src)
  rw [execCartRecord_answered he, State.outcome_passed hpass, hsrc, hfree]
  refine Eq.trans (congrArg (fun t => Host.Outcome.next (State.release t)) hlibrary) ?_
  exact congrArg Host.Outcome.next (State.received_withoutCart he _ c tag .cartRecord [])

/-! ### CART_RECORD_STOP (R52) -/

theorem Rig.cartStopCheck_decided (r : Rig) (c : CartId) : r.cartStopCheck c = decided
    [((r.cart c).state ≠ .recording, .state), ((r.recorderOf (.cart c)).isNone, .state)]
    (c, (r.recorderOf (.cart c)).getD 0) := by
  unfold Rig.cartStopCheck
  rw [require_index, ok_bind]
  refine refuse_decided ?_ (require_decided_getD (a := fun k => (c, k)) 0 fun k _ => rfl)
  rw [Bool.eq_iff_iff]
  simp

/-- CART_RECORD_STOP carried out on the rig. -/
def Rig.cartRecordStopped (r : Rig) (tag : Tag) (a : CartId × RecorderId) : Rig :=
  match a with
  | (c, k) => (r.reply tag .cartRecordStop .done []).cartRecordingEnds k c .stop

theorem execCartRecordStop_answered {s : State} {e : Egress} (he : s.rig.egress.secure 1 = some e) (tag : Tag)
    (c : CartId) : exec (.cartRecordStop tag c) s = .next (s.outcome e tag .cartRecordStop
      [((s.rig.cart c).state ≠ .recording, .state), ((s.rig.recorderOf (.cart c)).isNone, .state)]
      ((s.received e).onRig fun r =>
        r.cartRecordStopped tag (c, (s.rig.recorderOf (.cart c)).getD 0)).release) :=
  answer_decidedOnRig he (f := fun r a => r.cartRecordStopped tag a)
    (Rig.cartStopCheck_decided { s.rig with egress := e } c)

theorem execCartRecordStop_refused {s : State} {e : Egress} (he : s.rig.egress.secure 1 = some e) (tag : Tag)
    {c : CartId} (h : (s.rig.cart c).state ≠ .recording) :
    exec (.cartRecordStop tag c) s = .next (s.answered e [refusedWith tag .cartRecordStop .state]) := by
  rw [execCartRecordStop_answered he, decide_eq_true h]
  rfl

/-- The recording of a cart ends behind the reply, and no place stays secured. -/
theorem execCartRecordStop_ends {s : State} {e : Egress} (he : s.rig.egress.secure 1 = some e) (tag : Tag)
    {c : CartId} {k : RecorderId} (h : (s.rig.cart c).state = .recording)
    (hk : s.rig.recorderOf (.cart c) = some k) : exec (.cartRecordStop tag c) s = .next { s with
      inbound := none
      rig := { s.rig with
        egress := (e.answered [doneWith tag .cartRecordStop []]).report (.recordDone c (s.rig.recorder k).position .stop)
        library := { s.rig.library with
          carts := vset s.rig.library.carts c ((s.rig.cart c).recorded (s.rig.recorder k).position)
          recorders := vset s.rig.library.recorders k .free } } } := by
  rw [execCartRecordStop_answered he, decide_eq_false (not_not.mpr h), hk, ← Egress.report_released he]
  rfl

/-- Settles O28: CART_RECORD by the verdict of its checks and the library it makes, CART_RECORD_STOP by the cart's
recorder. -/
theorem cartRecordingStartsAndStops : Obligations.CartRecordingStartsAndStops := by
  refine ⟨fun s e tag c kind number he => ⟨fun st hst => ?_, ?_⟩, fun s e tag c he =>
    ⟨execCartRecordStop_refused he tag, fun k hstate hk hlow =>
      execCartRecordStop_ends he tag hstate (Rig.recorderOf_lowest hk hlow)⟩⟩
  · rw [execCartRecord_answered he]
    exact congrArg Host.Outcome.next (State.outcome_refused hst _)
  · intro src k hsrc hform hstate hdecks hk hlow
    have hlibrary := Rig.withoutCart_settle_library s.rig e c [doneWith tag .cartRecord []]
      (s.rig.library.recording k c src)
    refine ⟨_, execCartRecord_records he tag hsrc (Rig.freeRecorder_lowest hk hlow)
      (Rig.cartRecordChecks_pass hsrc hform hstate hdecks hk), ?_, fun b hb => ?_, ?_, ?_, fun j hj => ?_, fun x hx => ?_,
      Rig.withoutCart_settle_replies .., ?_, ?_, rfl, Rig.withoutCart_settle_rest ..⟩
    · rw [Rig.cart, hlibrary]
      exact vset_same _ c _
    · rw [Rig.cart, hlibrary]
      exact (vset_get _ c b _).trans (if_neg hb.symm)
    · rw [Rig.recorder, hlibrary]
      exact vset_same _ k _
    · rw [hlibrary]
      rfl
    · rw [Rig.recorder, hlibrary]
      exact (vset_get _ k j _).trans (if_neg hj.symm)
    · obtain ⟨y, hy, htag, -, hkept⟩ := Rig.withoutCart_settle_entries _ _ _ _ _ hx
      exact ⟨y, hy, htag, hkept⟩
    · rw [hlibrary]
      rfl
    · rw [hlibrary]

end Sys2Proof.Machine
end

section
/-!
SUPPORT: the record and the recorder that a notice takes (R49, R143).
-/

namespace Sys2Proof.Machine

/-! ### The best of a list -/

theorem foldl_stays {ι β : Type} {g : β → ι → β} {l : List ι} {v : β} (h : ∀ j ∈ l, g v j = v) : l.foldl g v = v := by
  induction l with
  | nil => rfl
  | cons x rest ih =>
    rw [List.foldl_cons, h x List.mem_cons_self]
    exact ih fun j hj => h j (List.mem_cons_of_mem _ hj)

/-- A fold that takes `v` at the member `n`, whatever stands before it, and keeps it from there on, ends with `v`. -/
theorem foldl_settles {ι β : Type} {g : β → ι → β} {P : β → Prop} {l : List ι} {n : ι} {v : β} (hmem : n ∈ l)
    (hP : ∀ b, ∀ j ∈ l, P b → P (g b j)) (htakes : ∀ b, P b → g b n = v) (hkeeps : ∀ j ∈ l, g v j = v) {b : β}
    (hb : P b) : l.foldl g b = v := by
  induction l generalizing b with
  | nil => exact absurd hmem List.not_mem_nil
  | cons x rest ih =>
    rw [List.foldl_cons]
    rcases List.mem_cons.mp hmem with rfl | hmem
    · rw [htakes b hb]
      exact foldl_stays fun j hj => hkeeps j (List.mem_cons_of_mem _ hj)
    · exact ih hmem (fun b j hj => hP b j (List.mem_cons_of_mem _ hj)) (fun j hj => hkeeps j (List.mem_cons_of_mem _ hj))
        (hP b x List.mem_cons_self hb)

theorem serialGreater_asymm {x y : Nat} (h : serialGreater x y = true) : serialGreater y x = false := by
  unfold serialGreater at h ⊢
  simp only [Bool.and_eq_true, decide_eq_true_eq, Bool.and_eq_false_iff, decide_eq_false_iff_not] at h ⊢
  omega

theorem serialGreater_self (x : Nat) : serialGreater x x = false := by
  unfold serialGreater
  simp only [Bool.and_eq_false_iff, decide_eq_false_iff_not]
  omega

/-! ### The record taken (R143) -/

theorem allRecords_rising : allRecords.Pairwise (· < ·) := by decide

theorem AlertRecord.live_not_free {a : AlertRecord} (h : a.live = true) : a.state ≠ .free := by
  intro hfree
  unfold AlertRecord.live at h
  rw [hfree] at h
  cases h

/-- The lowest FREE record is taken. -/
theorem Alerts.recordFor_free {a : Alerts} {n : RecordId} (hn : (a.records[n]).state = .free)
    (hlow : ∀ j < n, (a.records[j]).state ≠ .free) : a.recordFor = some n := by
  have hfind : allRecords.find? (fun i => a.records[i].state == .free) = some n :=
    find?_lowest allRecords_rising (mem_allRecords n) (beq_iff_eq.mpr hn) fun j hj => beq_eq_false_iff_ne.mpr (hlow j hj)
  unfold Alerts.recordFor
  rw [hfind]

/-- With none FREE, the finished record with the smallest arrival number is taken. -/
theorem Alerts.recordFor_finished {a : Alerts} {n : RecordId} (hnone : ∀ j : RecordId, (a.records[j]).state ≠ .free)
    (hn : (a.records[n]).live = false)
    (hsmallest : ∀ j : RecordId, j ≠ n → (a.records[j]).live = false →
      serialGreater (a.records[j]).arrival (a.records[n]).arrival = true) : a.recordFor = some n := by
  have hfind : allRecords.find? (fun i => a.records[i].state == .free) = none :=
    List.find?_eq_none.mpr fun j _ hj => hnone j (beq_iff_eq.mp hj)
  have hfinished {j : RecordId} (hj : j ∈ allRecords.filter fun i => !a.records[i].live) : (a.records[j]).live = false := by
    simpa using (List.mem_filter.mp hj).2
  unfold Alerts.recordFor
  rw [hfind]
  refine foldl_settles (n := n) (P := fun best => ∀ b, best = some b → (a.records[b]).live = false) ?_
    (fun best j hj hbest => ?_) (fun best hbest => ?_) (fun j hj => ?_) (b := none) nofun
  · exact List.mem_filter.mpr ⟨mem_allRecords n, by rw [hn]; rfl⟩
  · intro b hb
    split at hb
    · cases hb
      exact hfinished hj
    · split at hb <;> cases hb
      · exact hfinished hj
      · exact hbest _ rfl
  · cases best with
    | none => rfl
    | some b =>
      by_cases hbn : b = n
      · subst hbn
        exact ite_self _
      · exact if_pos (hsmallest b hbn (hbest b rfl))
  · refine if_neg ?_
    rw [Bool.not_eq_true]
    by_cases hjn : j = n
    · subst hjn
      exact serialGreater_self _
    · exact serialGreater_asymm (hsmallest j hjn (hfinished hj))

/-- With every record live, none is taken. -/
theorem Alerts.recordFor_none {a : Alerts} (h : ∀ i : RecordId, (a.records[i]).live = true) : a.recordFor = none := by
  have hfind : allRecords.find? (fun i => a.records[i].state == .free) = none :=
    List.find?_eq_none.mpr fun j _ hj => AlertRecord.live_not_free (h j) (beq_iff_eq.mp hj)
  have hfinished : (allRecords.filter fun i => !a.records[i].live) = [] :=
    List.filter_eq_nil_iff.mpr fun j _ => by rw [h j]; nofun
  unfold Alerts.recordFor
  rw [hfind, hfinished]
  rfl

/-- With a record that is not live, one is taken. -/
theorem Alerts.recordFor_some {a : Alerts} (h : ¬ ∀ i : RecordId, (a.records[i]).live = true) :
    ∃ n, a.recordFor = some n := by
  obtain ⟨i, hi⟩ := not_forall.mp h
  have hmem : i ∈ allRecords.filter fun i => !a.records[i].live :=
    List.mem_filter.mpr ⟨mem_allRecords i, by simpa using hi⟩
  unfold Alerts.recordFor
  split
  · exact ⟨_, rfl⟩
  · rw [← Option.isSome_iff_exists]
    generalize allRecords.filter (fun i => !a.records[i].live) = l at hmem
    obtain ⟨x, rest, rfl⟩ := List.exists_cons_of_ne_nil (List.ne_nil_of_mem hmem)
    rw [List.foldl_cons]
    refine (foldl_related (R := fun b b' : Option RecordId => b.isSome = true → b'.isSome = true) (fun _ => id)
      (fun h k hb => k (h hb)) (fun best j hb => ?_) rest _) rfl
    split
    · rfl
    · split <;> rfl

/-! ### The recorder claimed (R49) -/

theorem Rig.claimForAlert_free {r : Rig} {k : RecorderId} (hk : r.freeRecorder = some k) (i : RecordId)
    (lane : Fin 16) :
    r.claimForAlert i lane = some (r.bindRecorder k (.alert i) (.lane lane) r.library.slotFrames) := by
  unfold Rig.claimForAlert
  dsimp only
  rw [hk]

theorem Rig.claimForAlert_cart {r : Rig} {k : RecorderId} {c : CartId} (hnone : r.freeRecorder = none)
    (hk : r.youngestCart = some (k, c)) (i : RecordId) (lane : Fin 16) : r.claimForAlert i lane =
      some ((r.abandonCart k c .alert).bindRecorder k (.alert i) (.lane lane) r.library.slotFrames) := by
  unfold Rig.claimForAlert
  dsimp only
  rw [hnone, hk]
  rfl

theorem Rig.claimForAlert_none {r : Rig} (hnone : r.freeRecorder = none) (hcart : r.youngestCart = none)
    (i : RecordId) (lane : Fin 16) : r.claimForAlert i lane = none := by
  unfold Rig.claimForAlert
  dsimp only
  rw [hnone, hcart]

theorem Rig.freeRecorder_none {r : Rig} (h : ∀ k : RecorderId, (r.recorder k).binding ≠ .free) : r.freeRecorder = none :=
  Option.isNone_iff_eq_none.mp (r.freeRecorder_isNone.trans (decide_eq_true h))

/-- The recorder of the cart recording with the greatest grant order. -/
theorem Rig.youngestCart_greatest {r : Rig} {k : RecorderId} {c : CartId} (hk : (r.recorder k).binding = .cart c)
    (hgreatest : ∀ (j : RecorderId) (b : CartId), j ≠ k → (r.recorder j).binding = .cart b →
      serialGreater (r.recorder k).grantOrder (r.recorder j).grantOrder = true) : r.youngestCart = some (k, c) := by
  refine foldl_settles (n := k) (P := fun best => ∀ j b, best = some (j, b) → (r.recorder j).binding = .cart b)
    (mem_allRecorders k) (fun best j _ hbest => ?_) (fun best hbest => ?_) (fun j _ => ?_) (b := none) nofun
  · intro m b hb
    split at hb
    · cases hb
      assumption
    · split at hb
      · cases hb
        assumption
      · exact hbest m b hb
    · exact hbest m b hb
  · rw [hk]
    match best with
    | none => rfl
    | some (j, b) =>
      have hj := hbest j b rfl
      by_cases hjk : j = k
      · subst hjk
        cases hk.symm.trans hj
        exact ite_self _
      · exact if_pos (hgreatest j b hjk hj)
  · split
    · contradiction
    · rename_i heq
      cases heq
      refine if_neg ?_
      rw [Bool.not_eq_true]
      by_cases hjk : j = k
      · subst hjk
        exact serialGreater_self _
      · exact serialGreater_asymm (hgreatest j _ hjk ‹_›)
    · rfl

/-- With every recorder bound to an alert record there is no cart recording. -/
theorem Rig.youngestCart_none {r : Rig} (h : ∀ k : RecorderId, ∃ j, (r.recorder k).binding = .alert j) :
    r.youngestCart = none := by
  cases hyoungest : r.youngestCart with
  | none => rfl
  | some kc =>
    obtain ⟨j, hj⟩ := h kc.1
    exact absurd (hj.symm.trans (Rig.youngestCart_binding hyoungest)) nofun

end Sys2Proof.Machine
end

section
/-!
SUPPORT: a notice's fields, and the steps of its intake, each by what it finds (R137 to R143).
-/

namespace Sys2Proof.Machine

/-! ### The notice's fields (R137) -/

/-- The fields of a notice are in range. -/
def noticeInRange (f : NoticeFields) : Prop :=
  1 ≤ f.originator ∧ f.originator ≤ 15 ∧ f.eventClass ≤ 63 ∧ 1 ≤ f.severity ∧ f.severity ≤ 3 ∧ f.areas ≠ [] ∧
    f.areas.length ≤ 8 ∧ (∀ a ∈ f.areas, a ≤ 65535) ∧ f.audioLane < 16 ∧ f.declaredLength ≠ 0

/-- The notice with these fields, its audio on `lane`. -/
def noticeOn (f : NoticeFields) (lane : Fin 16) : Notice :=
  { originator := f.originator, identity := f.identity, eventClass := f.eventClass, severity := f.severity
    issueTime := f.issueTime, validDuration := clamp 60 86400 f.validDuration, audioLane := lane
    declaredLength := f.declaredLength, areas := f.areas }

/-- The checks of ALERT_NOTICE, in the order of R137. -/
def noticeChecks (f : NoticeFields) : List (Bool × Status) :=
  [(f.originator == 0 || 15 < f.originator, .range), (63 < f.eventClass, .range),
      (f.severity == 0 || 3 < f.severity, .range),
      (f.areas.isEmpty || 8 < f.areas.length || f.areas.any fun a => 65535 < a, .range),
      ((index? 16 f.audioLane).isNone, .range), (f.declaredLength == 0, .range)]

theorem readNotice_decided (f : NoticeFields) : readNotice f = decided (noticeChecks f)
    (noticeOn f ((index? 16 f.audioLane).getD 0)) := by
  refine refuse_decided rfl (refuse_decided rfl (refuse_decided rfl (refuse_decided rfl ?_)))
  exact require_decided_getD (a := noticeOn f) 0 fun lane _ => refuse_decided rfl decided_nil

/-- Checks that all give one status pass where none of them holds. -/
theorem firstRefusal_eq {st : Status} {checks : List (Bool × Status)} (h : ∀ c ∈ checks, c.2 = st) :
    firstRefusal checks = if checks.any Prod.fst = true then some st else none := by
  induction checks with
  | nil => rfl
  | cons c rest ih =>
    obtain ⟨b, x⟩ := c
    have hx : x = st := h _ List.mem_cons_self
    subst hx
    cases b
    · exact ih fun c hc => h c (List.mem_cons_of_mem _ hc)
    · rfl

theorem index?_isNone (n k : Nat) : (index? n k).isNone = decide (n ≤ k) := by
  rw [Bool.eq_iff_iff, Option.isNone_iff_eq_none, index?_eq_none, decide_eq_true_iff]

theorem noticeChecks_range (f : NoticeFields) : ∀ c ∈ noticeChecks f, c.2 = .range := by simp [noticeChecks]

/-- A check of the notice's fields holds exactly where a field is out of range. -/
theorem noticeChecks_iff (f : NoticeFields) : (noticeChecks f).any Prod.fst = true ↔ ¬ noticeInRange f := by
  have hareas : (f.areas.any fun a => decide (65535 < a)) = true ↔ ¬ ∀ a ∈ f.areas, a ≤ 65535 := by
    simp
  unfold noticeChecks noticeInRange
  simp only [List.any_cons, List.any_nil, Bool.or_eq_true, Bool.or_false, hareas, index?_isNone, decide_eq_true_eq,
    beq_iff_eq, List.isEmpty_iff]
  simp only [not_and_or, not_le, not_lt, Nat.lt_one_iff, ne_eq, not_not, or_assoc]

theorem readNotice_refused {f : NoticeFields} (h : ¬ noticeInRange f) : readNotice f = .error .range := by
  rw [readNotice_decided, decided, firstRefusal_eq (noticeChecks_range f), if_pos ((noticeChecks_iff f).mpr h)]

theorem readNotice_read {f : NoticeFields} (h : noticeInRange f) {lane : Fin 16} (hlane : lane.val = f.audioLane) :
    readNotice f = .ok (noticeOn f lane) := by
  rw [readNotice_decided, decided, firstRefusal_eq (noticeChecks_range f),
    if_neg (fun hchecks => (noticeChecks_iff f).mp hchecks h), ← hlane, index?_val]
  rfl

theorem clamp_eq (lo hi k : Nat) (h : lo ≤ hi) : clamp lo hi k = max lo (min k hi) := by
  unfold clamp
  split
  · omega
  · split <;> omega

/-! ### The steps (R138 to R142) -/

theorem Alerts.duplicate_iff (a : Alerts) (n : Notice) : a.duplicate n = true ↔
    (n.originator, n.identity) ∈ a.recent ∨ ∃ i : RecordId, (a.records[i]).state ≠ .free ∧
      (a.records[i]).originator = n.originator ∧ (a.records[i]).identity = n.identity := by
  unfold Alerts.duplicate Alerts.withPair
  rw [Bool.or_eq_true, List.contains_iff_mem, List.find?_isSome]
  refine or_congr_right (exists_congr fun i => ?_)
  simp only [mem_allRecords, true_and, Bool.and_eq_true, bne_iff_ne, beq_iff_eq, and_assoc]

theorem Filter.catches_iff (x : Filter) (n : Notice) : x.catches n = true ↔
    x.inUse = true ∧ (x.eventClass = none ∨ x.eventClass = some n.eventClass) ∧ x.minSeverity ≤ n.severity ∧
      (x.areas = [] ∨ ∃ a ∈ x.areas, a ∈ n.areas) := by
  unfold Filter.catches
  simp only [Bool.and_eq_true, Bool.or_eq_true, beq_iff_eq, decide_eq_true_eq, List.isEmpty_iff, List.any_eq_true,
    List.contains_iff_mem, and_assoc]

theorem Alerts.filterFor_none {a : Alerts} {n : Notice} (h : ∀ i : Fin 24, (a.filters[i]).catches n ≠ true) :
    a.filterFor n = none := List.find?_eq_none.mpr fun i _ => h i

theorem Alerts.filterFor_first {a : Alerts} {n : Notice} {i : Fin 24} (hi : (a.filters[i]).catches n = true)
    (hfirst : ∀ j < i, (a.filters[j]).catches n ≠ true) : a.filterFor n = some i :=
  find?_lowest (List.pairwise_lt_finRange 24) (List.mem_finRange i) hi fun j hj => Bool.not_eq_true _ ▸ hfirst j hj

/-- The rig with the notice's pair in the recent-identity list (R138). -/
def Rig.remembers (r : Rig) (n : Notice) : Rig :=
  { r with alerts := { r.alerts with recent := rememberPair r.alerts.recent (n.originator, n.identity) } }

section
variable {r : Rig} {clock : Clock} {n : Notice} {v : Nat}

theorem Rig.intake_duplicate (h : r.alerts.duplicate n = true) :
    r.intake clock n = (r.report (.alertDuplicate n.originator n.identity), .duplicate) := if_pos h

theorem Rig.intake_expired (hnew : ¬ r.alerts.duplicate n = true) (hvalid : clock.timeValid = true)
    (hexpired : clock.validUntil n ≤ clock.seconds) : r.intake clock n =
      ((r.remembers n).report (.alertRejected (n.reported none) .expired), .rejected .expired) := by
  unfold Rig.intake
  rw [if_neg hnew, hvalid, decide_eq_true hexpired]
  rfl

theorem Rig.intake_filters (hnew : ¬ r.alerts.duplicate n = true)
    (hcurrent : clock.timeValid = true → clock.seconds < clock.validUntil n) :
    r.intake clock n = (r.remembers n).filterNotice n (clock.validUntil n) := by
  unfold Rig.intake
  rw [if_neg hnew]
  refine if_neg fun hexpired => ?_
  obtain ⟨hvalid, hexpired⟩ := Bool.and_eq_true_iff.mp hexpired
  exact absurd (hcurrent hvalid) (of_decide_eq_true hexpired).not_gt

theorem Rig.filterNotice_unmatched (h : r.alerts.filterFor n = none) :
    r.filterNotice n v = r.logNotice n v none .unmatched := by
  unfold Rig.filterNotice
  dsimp only
  rw [h]
  rfl

theorem Rig.filterNotice_ignored {i : Fin 24} (h : r.alerts.filterFor n = some i)
    (haction : (r.alerts.filters[i]).action = .ignore) : r.filterNotice n v =
      (r.report (.alertRejected (n.reported (some i)) .filtered), .rejected .filtered) := by
  unfold Rig.filterNotice
  dsimp only
  rw [h]
  dsimp only
  rw [haction]

theorem Rig.filterNotice_logged {i : Fin 24} (h : r.alerts.filterFor n = some i)
    (haction : (r.alerts.filters[i]).action = .log) :
    r.filterNotice n v = r.logNotice n v (some i) r.alerts.filters[i] := by
  unfold Rig.filterNotice
  dsimp only
  rw [h]
  dsimp only
  rw [haction]

theorem Rig.filterNotice_accepted {i : Fin 24} (h : r.alerts.filterFor n = some i)
    (haction : (r.alerts.filters[i]).action = .auto ∨ (r.alerts.filters[i]).action = .confirm) :
    r.filterNotice n v = r.acceptNotice n v (some i) r.alerts.filters[i] := by
  unfold Rig.filterNotice
  dsimp only
  rw [h]
  dsimp only
  rcases haction with haction | haction <;> rw [haction]

variable {index : Option (Fin 24)} {x : Filter}

theorem Rig.logNotice_full (h : r.alerts.recordFor = none) :
    r.logNotice n v index x = (r.report (.alertLogged (n.reported index) none), .logged none) := by
  unfold Rig.logNotice
  rw [h]

theorem Rig.logNotice_taken {i : RecordId} (h : r.alerts.recordFor = some i) : r.logNotice n v index x =
    ((r.takeRecord i n .logged v index x).report (.alertLogged (n.reported index) (some i)), .logged (some i)) := by
  unfold Rig.logNotice
  rw [h]

theorem Rig.acceptNotice_full (h : r.alerts.recordFor = none) : r.acceptNotice n v index x =
    (r.report (.alertRejected (n.reported index) .tableFull), .rejected .tableFull) := by
  unfold Rig.acceptNotice
  dsimp only
  rw [h]

theorem Rig.acceptNotice_noRegion {i : RecordId} (h : r.alerts.recordFor = some i)
    (hpages : r.library.alertRegion.pages = 0) : r.acceptNotice n v index x =
      (r.report (.alertRejected (n.reported index) .noRegion), .rejected .noRegion) := by
  unfold Rig.acceptNotice
  dsimp only
  rw [h]
  exact if_pos hpages

theorem Rig.acceptNotice_noRecorder {i : RecordId} (h : r.alerts.recordFor = some i)
    (hpages : r.library.alertRegion.pages ≠ 0) (hclaim : r.claimForAlert i n.audioLane = none) :
    r.acceptNotice n v index x =
      (r.report (.alertRejected (n.reported index) .noRecorder), .rejected .noRecorder) := by
  unfold Rig.acceptNotice
  dsimp only
  rw [h]
  dsimp only
  rw [if_neg hpages, hclaim]

theorem Rig.acceptNotice_granted {i : RecordId} (h : r.alerts.recordFor = some i)
    (hpages : r.library.alertRegion.pages ≠ 0) {granted : Rig} (hclaim : r.claimForAlert i n.audioLane = some granted) :
    r.acceptNotice n v index x =
      ((granted.takeRecord i n .recording v index x).report (.alertAccepted (n.reported index) i), .accepted i) := by
  unfold Rig.acceptNotice
  dsimp only
  rw [h]
  dsimp only
  rw [if_neg hpages, hclaim]

end

/-! ### ALERT_NOTICE -/

theorem execAlertNotice_refused {s : State} {e : Egress} (he : s.rig.egress.secure 1 = some e) (tag : Tag)
    {f : NoticeFields} (h : ¬ noticeInRange f) :
    exec (.alertNotice tag f) s = .next (s.answered e [refusedWith tag .alertNotice .range]) :=
  answer_refusedOnRig he (check := fun _ => readNotice f) (readNotice_refused h)

/-- A notice in range leaves the rig that its intake leaves, with the reply behind the reports. -/
theorem execAlertNotice_settled {s : State} {e : Egress} (he : s.rig.egress.secure 1 = some e) (tag : Tag)
    {f : NoticeFields} {n : Notice} (hn : readNotice f = .ok n) {r' : Rig} {x : Intake}
    (h : ({ s.rig with egress := e } : Rig).intake s.clock n = (r', x)) : exec (.alertNotice tag f) s = .next { s with
      inbound := none
      rig := { r' with egress := r'.egress.answered [doneWith tag .alertNotice x.data] } } := by
  have hanswer : exec (.alertNotice tag f) s = .next { s with
      inbound := none
      rig := { r' with egress := { r'.egress.push (doneWith tag .alertNotice x.data) with reserved := 0 } } } := by
    refine (congrArg Host.Outcome.next (State.takeOnRig_room _ he)).trans ?_
    rw [hn, Rig.judged_ok, h]
    rfl
  exact hanswer

theorem noticeOn_validUntil (f : NoticeFields) (lane : Fin 16) (c : Clock) :
    c.validUntil (noticeOn f lane) = if c.timeValid = true then f.issueTime + max 60 (min f.validDuration 86400)
      else c.seconds + max 60 (min f.validDuration 86400) := by
  rw [← clamp_eq 60 86400 _ (by decide)]
  rfl

end Sys2Proof.Machine
end

section
/-!
The statement on the intake of notices: O44.
-/

namespace Sys2Proof.Machine

/-- The record taken is the lowest FREE one, or else the finished one with the smallest arrival number (R143). -/
theorem Alerts.recordFor_taken {a : Alerts} {n : RecordId}
    (h : (a.records[n]).state = .free ∧ (∀ j < n, (a.records[j]).state ≠ .free) ∨
      (∀ j : RecordId, (a.records[j]).state ≠ .free) ∧ (a.records[n]).live = false ∧
        ∀ j : RecordId, j ≠ n → (a.records[j]).live = false →
          serialGreater (a.records[j]).arrival (a.records[n]).arrival = true) : a.recordFor = some n := by
  rcases h with ⟨hfree, hlow⟩ | ⟨hnone, hfinished, hsmallest⟩
  · exact Alerts.recordFor_free hfree hlow
  · exact Alerts.recordFor_finished hnone hfinished hsmallest

/-- The rig of a request with room made, the notice's pair remembered: what the filter step finds. -/
def State.noticed (s : State) (e : Egress) (n : Notice) : Rig := Rig.remembers { s.rig with egress := e } n

/-- A new and current notice leaves the rig that the filter step leaves. -/
theorem execAlertNotice_filtered {s : State} {e : Egress} (he : s.rig.egress.secure 1 = some e) (tag : Tag)
    {f : NoticeFields} {n : Notice} (hn : readNotice f = .ok n) (hnew : ¬ s.rig.alerts.duplicate n = true)
    (hcurrent : s.clock.timeValid = true → s.clock.seconds < s.clock.validUntil n) {r' : Rig} {x : Intake}
    (h : (s.noticed e n).filterNotice n (s.clock.validUntil n) = (r', x)) : exec (.alertNotice tag f) s = .next { s with
      inbound := none
      rig := { r' with egress := r'.egress.answered [doneWith tag .alertNotice x.data] } } :=
  execAlertNotice_settled he tag hn
    ((Rig.intake_filters (r := { s.rig with egress := e }) (n := n) hnew hcurrent).trans h)

/-- The recorder of an abandoned cart recording is bound to the alert record `n` (R49, R53). -/
theorem Rig.abandonCart_bindRecorder (r : Rig) (k : RecorderId) (c : CartId) (n : RecordId) (lane : Fin 16) :
    ((r.abandonCart k c .alert).bindRecorder k (.alert n) (.lane lane) r.library.slotFrames) = { r with
      egress := r.egress.report (.recordAbandoned c .alert (r.recorder k).position)
      library := { r.library with
        carts := vset r.library.carts c ((r.cart c).cleared .defined)
        recorders := vset r.library.recorders k
          { binding := .alert n, source := .lane lane, position := 0, limit := r.library.slotFrames
            grantOrder := nextSerial r.library.lastGrant }
        lastGrant := nextSerial r.library.lastGrant } } := by
  unfold Rig.abandonCart Rig.bindRecorder
  simp only [Rig.setCart, Rig.setRecorder, Rig.report, vset_twice]

/-- Settles O44: each way a notice is settled, by the first step of the intake that settles it. -/
theorem noticeIntakeEndsAtTheFirstStepThatSettles : Obligations.NoticeIntakeEndsAtTheFirstStepThatSettles := by
  intro s e tag f he inRange known duration expires matches' notice recent settled same record holding allLive taken
  have hread (h : inRange) : ∃ hlane : f.audioLane < 16, readNotice f = .ok (noticeOn f ⟨f.audioLane, hlane⟩) := by
    obtain ⟨-, -, -, -, -, -, -, -, hlane, -⟩ := id h
    exact ⟨hlane, readNotice_read h rfl⟩
  refine ⟨fun h => execAlertNotice_refused he tag h, fun hrange hdup => ?_, fun hrange hnew hvalid hexpired => ?_,
    fun hrange hnew hcurrent => ?_⟩ <;> obtain ⟨hlane, hn⟩ := hread hrange
  · exact execAlertNotice_settled he tag hn (Rig.intake_duplicate ((Alerts.duplicate_iff _ _).mpr hdup))
  · have hintake := Rig.intake_expired (r := { s.rig with egress := e }) (n := noticeOn f ⟨f.audioLane, hlane⟩)
      (mt (Alerts.duplicate_iff _ _).mp hnew) hvalid (by rw [noticeOn_validUntil]; exact hexpired)
    exact (execAlertNotice_settled he tag hn hintake).trans rfl
  · have hfiltered {r' : Rig} {x : Intake} := execAlertNotice_filtered he tag hn (r' := r') (x := x)
      (mt (Alerts.duplicate_iff _ _).mp hnew) (by rw [noticeOn_validUntil]; exact hcurrent)
    rw [noticeOn_validUntil] at hfiltered
    have hmatches (i : Fin 24) := Filter.catches_iff s.rig.alerts.filters[i] (noticeOn f ⟨f.audioLane, hlane⟩)
    have hrecord {n : RecordId} (h : taken n) :
        (s.noticed e (noticeOn f ⟨f.audioLane, hlane⟩)).alerts.recordFor = some n := Alerts.recordFor_taken h
    have hfull (h : allLive) : (s.noticed e (noticeOn f ⟨f.audioLane, hlane⟩)).alerts.recordFor = none :=
      Alerts.recordFor_none h
    have hroom (h : ¬ allLive) : ∃ n, (s.noticed e (noticeOn f ⟨f.audioLane, hlane⟩)).alerts.recordFor = some n :=
      Alerts.recordFor_some h
    refine ⟨fun hno => ?_, fun i hi hfirst => ?_⟩
    · have hfilter : (s.noticed e (noticeOn f ⟨f.audioLane, hlane⟩)).alerts.filterFor _ = none :=
        Alerts.filterFor_none fun i hi => hno i ((hmatches i).mp hi)
      refine ⟨fun hlive => ?_, fun n htaken => ?_⟩
      · exact hfiltered ((Rig.filterNotice_unmatched hfilter).trans (Rig.logNotice_full (hfull hlive)))
      · exact hfiltered ((Rig.filterNotice_unmatched hfilter).trans (Rig.logNotice_taken (hrecord htaken)))
    · have hfilter : (s.noticed e (noticeOn f ⟨f.audioLane, hlane⟩)).alerts.filterFor _ = some i :=
        Alerts.filterFor_first ((hmatches i).mpr hi) fun j hj hc => hfirst j hj ((hmatches j).mp hc)
      refine ⟨fun hignore => ?_, fun hlog hlive => ?_, fun n htaken hlog => ?_, fun haction => ?_⟩
      · exact hfiltered (Rig.filterNotice_ignored hfilter hignore)
      · exact hfiltered ((Rig.filterNotice_logged hfilter hlog).trans (Rig.logNotice_full (hfull hlive)))
      · exact hfiltered ((Rig.filterNotice_logged hfilter hlog).trans (Rig.logNotice_taken (hrecord htaken)))
      · have haccepted := fun v => Rig.filterNotice_accepted (v := v) hfilter haction
        refine ⟨fun hlive => ?_, fun hlive hpages => ?_, fun hlive hpages hbound => ?_,
          fun n k lane htaken hlane' hpages => ⟨fun hk hlow => ?_, fun c hk hbusy hgreatest => ?_⟩⟩
        · exact hfiltered ((haccepted _).trans (Rig.acceptNotice_full (hfull hlive)))
        · obtain ⟨n, hn⟩ := hroom hlive
          exact hfiltered ((haccepted _).trans (Rig.acceptNotice_noRegion hn hpages))
        · obtain ⟨n, hn⟩ := hroom hlive
          have hbusy (k : RecorderId) : (s.rig.recorder k).binding ≠ .free := by
            obtain ⟨j, hj⟩ := hbound k
            rw [hj]
            nofun
          exact hfiltered ((haccepted _).trans (Rig.acceptNotice_noRecorder hn hpages
            (Rig.claimForAlert_none (r := s.noticed e _) (Rig.freeRecorder_none hbusy) (Rig.youngestCart_none hbound) _ _)))
        · obtain rfl : lane = ⟨f.audioLane, hlane⟩ := Fin.ext hlane'
          exact hfiltered ((haccepted _).trans (Rig.acceptNotice_granted (hrecord htaken) hpages
            (Rig.claimForAlert_free (r := s.noticed e _) (Rig.freeRecorder_lowest hk hlow) _ _)))
        · obtain rfl : lane = ⟨f.audioLane, hlane⟩ := Fin.ext hlane'
          have hclaim := Rig.claimForAlert_cart (r := s.noticed e (noticeOn f ⟨f.audioLane, hlane⟩))
            (Rig.freeRecorder_none hbusy) (Rig.youngestCart_greatest hk hgreatest) n ⟨f.audioLane, hlane⟩
          rw [Rig.abandonCart_bindRecorder] at hclaim
          exact hfiltered ((haccepted _).trans (Rig.acceptNotice_granted (hrecord htaken) hpages hclaim))

end Sys2Proof.Machine
end
section
/-!
SUPPORT. The program decks and the running order left as they stand: what the recordings, the alerts, the delay, the
switch and the monitors do beside them.
-/

namespace Sys2Proof.Machine

/-! ### The program decks and the running order left alone -/

/-- The program decks and the running order stand as they stood. -/
structure Rig.SparesProgram (r r' : Rig) : Prop where
  deck : ∀ d, isProgramDeck d = true → r'.deck d = r.deck d
  order : r'.order = r.order

theorem Rig.SparesProgram.refl (r : Rig) : r.SparesProgram r := ⟨fun _ _ => rfl, rfl⟩

theorem Rig.SparesProgram.trans {r₁ r₂ r₃ : Rig} (h : r₁.SparesProgram r₂) (k : r₂.SparesProgram r₃) :
    r₁.SparesProgram r₃ := ⟨fun d hd => (k.deck d hd).trans (h.deck d hd), k.order.trans h.order⟩

theorem Rig.sparesProgram_of {r r' : Rig} (hd : r'.decks.decks = r.decks.decks) (ho : r'.order = r.order) :
    r.SparesProgram r' := by
  refine ⟨fun d _ => ?_, ho⟩
  unfold Rig.deck
  rw [hd]

theorem Rig.report_sparesProgram (r : Rig) (m : Report) : r.SparesProgram (r.report m) := Rig.sparesProgram_of rfl rfl

theorem Rig.reply_sparesProgram (r : Rig) (tag : Tag) (k : RequestKind) (st : Status) (d : List Nat) :
    r.SparesProgram (r.reply tag k st d) := Rig.sparesProgram_of rfl rfl

theorem Rig.reports_sparesProgram (r : Rig) (ms : List Report) : r.SparesProgram (r.reports ms) := by
  rw [Rig.reports_eq]
  exact Rig.sparesProgram_of rfl rfl

theorem not_program_deckA : isProgramDeck deckA ≠ true := by decide

theorem not_program_deckF : isProgramDeck deckF ≠ true := by decide

/-! ### Decks A and F -/

theorem Rig.setDeck_sparesProgram (r : Rig) {d : DeckId} (hd : isProgramDeck d ≠ true) (x : Deck) :
    r.SparesProgram (r.setDeck d x) := by
  refine ⟨fun e he => ?_, rfl⟩
  rw [Rig.deck_setDeck, if_neg]
  rintro rfl
  exact hd he

theorem Rig.loadDeck_sparesProgram (r : Rig) {d : DeckId} (hd : isProgramDeck d ≠ true) (q : LoadRequest) :
    r.SparesProgram (r.loadDeck d q) := by
  unfold Rig.loadDeck
  split <;> exact r.setDeck_sparesProgram hd _

theorem Rig.unloadDeck_sparesProgram (r : Rig) {d : DeckId} (hd : isProgramDeck d ≠ true) :
    r.SparesProgram (r.unloadDeck d) := r.setDeck_sparesProgram hd _

theorem Rig.finishDeck_sparesProgram (r : Rig) {d : DeckId} (hd : isProgramDeck d ≠ true) (c : EndCause) :
    r.SparesProgram (r.finishDeck d c) := (r.setDeck_sparesProgram hd _).trans (Rig.report_sparesProgram _ _)

theorem Rig.emptyDeck_sparesProgram (r : Rig) {d : DeckId} (hd : isProgramDeck d ≠ true) :
    r.SparesProgram (r.emptyDeck d) := by
  have cut := (r.finishDeck_sparesProgram hd .cut).trans (Rig.unloadDeck_sparesProgram _ hd)
  unfold Rig.emptyDeck
  split
  · exact .refl r
  · exact cut
  · exact cut
  · exact cut
  all_goals exact r.unloadDeck_sparesProgram hd

theorem Rig.startDeck_sparesProgram (r : Rig) {d : DeckId} (hd : isProgramDeck d ≠ true) :
    r.SparesProgram (r.startDeck d) := by
  unfold Rig.startDeck
  rw [if_neg hd]
  exact (r.setDeck_sparesProgram hd _).trans (Rig.sparesProgram_of rfl rfl)

/-! ### The delay and the switch -/

theorem Rig.changeDelay_sparesProgram (r : Rig) (d : Delay) (cause : DelayCause) :
    r.SparesProgram (r.changeDelay d cause) := by
  unfold Rig.changeDelay
  dsimp only
  split <;> split <;> exact Rig.sparesProgram_of rfl rfl

theorem Rig.heldFrame_sparesProgram (r : Rig) : r.SparesProgram r.heldFrame := by
  unfold Rig.heldFrame
  dsimp only
  refine Rig.SparesProgram.trans ?_ (Rig.changeDelay_sparesProgram _ _ _)
  split <;> exact Rig.sparesProgram_of rfl rfl

theorem Rig.loadFallback_sparesProgram (r : Rig) : r.SparesProgram r.loadFallback := by
  unfold Rig.loadFallback
  split
  · exact r.report_sparesProgram _
  · split
    · exact r.loadDeck_sparesProgram not_program_deckF _
    all_goals exact r.report_sparesProgram _

theorem Rig.serveFallback_sparesProgram (r : Rig) (was : Bool) : r.SparesProgram (r.serveFallback was) := by
  have emptied := r.emptyDeck_sparesProgram not_program_deckF
  unfold Rig.serveFallback
  split
  · split
    · exact r.loadFallback_sparesProgram
    · split
      · exact .refl r
      · exact emptied.trans (Rig.loadFallback_sparesProgram _)
  · split
    · exact emptied
    · exact .refl r

theorem Rig.evaluateOwner_sparesProgram (r : Rig) (c : OwnerCause) : r.SparesProgram (r.evaluateOwner c) := by
  unfold Rig.evaluateOwner
  split
  · exact .refl r
  · have told : r.SparesProgram (({ r with airSwitch := r.airSwitch.changed r.evaluatedOwner } : Rig).report
        (.airOwner r.airSwitch.owner r.evaluatedOwner c)) := Rig.sparesProgram_of rfl rfl
    exact told.trans (Rig.serveFallback_sparesProgram _ _)

theorem Rig.withRun_sparesProgram (r : Rig) (run : Bool) : r.SparesProgram (r.withRun run) :=
  Rig.sparesProgram_of rfl rfl

theorem Rig.switchRunStart_sparesProgram (r : Rig) : r.SparesProgram r.switchRunStart :=
  (r.withRun_sparesProgram true).trans (Rig.evaluateOwner_sparesProgram _ .alertStart)

theorem Rig.switchRunEnd_sparesProgram (r : Rig) : r.SparesProgram r.switchRunEnd :=
  (r.withRun_sparesProgram false).trans (Rig.evaluateOwner_sparesProgram _ .alertEnd)

theorem Rig.switchFaded_sparesProgram (r : Rig) : r.SparesProgram r.switchFaded := by
  have stepped : r.SparesProgram r.fadeStepped := Rig.sparesProgram_of rfl rfl
  rw [Rig.switchFaded_eq]
  split
  · exact stepped.trans (Rig.emptyDeck_sparesProgram _ not_program_deckF)
  · exact stepped

theorem Rig.delayHold_sparesProgram (r : Rig) : r.SparesProgram r.delayHold := r.changeDelay_sparesProgram _ .alert

theorem Rig.delayRelease_sparesProgram (r : Rig) : r.SparesProgram r.delayRelease :=
  r.changeDelay_sparesProgram _ .alert

/-! ### The monitors -/

theorem Rig.handOn_sparesProgram (r : Rig) (c : Fin 18) (was : Bool) : r.SparesProgram (r.handOn c was) := by
  unfold Rig.handOn
  split
  · exact .refl r
  · split
    · exact r.evaluateOwner_sparesProgram _
    · split
      · exact .refl r
      · split
        · split <;> exact Rig.sparesProgram_of rfl rfl
        · exact Rig.sparesProgram_of rfl rfl

theorem Rig.handOnAll_sparesProgram (r : Rig) (cs : List (Fin 18)) (before : Monitors) :
    r.SparesProgram (r.handOnAll cs before) :=
  foldl_related Rig.SparesProgram.refl Rig.SparesProgram.trans (fun r c => r.handOn_sparesProgram c _) cs r

theorem Rig.endBlock_sparesProgram (r : Rig) (c : Fin 18) : r.SparesProgram (r.endBlock c) := by
  unfold Rig.endBlock
  dsimp only
  refine Rig.SparesProgram.trans ?_ (Rig.handOn_sparesProgram _ _ _)
  generalize (if (r.cell c).discard || (r.monitors.settings[cellSetting c]).mode == .off then r.cell c
    else (r.cell c).counted (isOverloadSetting (cellSetting c)) r.monitors.settings[cellSetting c]) = y
  split <;> exact Rig.sparesProgram_of rfl rfl

theorem Rig.endBlocks_sparesProgram (r : Rig) : r.SparesProgram r.endBlocks :=
  foldl_related Rig.SparesProgram.refl Rig.SparesProgram.trans (fun r c => r.endBlock_sparesProgram c) allCells r

theorem Rig.changeCells_sparesProgram (r : Rig) (cs : List (Fin 18)) (f : MonitorCell → MonitorCell) :
    r.SparesProgram (r.changeCells cs f) := by
  rw [r.changeCells_keeps cs f]
  exact Rig.sparesProgram_of rfl rfl

theorem Rig.changeSetting_sparesProgram (r : Rig) (i : Fin 8) (m : MonitorSetting) :
    r.SparesProgram (r.changeSetting i m) := by
  have set : r.SparesProgram (r.withSetting i m) := Rig.sparesProgram_of rfl rfl
  have moded : r.SparesProgram (if m.mode = .off ∧ (r.monitors.settings[i]).mode ≠ .off then
      (r.withSetting i m).changeCells (cellsOf i) MonitorCell.switchedOff else r.withSetting i m) := by
    split
    · exact set.trans (Rig.changeCells_sparesProgram _ _ _)
    · exact set
  have told := moded.trans (Rig.handOnAll_sparesProgram _ (cellsOf i) r.monitors)
  unfold Rig.changeSetting
  dsimp only
  split
  · exact told
  · exact told.trans (Rig.sparesProgram_of rfl rfl)

/-! ### Recordings -/

theorem Rig.abandonCarts_sparesProgram (r : Rig) (cause : AbandonCause) : r.SparesProgram (r.abandonCarts cause) := by
  refine foldl_related Rig.SparesProgram.refl Rig.SparesProgram.trans (fun r k => ?_) allRecorders r
  split <;> exact Rig.sparesProgram_of rfl rfl

theorem Rig.freeAlertRecorder_sparesProgram (r : Rig) (i : RecordId) : r.SparesProgram (r.freeAlertRecorder i) := by
  unfold Rig.freeAlertRecorder
  split <;> exact Rig.sparesProgram_of rfl rfl

theorem Rig.placeRecorded_sparesProgram (r : Rig) (i : RecordId) (now : Nat) :
    r.SparesProgram (r.placeRecorded i now) := by
  unfold Rig.placeRecorded
  dsimp only
  split
  · exact Rig.sparesProgram_of rfl rfl
  · split <;> exact Rig.sparesProgram_of rfl rfl

theorem Rig.closeAlertRecording_sparesProgram (r : Rig) (i : RecordId) (truncated : Bool) (now : Nat) :
    r.SparesProgram (r.closeAlertRecording i truncated now) := by
  refine ((r.freeAlertRecorder_sparesProgram i).trans ?_).trans (Rig.placeRecorded_sparesProgram _ i now)
  exact Rig.sparesProgram_of rfl rfl

theorem Rig.recordingsLost_sparesProgram (r : Rig) (now : Nat) : r.SparesProgram (r.recordingsLost now) := by
  refine foldl_related Rig.SparesProgram.refl Rig.SparesProgram.trans (fun r i => ?_) allRecords r
  unfold Rig.alertRecordingLost
  split
  · exact .refl r
  · split
    · exact r.closeAlertRecording_sparesProgram i true now
    · exact (r.freeAlertRecorder_sparesProgram i).trans (Rig.sparesProgram_of rfl rfl)

theorem Rig.recorderAdvances_sparesProgram (r : Rig) (k : RecorderId) : r.SparesProgram (r.recorderAdvances k) := by
  unfold Rig.recorderAdvances
  dsimp only
  split <;> exact Rig.sparesProgram_of rfl rfl

theorem Rig.claimForAlert_sparesProgram {r r' : Rig} {i : RecordId} {lane : Fin 16}
    (h : r.claimForAlert i lane = some r') : r.SparesProgram r' := by
  unfold Rig.claimForAlert at h
  dsimp only at h
  split at h
  · cases h
    exact Rig.sparesProgram_of rfl rfl
  · split at h
    · cases h
      exact Rig.sparesProgram_of rfl rfl
    · cases h

theorem Rig.intake_sparesProgram (r : Rig) (clock : Clock) (n : Notice) : r.SparesProgram (r.intake clock n).1 := by
  have accepted (r : Rig) (v : Nat) (index : Option (Fin 24)) (f : Filter) :
      r.SparesProgram (r.acceptNotice n v index f).1 := by
    unfold Rig.acceptNotice
    dsimp only
    split
    · exact r.report_sparesProgram _
    · split
      · exact r.report_sparesProgram _
      · split
        · exact r.report_sparesProgram _
        · rename_i granted hclaim
          have claimed : r.SparesProgram granted := Rig.claimForAlert_sparesProgram hclaim
          exact claimed.trans (Rig.sparesProgram_of rfl rfl)
  have logged (r : Rig) (v : Nat) (index : Option (Fin 24)) (f : Filter) :
      r.SparesProgram (r.logNotice n v index f).1 := by
    unfold Rig.logNotice
    split <;> exact Rig.sparesProgram_of rfl rfl
  have known : r.SparesProgram (r.remembers n) := Rig.sparesProgram_of rfl rfl
  unfold Rig.intake
  split
  · exact r.report_sparesProgram _
  · dsimp only
    split
    · exact known.trans (Rig.report_sparesProgram _ _)
    · refine known.trans ?_
      unfold Rig.filterNotice
      dsimp only
      split
      · exact Rig.report_sparesProgram _ _
      · exact logged _ _ _ _
      · exact accepted _ _ _ _
      · exact accepted _ _ _ _

/-! ### Deadlines and airings -/

theorem Rig.testDeadlines_sparesProgram (r : Rig) (now : Nat) (i : RecordId) :
    r.SparesProgram (r.testDeadlines now i) := by
  rw [(r.testDeadlines_spec now i).1]
  exact Rig.sparesProgram_of rfl rfl

theorem Rig.loadPart_sparesProgram (r : Rig) (i : RecordId) (p : Part) : r.SparesProgram (r.loadPart i p).1 := by
  unfold Rig.loadPart
  split
  · exact .refl r
  · split
    · rename_i source _ _ _
      exact (r.loadDeck_sparesProgram not_program_deckA (.plain source (r.record i).recordedLength)).trans
        (Rig.sparesProgram_of rfl rfl)
    · split
      · exact r.report_sparesProgram _
      · exact .refl r

theorem Rig.playing_sparesProgram (r : Rig) (i : RecordId) : r.SparesProgram (r.playing i) := by
  have named : r.SparesProgram ((r.namedAiring i).report (.alertAiring i)) := Rig.sparesProgram_of rfl rfl
  refine named.trans ?_
  unfold Rig.playing Rig.loadFirstPart
  dsimp only
  split
  · exact Rig.loadPart_sparesProgram _ i .leadIn
  · exact (Rig.loadPart_sparesProgram _ i .leadIn).trans (Rig.loadPart_sparesProgram _ i .slot)

theorem Rig.leftAiring_sparesProgram (r : Rig) (i : RecordId) (st : AlertState) :
    r.SparesProgram (r.leftAiring i st) := Rig.sparesProgram_of rfl rfl

end Sys2Proof.Machine
end

section
/-!
SUPPORT. At most two program decks on air, and the running order in form, through the operations of the decks and of the
running order (R67, R75 to R91).
-/

namespace Sys2Proof.Machine

/-! ### The best of a list -/

/-- One step of a search for the best of a list: the one found so far, unless the next is better. -/
def pickBest {α : Type} (better : α → α → Bool) (best : Option α) (x : α) : Option α :=
  match best with
  | none => some x
  | some b => if better x b then some x else some b

theorem foldl_pickBest_some {α : Type} (better : α → α → Bool) (l : List α) (a : α) :
    ∃ b ∈ a :: l, l.foldl (pickBest better) (some a) = some b := by
  induction l generalizing a with
  | nil => exact ⟨a, List.mem_cons_self, rfl⟩
  | cons x l ih =>
    have hstep : pickBest better (some a) x = some x ∨ pickBest better (some a) x = some a := by
      unfold pickBest
      dsimp only
      split
      · exact .inl rfl
      · exact .inr rfl
    rw [List.foldl_cons]
    rcases hstep with hx | hx
    · rw [hx]
      obtain ⟨b, hb, he⟩ := ih x
      exact ⟨b, List.mem_cons_of_mem _ hb, he⟩
    · rw [hx]
      obtain ⟨b, hb, he⟩ := ih a
      refine ⟨b, ?_, he⟩
      rcases List.mem_cons.mp hb with rfl | hb
      · exact List.mem_cons_self
      · exact List.mem_cons_of_mem _ (List.mem_cons_of_mem _ hb)

/-- A list that is not empty has a best, and it is a member. -/
theorem foldl_pickBest_mem {α : Type} (better : α → α → Bool) {l : List α} (h : l ≠ []) :
    ∃ b ∈ l, l.foldl (pickBest better) none = some b := by
  cases l with
  | nil => exact absurd rfl h
  | cons x l => exact foldl_pickBest_some better l x

/-- The member that is better than every other is the best. -/
theorem foldl_pickBest_eq {α : Type} {better : α → α → Bool} {l : List α} {n : α} (hmem : n ∈ l)
    (hbest : ∀ y ∈ l, y ≠ n → better n y = true ∧ better y n = false) : l.foldl (pickBest better) none = some n := by
  refine foldl_settles (P := fun best => ∀ b, best = some b → b ∈ l) hmem (fun best j hj hb b hpick => ?_)
    (fun best hb => ?_) (fun j hj => ?_) nofun
  · unfold pickBest at hpick
    split at hpick
    · cases hpick
      exact hj
    · split at hpick
      · cases hpick
        exact hj
      · exact hb b hpick
  · unfold pickBest
    split
    · rfl
    · rename_i b
      by_cases hbn : b = n
      · subst hbn
        exact ite_self _
      · exact if_pos (hbest b (hb b rfl) hbn).1
  · unfold pickBest
    dsimp only
    by_cases hjn : j = n
    · subst hjn
      exact ite_self _
    · exact if_neg (by rw [(hbest j hj hjn).2]; nofun)

/-! ### The program decks on air -/

/-- The program decks that are audible (R67). -/
def Rig.audibleDecks (r : Rig) : List DeckId := programDecks.filter fun d => (r.deck d).audible

/-- The number of program decks on air. -/
def Rig.onAir (r : Rig) : Nat := r.audibleDecks.length

theorem nodup_programDecks : programDecks.Nodup := by decide

theorem mem_programDecks_iff (d : DeckId) : d ∈ programDecks ↔ isProgramDeck d = true := by
  revert d
  decide

theorem Rig.mem_audibleDecks (r : Rig) (d : DeckId) :
    d ∈ r.audibleDecks ↔ isProgramDeck d = true ∧ (r.deck d).audible = true := by
  unfold Rig.audibleDecks
  rw [List.mem_filter, mem_programDecks_iff]

theorem Rig.nodup_audibleDecks (r : Rig) : r.audibleDecks.Nodup := nodup_programDecks.filter _

/-- No program deck is audible that was not, but those of a list. -/
theorem Rig.onAir_le_of {r r' : Rig} {l : List DeckId}
    (h : ∀ d, isProgramDeck d = true → (r'.deck d).audible = true → d ∈ l ∨ (r.deck d).audible = true) :
    r'.onAir ≤ l.length + r.onAir := by
  have hsub : r'.audibleDecks ⊆ l ++ r.audibleDecks := fun d hd => by
    obtain ⟨hprogram, haudible⟩ := (r'.mem_audibleDecks d).mp hd
    rcases h d hprogram haudible with hl | hr
    · exact List.mem_append_left _ hl
    · exact List.mem_append_right _ ((r.mem_audibleDecks d).mpr ⟨hprogram, hr⟩)
  have hle := (r'.nodup_audibleDecks.subperm hsub).length_le
  rwa [List.length_append] at hle

/-- A deck that was on air is so no longer, and no other is that was not. -/
theorem Rig.onAir_lt_of {r r' : Rig} {o : DeckId} (ho : o ∈ r.audibleDecks) (hquiet : (r'.deck o).audible = false)
    (h : ∀ d, isProgramDeck d = true → (r'.deck d).audible = true → (r.deck d).audible = true) :
    r'.onAir < r.onAir := by
  have hsub : o :: r'.audibleDecks ⊆ r.audibleDecks := fun d hd => by
    rcases List.mem_cons.mp hd with rfl | hd
    · exact ho
    · obtain ⟨hprogram, haudible⟩ := (r'.mem_audibleDecks d).mp hd
      exact (r.mem_audibleDecks d).mpr ⟨hprogram, h d hprogram haudible⟩
  have hnot : o ∉ r'.audibleDecks := fun hd =>
    Bool.false_ne_true (hquiet.symm.trans ((r'.mem_audibleDecks o).mp hd).2)
  have hnodup : (o :: r'.audibleDecks).Nodup := List.nodup_cons.mpr ⟨hnot, r'.nodup_audibleDecks⟩
  exact (hnodup.subperm hsub).length_le

theorem Rig.oldestAudible_eq (r : Rig) : r.oldestAudible = r.audibleDecks.foldl
    (pickBest fun d b => serialGreater (r.deck b).audibleOrder (r.deck d).audibleOrder) none := by
  unfold Rig.oldestAudible Rig.audibleDecks
  congr 1
  funext best d
  cases best <;> rfl

/-- With a deck on air there is an oldest one. -/
theorem Rig.oldestAudible_mem {r : Rig} (h : r.onAir ≠ 0) : ∃ o ∈ r.audibleDecks, r.oldestAudible = some o := by
  rw [Rig.oldestAudible_eq]
  refine foldl_pickBest_mem _ fun hnil => h ?_
  unfold Rig.onAir
  rw [hnil]
  rfl

/-! ### The running order's law -/

/-- Entries that leave the list take nothing from the law. -/
theorem Order.law.sublist {o o' : Order} (h : o.law) (hs : o'.entries.Sublist o.entries) : o'.law := by
  obtain ⟨hlen, htags, hform, hassigned⟩ := h
  exact ⟨Nat.le_trans hs.length_le hlen, htags.sublist (hs.map _), fun x hx => hform x (hs.subset hx),
    Nat.le_trans (hs.filter _).length_le hassigned⟩

/-- What the law says of one entry by itself (R75, R76). -/
def Entry.inForm (x : Entry) : Prop :=
  1 ≤ x.tag ∧ x.tag ≤ 65535 ∧ (x.startTime.isSome = true ↔ x.mode = .timed) ∧
    (x.deck.isSome = true ↔ x.state ≠ .waiting)

/-- Entries changed one by one, each in form and under its tag, with at most two ASSIGNED. -/
theorem Order.law.map {o o' : Order} (h : o.law) {f : Entry → Entry} (he : o'.entries = o.entries.map f)
    (htag : ∀ x ∈ o.entries, (f x).tag = x.tag) (hform : ∀ x ∈ o.entries, (f x).inForm)
    (hcount : (o'.entries.filter fun e => e.state == .assigned).length ≤ 2) : o'.law := by
  obtain ⟨hlen, htags, -, -⟩ := h
  refine ⟨by rwa [he, List.length_map], ?_, fun x hx => ?_, hcount⟩
  · rwa [he, List.map_map, List.map_congr_left (f := Entry.tag ∘ f) (g := Entry.tag) htag]
  · rw [he] at hx
    obtain ⟨y, hy, rfl⟩ := List.mem_map.mp hx
    exact hform y hy

/-- The same where no entry becomes ASSIGNED. -/
theorem Order.law.map_of_assigned {o o' : Order} (h : o.law) {f : Entry → Entry} (he : o'.entries = o.entries.map f)
    (htag : ∀ x ∈ o.entries, (f x).tag = x.tag) (hform : ∀ x ∈ o.entries, x.inForm → (f x).inForm)
    (hassigned : ∀ x ∈ o.entries, (f x).state = .assigned → x.state = .assigned) : o'.law := by
  refine h.map he htag (fun x hx => hform x hx (h.2.2.1 x hx)) ?_
  rw [he, ← List.countP_eq_length_filter, List.countP_map]
  refine Nat.le_trans (List.countP_mono_left fun x hx hx' => ?_) (List.countP_eq_length_filter ▸ h.2.2.2)
  exact beq_iff_eq.mpr (hassigned x hx (beq_iff_eq.mp hx'))

/-- Flags and numbers alone are set. -/
theorem Order.law.map_flags {o o' : Order} (h : o.law) {f : Entry → Entry} (he : o'.entries = o.entries.map f)
    (hf : ∀ x ∈ o.entries, (f x).tag = x.tag ∧ (f x).startTime = x.startTime ∧ (f x).mode = x.mode ∧
      (f x).deck = x.deck ∧ (f x).state = x.state) : o'.law := by
  refine h.map_of_assigned he (fun x hx => (hf x hx).1) (fun x hx hform => ?_) fun x hx => ?_
  · obtain ⟨htag, hstart, hmode, hdeck, hstate⟩ := hf x hx
    unfold Entry.inForm
    rwa [htag, hstart, hmode, hdeck, hstate]
  · rw [(hf x hx).2.2.2.2]
    exact id

/-- With no tag twice, a change under one tag adds at most one entry to those that a test counts. -/
theorem length_filter_update_le (es : List Entry) (tag : Nat) (f : Entry → Entry) (p : Entry → Bool)
    (htags : (es.map Entry.tag).Nodup) :
    ((es.map fun e => if e.tag == tag then f e else e).filter p).length ≤ (es.filter p).length + 1 := by
  induction es with
  | nil => exact Nat.zero_le _
  | cons x es ih =>
    obtain ⟨hx, htags⟩ := List.nodup_cons.mp htags
    rw [List.map_cons]
    by_cases hxt : x.tag = tag
    · have hrest : es.map (fun e => if e.tag == tag then f e else e) = es := by
        refine (List.map_congr_left fun e he => ?_).trans (List.map_id es)
        refine if_neg fun h => hx ?_
        rw [hxt, ← beq_iff_eq.mp h]
        exact List.mem_map_of_mem he
      rw [hrest, if_pos (beq_iff_eq.mpr hxt)]
      calc ((f x :: es).filter p).length ≤ (es.filter p).length + 1 := by
            rw [List.filter_cons]
            split
            · exact Nat.le_refl _
            · exact Nat.le_succ _
        _ ≤ ((x :: es).filter p).length + 1 :=
            Nat.succ_le_succ ((List.sublist_cons_self x es).filter p).length_le
    · have ih := ih htags
      rw [if_neg (by simpa using hxt), List.filter_cons, List.filter_cons]
      split
      · rw [List.length_cons, List.length_cons]
        omega
      · exact ih

theorem Rig.mem_entries_tag {r : Rig} (h : r.order.law) {e x : Entry} (he : e ∈ r.order.entries)
    (hx : x ∈ r.order.entries) (ht : (x.tag == e.tag) = true) : x = e :=
  Entry.eq_of_tag h hx he (beq_iff_eq.mp ht)

/-! ### The two laws kept -/

/-- The rig after operations that leave at most two program decks on air and the running order in form. -/
structure Rig.KeepsOnAir (r r' : Rig) : Prop where
  two : r.onAir ≤ 2 → r'.onAir ≤ 2
  order : r.order.law → r'.order.law

theorem Rig.KeepsOnAir.refl (r : Rig) : r.KeepsOnAir r := ⟨id, id⟩

theorem Rig.KeepsOnAir.trans {r₁ r₂ r₃ : Rig} (h : r₁.KeepsOnAir r₂) (k : r₂.KeepsOnAir r₃) : r₁.KeepsOnAir r₃ :=
  ⟨fun ht => k.two (h.two ht), fun hl => k.order (h.order hl)⟩

/-- Where no program deck is audible that was not. -/
theorem Rig.keepsOnAir_of {r r' : Rig}
    (hd : ∀ d, isProgramDeck d = true → (r'.deck d).audible = true → (r.deck d).audible = true)
    (ho : r.order.law → r'.order.law) : r.KeepsOnAir r' :=
  ⟨fun ht => Nat.le_trans (Rig.onAir_le_of (l := []) fun d hp ha => .inr (hd d hp ha)) (by simpa using ht), ho⟩

/-- Where no deck changes and no entry but those that leave the list. -/
theorem Rig.keepsOnAir_of_sublist {r r' : Rig} (hd : r'.decks.decks = r.decks.decks)
    (ho : r'.order.entries.Sublist r.order.entries) : r.KeepsOnAir r' := by
  refine Rig.keepsOnAir_of (fun d _ ha => ?_) fun hl => hl.sublist ho
  unfold Rig.deck at ha ⊢
  rwa [hd] at ha

theorem Rig.SparesProgram.keepsOnAir {r r' : Rig} (h : r.SparesProgram r') : r.KeepsOnAir r' :=
  Rig.keepsOnAir_of (fun d hp ha => h.deck d hp ▸ ha) fun hl => h.order.symm ▸ hl

theorem Rig.report_keepsOnAir (r : Rig) (m : Report) : r.KeepsOnAir (r.report m) :=
  (r.report_sparesProgram m).keepsOnAir

/-- A deck set that is not audible unless it was. -/
theorem Rig.setDeck_keepsOnAir (r : Rig) {d : DeckId} {x : Deck} (h : x.audible = true → (r.deck d).audible = true) :
    r.KeepsOnAir (r.setDeck d x) := by
  refine Rig.keepsOnAir_of (fun e _ ha => ?_) id
  rw [Rig.deck_setDeck] at ha
  split at ha
  · subst_vars
    exact h ha
  · exact ha

theorem Rig.setEntries_keepsOnAir (r : Rig) {es : List Entry} (h : es.Sublist r.order.entries) :
    r.KeepsOnAir (r.setEntries es) := Rig.keepsOnAir_of_sublist rfl h

theorem Rig.setHold_keepsOnAir (r : Rig) (hold : Bool) : r.KeepsOnAir (r.setHold hold) :=
  Rig.keepsOnAir_of_sublist rfl (List.Sublist.refl _)

theorem Rig.unloadDeck_keepsOnAir (r : Rig) (d : DeckId) : r.KeepsOnAir (r.unloadDeck d) :=
  r.setDeck_keepsOnAir nofun

theorem Rig.updateFlags_keepsOnAir (r : Rig) (tag : Nat) {f : Entry → Entry}
    (hf : ∀ x, (f x).tag = x.tag ∧ (f x).startTime = x.startTime ∧ (f x).mode = x.mode ∧ (f x).deck = x.deck ∧
      (f x).state = x.state) : r.KeepsOnAir (r.updateEntry tag f) := by
  refine Rig.keepsOnAir_of (fun _ _ ha => ha) fun hl => hl.map_flags rfl fun x _ => ?_
  split
  · exact hf x
  · exact ⟨rfl, rfl, rfl, rfl, rfl⟩

/-! ### Decks that end -/

theorem Rig.finishDeck_keepsOnAir (r : Rig) (d : DeckId) (c : EndCause) : r.KeepsOnAir (r.finishDeck d c) :=
  (r.setDeck_keepsOnAir (x := { r.deck d with state := .done, endCause := some c }) nofun).trans
    (Rig.report_keepsOnAir _ _)

theorem withoutTag_sublist (es : List Entry) (tag : Nat) : (withoutTag es tag).Sublist es := List.filter_sublist

theorem Rig.releaseDeck_keepsOnAir (r : Rig) (d : DeckId) : r.KeepsOnAir (r.releaseDeck d) := by
  have gone := (r.setEntries_keepsOnAir (withoutTag_sublist _ (r.deck d).entryTag)).trans
    (Rig.unloadDeck_keepsOnAir _ d)
  unfold Rig.releaseDeck
  dsimp only
  split <;> exact gone.trans (Rig.report_keepsOnAir _ _)

theorem Rig.endDeck_keepsOnAir (r : Rig) (d : DeckId) (c : EndCause) : r.KeepsOnAir (r.endDeck d c) := by
  unfold Rig.endDeck
  split
  · exact (r.finishDeck_keepsOnAir d c).trans (Rig.releaseDeck_keepsOnAir _ d)
  · exact r.finishDeck_keepsOnAir d c

theorem Rig.cutDeck_keepsOnAir (r : Rig) (d : DeckId) : r.KeepsOnAir (r.cutDeck d) := by
  unfold Rig.cutDeck
  split
  · exact ((r.setEntries_keepsOnAir (withoutTag_sublist _ _)).trans (Rig.unloadDeck_keepsOnAir _ d)).trans
      (Rig.report_keepsOnAir _ _)
  · exact r.endDeck_keepsOnAir d .cut

theorem Rig.removeWaitingFor_keepsOnAir (r : Rig) (c : CartId) : r.KeepsOnAir (r.removeWaitingFor c) :=
  (r.setEntries_keepsOnAir List.filter_sublist).trans (Rig.reports_sparesProgram _ _).keepsOnAir

/-- A program deck that ends is EMPTY, and no other deck changes. -/
theorem Rig.endDeck_deck (r : Rig) {d : DeckId} (hd : isProgramDeck d = true) (c : EndCause) (e : DeckId) :
    (r.endDeck d c).deck e = if d = e then (r.deck d).emptied else r.deck e := by
  have released (x : Rig) : (x.releaseDeck d).deck e = if d = e then (x.deck d).emptied else x.deck e := by
    unfold Rig.releaseDeck
    dsimp only
    split <;> exact Rig.deck_setDeck (x.setEntries _) d e _
  unfold Rig.endDeck
  rw [if_pos hd, released]
  have finished (b : DeckId) : (r.finishDeck d c).deck b =
      if d = b then { r.deck d with state := .done, endCause := some c } else r.deck b := Rig.deck_setDeck r d b _
  split
  · rw [finished, if_pos rfl]
    rfl
  · rw [finished, if_neg ‹_›]

/-! ### Decks that become audible (R67) -/

/-- The audible rule leaves at most one program deck on air. -/
theorem Rig.audibleRule_onAir {r : Rig} (h : r.onAir ≤ 2) : r.audibleRule.onAir ≤ 1 := by
  unfold Rig.audibleRule
  split
  · exact Nat.le_of_lt_succ ‹_›
  · rename_i htwo
    obtain ⟨o, hmem, ho⟩ := Rig.oldestAudible_mem (r := r) fun h0 => htwo (show r.onAir < 2 by omega)
    have hprogram := ((r.mem_audibleDecks o).mp hmem).1
    rw [ho]
    have hlt : (r.endDeck o .cut).onAir < r.onAir := by
      refine Rig.onAir_lt_of hmem ?_ fun d hp ha => ?_
      · rw [Rig.endDeck_deck r hprogram, if_pos rfl]
        rfl
      · rw [Rig.endDeck_deck r hprogram] at ha
        split at ha
        · cases ha
        · exact ha
    exact Nat.le_of_lt_succ (Nat.lt_of_lt_of_le hlt h)

theorem Rig.audibleRule_keepsOnAir (r : Rig) : r.KeepsOnAir r.audibleRule := by
  unfold Rig.audibleRule
  split
  · exact .refl r
  · split
    · exact r.endDeck_keepsOnAir _ .cut
    · exact .refl r

/-- A deck made audible is one more. -/
theorem Rig.makeAudible_onAir (r : Rig) (d : DeckId) (f : Deck → Nat → Deck) :
    (r.makeAudible d f).onAir ≤ 1 + r.onAir := by
  refine Rig.onAir_le_of (l := [d]) fun e _ ha => ?_
  have hdeck : (r.makeAudible d f).deck e =
      if d = e then f (r.deck d) (nextSerial r.decks.lastAudible) else r.deck e := Rig.deck_setDeck r d e _
  rw [hdeck] at ha
  split at ha
  · exact .inl (List.mem_singleton.mpr (Eq.symm ‹_›))
  · exact .inr ha

theorem Rig.ruledAudible_keepsOnAir (r : Rig) (d : DeckId) (f : Deck → Nat → Deck) :
    r.KeepsOnAir (r.audibleRule.makeAudible d f) :=
  ⟨fun ht => Nat.le_trans (Rig.makeAudible_onAir _ d f) (Nat.add_le_add_left (Rig.audibleRule_onAir ht) 1),
    r.audibleRule_keepsOnAir.order⟩

theorem Rig.startDeck_keepsOnAir (r : Rig) (d : DeckId) : r.KeepsOnAir (r.startDeck d) := by
  by_cases hd : isProgramDeck d = true
  · unfold Rig.startDeck
    rw [if_pos hd]
    exact r.ruledAudible_keepsOnAir d _
  · exact (r.startDeck_sparesProgram hd).keepsOnAir

theorem Rig.resumeDeck_keepsOnAir (r : Rig) (d : DeckId) : r.KeepsOnAir (r.resumeDeck d) :=
  r.ruledAudible_keepsOnAir d _

theorem Rig.fadeDeck_keepsOnAir (r : Rig) (d : DeckId) (frames : Nat) : r.KeepsOnAir (r.fadeDeck d frames) := by
  unfold Rig.fadeDeck
  dsimp only
  split
  · exact .refl r
  · rename_i hplays
    split
    · exact r.endDeck_keepsOnAir d .played
    · refine r.setDeck_keepsOnAir fun _ => ?_
      have hplays : (r.deck d).state = .playing := by simpa using hplays
      simp [Deck.audible, hplays]

/-- A start: the entry of the tag becomes AIRING on the deck that it holds. -/
theorem Rig.startEntry_keepsOnAir {r : Rig} {e : Entry} (he : e ∈ r.order.entries) (cause : StartCause) :
    r.KeepsOnAir (r.startEntry e cause) := by
  unfold Rig.startEntry
  split
  · exact .refl r
  · rename_i d hdeck
    have started := r.startDeck_keepsOnAir d
    refine ⟨started.two, fun hl => (started.order hl).map_of_assigned rfl (fun x _ => ?_) (fun x hx hform => ?_)
      fun x _ hx => ?_⟩
    · dsimp only
      split <;> rfl
    · dsimp only
      split
      · obtain ⟨hlow, hhigh, hstart, -⟩ := hform
        obtain rfl := Rig.mem_entries_tag hl he (r.startDeck_entries d hx) ‹_›
        exact ⟨hlow, hhigh, hstart, iff_of_true (hdeck ▸ rfl) nofun⟩
      · exact hform
    · dsimp only at hx
      split at hx
      · cases hx
      · exact hx

/-! ### Assignment and displacement (R77, R78) -/

theorem Rig.loadDeck_keepsOnAir (r : Rig) (d : DeckId) (q : LoadRequest) : r.KeepsOnAir (r.loadDeck d q) := by
  unfold Rig.loadDeck
  split <;> exact r.setDeck_keepsOnAir nofun

theorem Rig.assignOne_keepsOnAir {r r' : Rig} (h : r.assignOne = some r') : r.KeepsOnAir r' := by
  unfold Rig.assignOne at h
  split at h
  · cases h
  · rename_i hfew
    split at h
    · split at h
      · cases h
        refine Rig.KeepsOnAir.trans ?_ (Rig.loadDeck_keepsOnAir _ _ _)
        refine Rig.keepsOnAir_of (fun _ _ ha => ha) fun hl => hl.map rfl (fun x _ => ?_) (fun x hx => ?_) ?_
        · dsimp only
          split <;> rfl
        · obtain ⟨hlow, hhigh, hstart, hdeck⟩ := hl.2.2.1 x hx
          dsimp only
          split
          · exact ⟨hlow, hhigh, hstart, iff_of_true rfl nofun⟩
          · exact ⟨hlow, hhigh, hstart, hdeck⟩
        · exact Nat.le_trans (length_filter_update_le _ _ _ _ hl.2.1) (by omega)
      · cases h
    · cases h

theorem Rig.displace_keepsOnAir {r : Rig} {e : Entry} (he : e ∈ r.order.entries) (hassigned : e.state = .assigned) :
    r.KeepsOnAir (r.displace e) := by
  unfold Rig.displace
  split
  · rename_i hdeck
    refine Rig.keepsOnAir_of (fun _ _ ha => ha) fun hl => ?_
    obtain ⟨-, -, -, hform⟩ := hl.2.2.1 e he
    rw [hdeck, hassigned] at hform
    exact absurd (hform.mpr nofun) nofun
  · rename_i d _
    refine Rig.KeepsOnAir.trans ?_ (Rig.report_keepsOnAir _ _)
    refine (r.unloadDeck_keepsOnAir d).trans (Rig.keepsOnAir_of (fun _ _ ha => ha) fun hl =>
      hl.map_of_assigned rfl (fun x _ => ?_) (fun x _ hform => ?_) fun x _ hx => ?_)
    · dsimp only
      split <;> rfl
    · obtain ⟨hlow, hhigh, hstart, hdeck⟩ := hform
      dsimp only
      split
      · exact ⟨hlow, hhigh, hstart, iff_of_false nofun fun h => h rfl⟩
      · exact ⟨hlow, hhigh, hstart, hdeck⟩
    · dsimp only at hx
      split at hx
      · cases hx
      · exact hx

/-- The last ASSIGNED entry is one of the list. -/
theorem getLast?_assigned {es : List Entry} {e : Entry}
    (h : (es.filter fun e => e.state == .assigned).getLast? = some e) : e ∈ es ∧ e.state = .assigned := by
  obtain ⟨hmem, hstate⟩ := List.mem_filter.mp (List.mem_of_getLast? h)
  exact ⟨hmem, beq_iff_eq.mp hstate⟩

theorem Rig.arrangeFor_keepsOnAir (n : Nat) (r : Rig) : r.KeepsOnAir (r.arrangeFor n) := by
  induction n generalizing r with
  | zero => exact .refl r
  | succ n ih =>
    unfold Rig.arrangeFor
    split
    · exact (Rig.assignOne_keepsOnAir ‹_›).trans (ih _)
    · split
      · split
        · obtain ⟨hmem, hassigned⟩ := getLast?_assigned ‹_›
          exact (Rig.displace_keepsOnAir hmem hassigned).trans (ih _)
        · exact .refl r
      · exact .refl r

theorem Rig.arrange_keepsOnAir (r : Rig) : r.KeepsOnAir r.arrange := Rig.arrangeFor_keepsOnAir _ r

/-! ### The skip and the settling (R79, R83, R84) -/

theorem Rig.unloadEntries_keepsOnAir (r : Rig) (es : List Entry) : r.KeepsOnAir (r.unloadEntries es) := by
  induction es generalizing r with
  | nil => exact .refl r
  | cons e es ih =>
    unfold Rig.unloadEntries
    split
    · split
      · exact (r.unloadDeck_keepsOnAir _).trans (ih _)
      · exact ih r
    · exact ih r

theorem Rig.fadeAudible_keepsOnAir (r : Rig) (frames : Nat) (ds : List DeckId) :
    r.KeepsOnAir (r.fadeAudible frames ds) := by
  induction ds generalizing r with
  | nil => exact .refl r
  | cons d ds ih =>
    unfold Rig.fadeAudible
    refine Rig.KeepsOnAir.trans ?_ (ih _)
    split
    · exact r.fadeDeck_keepsOnAir d frames
    · exact .refl r

/-- What a skip leaves of the list: of the entries before the skip's own, those that are AIRING. -/
theorem skipped_sublist (es : List Entry) (p q : Entry → Bool) :
    ((es.takeWhile p).filter q ++ es.dropWhile p).Sublist es := by
  have h := (List.filter_sublist (p := q) (l := es.takeWhile p)).append (List.Sublist.refl (es.dropWhile p))
  rwa [List.takeWhile_append_dropWhile] at h

theorem Rig.skipTo_keepsOnAir (r : Rig) (e : Entry) : r.KeepsOnAir (r.skipTo e) := by
  refine Rig.KeepsOnAir.trans ?_ (Rig.updateFlags_keepsOnAir _ _ fun _ => ⟨rfl, rfl, rfl, rfl, rfl⟩)
  refine Rig.KeepsOnAir.trans ?_ (Rig.fadeAudible_keepsOnAir _ _ _)
  refine Rig.KeepsOnAir.trans ?_ (Rig.reports_sparesProgram _ _).keepsOnAir
  refine (r.unloadEntries_keepsOnAir _).trans (Rig.setEntries_keepsOnAir _ ?_)
  rw [Rig.unloadEntries_order]
  exact skipped_sublist _ _ _

theorem Rig.makeSkip_keepsOnAir (r : Rig) : r.KeepsOnAir r.makeSkip := by
  unfold Rig.makeSkip
  split
  · exact .refl r
  · split
    · exact r.skipTo_keepsOnAir _
    · exact .refl r

theorem Rig.startDue_keepsOnAir (n : Nat) (r : Rig) : r.KeepsOnAir (r.startDue n) := by
  induction n generalizing r with
  | zero => exact .refl r
  | succ n ih =>
    unfold Rig.startDue
    split
    · rename_i e he
      exact ((Rig.startEntry_keepsOnAir (Rig.startable_reached he).1 _).trans (Rig.arrange_keepsOnAir _)).trans (ih _)
    · exact .refl r

theorem Rig.settle_keepsOnAir (r : Rig) : r.KeepsOnAir r.settle :=
  (r.makeSkip_keepsOnAir.trans (Rig.startDue_keepsOnAir _ _)).trans (Rig.arrange_keepsOnAir _)

theorem Rig.assignThenSettle_keepsOnAir (r : Rig) : r.KeepsOnAir r.assignThenSettle :=
  r.arrange_keepsOnAir.trans (Rig.settle_keepsOnAir _)

/-! ### The events that the controller takes -/

theorem Rig.segueEvent_keepsOnAir (r : Rig) (tag : Nat) : r.KeepsOnAir (r.segueEvent tag) :=
  (r.updateFlags_keepsOnAir tag (f := fun e => { e with seguePassed := true }) fun _ => ⟨rfl, rfl, rfl, rfl, rfl⟩).trans
    (Rig.settle_keepsOnAir _)

theorem Rig.orderPrefetched_keepsOnAir (r : Rig) (d : DeckId) : r.KeepsOnAir (r.orderPrefetched d) := by
  unfold Rig.orderPrefetched
  split
  · rename_i e he
    split
    · refine Rig.KeepsOnAir.trans ?_ (Rig.assignThenSettle_keepsOnAir _)
      have hmem := (Rig.startable_reached he).1
      split
      · exact (r.report_keepsOnAir (.deckLateStart d e.tag)).trans
          (Rig.startEntry_keepsOnAir (r := r.report (.deckLateStart d e.tag)) hmem _)
      · exact Rig.startEntry_keepsOnAir hmem _
    · exact r.settle_keepsOnAir
  · exact r.settle_keepsOnAir

theorem Rig.orderSeconds_keepsOnAir (r : Rig) (now : Nat) : r.KeepsOnAir (r.orderSeconds now) := by
  have reached : r.KeepsOnAir (r.setEntries (r.order.entries.map (·.reached now))) := by
    refine Rig.keepsOnAir_of (fun _ _ ha => ha) fun hl => hl.map_flags rfl fun x _ => ?_
    rw [Entry.reached_eq]
    split <;> exact ⟨rfl, rfl, rfl, rfl, rfl⟩
  exact reached.trans (Rig.settle_keepsOnAir _)

theorem Rig.alertPause_keepsOnAir (r : Rig) : r.KeepsOnAir r.alertPause := by
  refine foldl_related Rig.KeepsOnAir.refl Rig.KeepsOnAir.trans (fun r d => ?_) programDecks r
  split
  · exact r.setDeck_keepsOnAir nofun
  · exact .refl r

theorem Rig.alertResume_keepsOnAir (r : Rig) : r.KeepsOnAir r.alertResume := by
  refine Rig.KeepsOnAir.trans ?_ (Rig.settle_keepsOnAir _)
  refine foldl_related Rig.KeepsOnAir.refl Rig.KeepsOnAir.trans (fun r d => ?_) _ r
  split
  · exact r.resumeDeck_keepsOnAir d
  · exact .refl r

/-! ### A deck's frame and its prefetch (R59, R60) -/

theorem Rig.sendSegue_keepsOnAir (r : Rig) (d : DeckId) : r.KeepsOnAir (r.sendSegue d) := by
  unfold Rig.sendSegue
  split
  · exact (r.setDeck_keepsOnAir (x := { r.deck d with segueSent := true }) id).trans
      (Rig.segueEvent_keepsOnAir _ _)
  · exact .refl r

theorem Rig.prefetched_keepsOnAir (r : Rig) (d : DeckId) : r.KeepsOnAir (r.prefetched d) := by
  have cued := (r.setDeck_keepsOnAir (d := d)
    (x := { r.deck d with state := .cued, position := (r.deck d).cueIn }) nofun).trans
    (Rig.report_keepsOnAir _ (.deckLoaded d (r.deck d).source))
  unfold Rig.prefetched
  dsimp only
  split
  · exact cued.trans (Rig.orderPrefetched_keepsOnAir _ d)
  · split
    · exact cued.trans (Rig.startDeck_keepsOnAir _ deckA)
    · refine cued.trans ?_
      unfold Rig.fallbackPrefetched
      split
      · exact Rig.startDeck_keepsOnAir _ deckF
      · exact .refl _

theorem Rig.loadFrame_keepsOnAir (r : Rig) (d : DeckId) : r.KeepsOnAir (r.loadFrame d) := by
  have aged := r.setDeck_keepsOnAir (d := d) (x := { r.deck d with loadAge := (r.deck d).loadAge + 1 }) id
  unfold Rig.loadFrame
  dsimp only
  split
  · exact aged.trans (Rig.prefetched_keepsOnAir _ d)
  · exact aged

end Sys2Proof.Machine
end

section
/-!
SUPPORT and the statement O58: at most two program decks on air and the running order in form, through the alerts, the
requests and every step.
-/

namespace Sys2Proof.Machine

/-- The decks and the running order as they stood. -/
theorem Rig.keepsOnAir_of_rest {r r' : Rig} (hd : r'.decks.decks = r.decks.decks) (ho : r'.order = r.order) :
    r.KeepsOnAir r' := (Rig.sparesProgram_of hd ho).keepsOnAir

/-! ### Alerts that take the air and give it back -/

theorem Rig.setDecksPaused_sparesProgram (r : Rig) (b : Bool) :
    r.SparesProgram { r with alerts := { r.alerts with decksPaused := b } } := Rig.sparesProgram_of rfl rfl

theorem Rig.runStart_keepsOnAir (r : Rig) : r.KeepsOnAir r.runStart := by
  have held := (r.switchRunStart_sparesProgram.trans (Rig.delayHold_sparesProgram _)).keepsOnAir
  unfold Rig.runStart
  dsimp only
  split
  · exact (held.trans (Rig.alertPause_keepsOnAir _)).trans (Rig.setDecksPaused_sparesProgram _ _).keepsOnAir
  · exact held

theorem Rig.runEnd_keepsOnAir (r : Rig) : r.KeepsOnAir r.runEnd := by
  have released := (r.switchRunEnd_sparesProgram.trans (Rig.delayRelease_sparesProgram _)).keepsOnAir
  unfold Rig.runEnd
  dsimp only
  split
  · exact (released.trans (Rig.setDecksPaused_sparesProgram _ _).keepsOnAir).trans (Rig.alertResume_keepsOnAir _)
  · exact released

theorem Rig.airRecord_keepsOnAir (r : Rig) (i : RecordId) (startOfRun : Bool) :
    r.KeepsOnAir (r.airRecord i startOfRun) := by
  have playing := (r.playing_sparesProgram i).keepsOnAir
  cases startOfRun with
  | true => exact r.airRecord_true i ▸ playing.trans (Rig.runStart_keepsOnAir _)
  | false => exact r.airRecord_false i ▸ playing

theorem Rig.airIfIdle_keepsOnAir (r : Rig) : r.KeepsOnAir r.airIfIdle := by
  unfold Rig.airIfIdle
  split
  · exact r.airRecord_keepsOnAir _ true
  · exact .refl r

theorem Rig.leaveAiring_keepsOnAir (r : Rig) (i : RecordId) (st : AlertState) (m : Report) :
    r.KeepsOnAir (r.leaveAiring i st m) := by
  have left := ((r.leftAiring_sparesProgram i st).trans (Rig.report_sparesProgram _ m)).keepsOnAir
  rw [Rig.leaveAiring_eq]
  refine left.trans ?_
  unfold Rig.airNext
  split
  · exact Rig.airRecord_keepsOnAir _ _ false
  · exact Rig.runEnd_keepsOnAir _

theorem Rig.stopAiring_keepsOnAir (r : Rig) (i : RecordId) (st : AlertState) (m : Report) :
    r.KeepsOnAir (r.stopAiring i st m) :=
  (r.emptyDeck_sparesProgram not_program_deckA).keepsOnAir.trans (Rig.leaveAiring_keepsOnAir _ i st m)

theorem Rig.partEnded_keepsOnAir (r : Rig) : r.KeepsOnAir r.partEnded := by
  unfold Rig.partEnded
  split
  · exact .refl r
  · rename_i i _
    have unloaded : r.SparesProgram (r.unloadDeck deckA) := r.unloadDeck_sparesProgram not_program_deckA
    dsimp only
    split
    · exact (unloaded.trans (Rig.loadPart_sparesProgram _ i .slot)).keepsOnAir
    · have tried := (unloaded.trans (Rig.loadPart_sparesProgram _ i .leadOut)).keepsOnAir
      split
      · exact tried
      · exact tried.trans (Rig.leaveAiring_keepsOnAir _ _ _ _)
    · exact unloaded.keepsOnAir.trans (Rig.leaveAiring_keepsOnAir _ _ _ _)

theorem Rig.alertRecordingEnds_keepsOnAir (r : Rig) (i : RecordId) (truncated : Bool) (now : Nat) :
    r.KeepsOnAir (r.alertRecordingEnds i truncated now) :=
  (r.closeAlertRecording_sparesProgram i truncated now).keepsOnAir.trans (Rig.airIfIdle_keepsOnAir _)

theorem Rig.recorderEnds_keepsOnAir (r : Rig) (k : RecorderId) (now : Nat) : r.KeepsOnAir (r.recorderEnds k now) := by
  unfold Rig.recorderEnds
  dsimp only
  split
  · exact .refl r
  · split
    · exact Rig.keepsOnAir_of_rest rfl rfl
    · exact .refl r
  · split
    · exact r.alertRecordingEnds_keepsOnAir _ _ _
    · split
      · exact r.alertRecordingEnds_keepsOnAir _ _ _
      · exact .refl r

theorem Rig.cancelAlert_keepsOnAir (r : Rig) (i : RecordId) : r.KeepsOnAir (r.cancelAlert i) := by
  unfold Rig.cancelAlert
  dsimp only
  split
  · exact r.stopAiring_keepsOnAir i _ _
  · exact (r.freeAlertRecorder_sparesProgram i).keepsOnAir.trans (Rig.keepsOnAir_of_rest rfl rfl)
  · exact Rig.keepsOnAir_of_rest rfl rfl

theorem Rig.confirmAlert_keepsOnAir (r : Rig) (i : RecordId) : r.KeepsOnAir (r.confirmAlert i) := by
  unfold Rig.confirmAlert
  split
  · exact Rig.keepsOnAir_of_rest rfl rfl
  · refine Rig.KeepsOnAir.trans ?_ (Rig.airIfIdle_keepsOnAir _)
    exact Rig.keepsOnAir_of_rest rfl rfl

theorem Rig.declineAlert_sparesProgram (r : Rig) (i : RecordId) : r.SparesProgram (r.declineAlert i) := by
  have freed : r.SparesProgram (if (r.record i).state = .recording then r.freeAlertRecorder i else r) := by
    split
    · exact r.freeAlertRecorder_sparesProgram i
    · exact .refl r
  exact freed.trans (Rig.sparesProgram_of rfl rfl)

/-! ### Time -/

theorem Rig.newSeconds_keepsOnAir (r : Rig) (now : Nat) : r.KeepsOnAir (r.newSeconds now) := by
  have compared : (r.orderSeconds now).SparesProgram
      (allRecords.foldl (fun r i => r.testDeadlines now i) (r.orderSeconds now)) :=
    foldl_related Rig.SparesProgram.refl Rig.SparesProgram.trans (fun r i => r.testDeadlines_sparesProgram now i) _ _
  exact ((r.orderSeconds_keepsOnAir now).trans compared.keepsOnAir).trans (Rig.airIfIdle_keepsOnAir _)

theorem Rig.moveDeadlines_sparesProgram (r : Rig) (f : Nat → Nat) : r.SparesProgram (r.moveDeadlines f) :=
  Rig.sparesProgram_of rfl rfl

theorem Rig.secondAdvance_keepsOnAir (r : Rig) (old new : Nat) : r.KeepsOnAir (r.secondAdvance old new) := by
  refine Rig.KeepsOnAir.trans ?_ (Rig.newSeconds_keepsOnAir _ new)
  split
  · exact (r.moveDeadlines_sparesProgram _).keepsOnAir
  · exact .refl r

theorem Rig.timeSet_keepsOnAir (r : Rig) (valid : Bool) (old new : Nat) :
    r.KeepsOnAir ((if valid then r else r.moveDeadlines (stepDeadline old new)).newSeconds new) := by
  refine Rig.KeepsOnAir.trans ?_ (Rig.newSeconds_keepsOnAir _ new)
  split
  · exact .refl r
  · exact (r.moveDeadlines_sparesProgram _).keepsOnAir

/-! ### A deck's frame event -/

theorem Rig.afterDone_keepsOnAir (r : Rig) (d : DeckId) : r.KeepsOnAir (r.afterDone d) := by
  unfold Rig.afterDone
  split
  · exact (r.releaseDeck_keepsOnAir d).trans (Rig.settle_keepsOnAir _)
  · split
    · exact r.partEnded_keepsOnAir
    · exact .refl r

theorem Rig.closeDeckFrame_keepsOnAir (r : Rig) (d : DeckId) (done : Bool) :
    r.KeepsOnAir (r.closeDeckFrame d done) := by
  unfold Rig.closeDeckFrame
  split
  · exact ((r.finishDeck_keepsOnAir d .played).trans (Rig.sendSegue_keepsOnAir _ d)).trans
      (Rig.afterDone_keepsOnAir _ d)
  · exact r.sendSegue_keepsOnAir d

/-! ### Entries that join the list (R86, R87) -/

/-- A new entry, WAITING and in form, with a tag that no other carries, where the list is not full. -/
theorem Order.law.insert {o o' : Order} (h : o.law) {pre post : List Entry} {e : Entry} (ho : o.entries = pre ++ post)
    (ho' : o'.entries = pre ++ e :: post) (hroom : o.entries.length < 64) (hnew : ∀ x ∈ o.entries, x.tag ≠ e.tag)
    (hform : e.inForm) (hwaiting : e.state = .waiting) : o'.law := by
  obtain ⟨-, htags, hforms, hassigned⟩ := h
  have hperm : o'.entries.Perm (e :: o.entries) := by
    rw [ho, ho']
    exact List.perm_middle
  refine ⟨hperm.length_eq ▸ hroom, ?_, fun x hx => ?_, ?_⟩
  · refine (hperm.map Entry.tag).nodup_iff.mpr (List.nodup_cons.mpr ⟨fun hmem => ?_, htags⟩)
    obtain ⟨x, hx, ht⟩ := List.mem_map.mp hmem
    exact hnew x hx ht
  · rcases List.mem_cons.mp (hperm.subset hx) with rfl | hx
    · exact hform
    · exact hforms x hx
  · rw [(hperm.filter fun e => e.state == .assigned).length_eq, List.filter_cons_of_neg (by rw [hwaiting]; nofun)]
    exact hassigned

/-- An entry as an append or an insert reads it: WAITING and in form (R76, R86). -/
theorem readEntry_inForm {f : EntryFields} {e : Entry} (h : readEntry f = .ok e) : e.inForm ∧ e.state = .waiting := by
  obtain ⟨htag, h⟩ := refuse_bind_ok h
  obtain ⟨cart, -, h⟩ := require_bind_ok h
  obtain ⟨mode, -, h⟩ := require_bind_ok h
  obtain ⟨start, -, h⟩ := require_bind_ok h
  obtain ⟨gain, -, h⟩ := require_bind_ok h
  obtain ⟨fade, -, h⟩ := require_bind_ok h
  obtain ⟨htimed, h⟩ := refuse_bind_ok h
  cases h
  simp only [Bool.or_eq_false_iff, beq_eq_false_iff_ne, decide_eq_false_iff_not] at htag
  refine ⟨⟨Nat.one_le_iff_ne_zero.mpr htag.1, Nat.not_lt.mp htag.2, ?_, iff_of_false nofun fun h => h rfl⟩, rfl⟩
  have hsame : (mode == .timed) = start.isSome := by simpa using htimed
  dsimp only
  rw [← hsame, beq_iff_eq]

theorem Entry.joining_inForm {e : Entry} (h : e.inForm ∧ e.state = .waiting) (now : Nat) :
    (e.joining now).inForm ∧ (e.joining now).state = .waiting ∧ (e.joining now).tag = e.tag := by
  unfold Entry.joining
  split <;> exact ⟨h.1, h.2, rfl⟩

theorem Rig.hasEntry_false {r : Rig} {tag : Nat} (h : r.hasEntry tag = false) : ∀ x ∈ r.order.entries, x.tag ≠ tag := by
  intro x hx ht
  rw [Rig.hasEntry, List.any_eq_false] at h
  exact h x hx (beq_iff_eq.mpr ht)

/-- What ORDER_APPEND and ORDER_INSERT find of the entry that joins. -/
def State.Joins (s : State) (e : Entry) : Prop :=
  s.rig.order.entries.length < 64 ∧ (∀ x ∈ s.rig.order.entries, x.tag ≠ e.tag) ∧ e.inForm ∧ e.state = .waiting

theorem State.joins_of {s : State} {f : EntryFields} {e : Entry} (hread : readEntry f = .ok e)
    (hnew : s.rig.hasEntry e.tag = false) (hroom : decide (64 ≤ s.rig.order.entries.length) = false) :
    s.Joins (e.joining s.clock.seconds) := by
  obtain ⟨hform, hwaiting, htag⟩ := Entry.joining_inForm (readEntry_inForm hread) s.clock.seconds
  exact ⟨Nat.not_le.mp (of_decide_eq_false hroom), fun x hx => htag ▸ Rig.hasEntry_false hnew x hx, hform, hwaiting⟩

theorem State.appendCheck_ok {s : State} {f : EntryFields} {e : Entry} (h : s.appendCheck f = .ok e) : s.Joins e := by
  obtain ⟨x, hread, h⟩ := bind_ok h
  obtain ⟨hnew, h⟩ := refuse_bind_ok h
  obtain ⟨hroom, h⟩ := refuse_bind_ok h
  obtain ⟨-, -, h⟩ := bind_ok h
  cases h
  exact State.joins_of hread hnew hroom

theorem State.insertCheck_ok {s : State} {f : EntryFields} {before : Nat} {e : Entry}
    (h : s.insertCheck f before = .ok e) : s.Joins e := by
  obtain ⟨x, hread, h⟩ := bind_ok h
  obtain ⟨-, h⟩ := refuse_bind_ok h
  obtain ⟨hnew, h⟩ := refuse_bind_ok h
  obtain ⟨hroom, h⟩ := refuse_bind_ok h
  obtain ⟨b, -, h⟩ := require_bind_ok h
  obtain ⟨-, h⟩ := refuse_bind_ok h
  obtain ⟨-, -, h⟩ := bind_ok h
  cases h
  exact State.joins_of hread hnew hroom

theorem Rig.joined_keepsOnAir {s : State} {e : Entry} (h : s.Joins e) {pre post : List Entry}
    (hs : s.rig.order.entries = pre ++ post) : s.rig.KeepsOnAir (s.rig.setEntries (pre ++ e :: post)) := by
  obtain ⟨hroom, hnew, hform, hwaiting⟩ := h
  exact Rig.keepsOnAir_of (fun _ _ ha => ha) fun hl => hl.insert hs rfl hroom hnew hform hwaiting

/-! ### Answers -/

/-- An answer of a command from `s`: where it is a next state, the two laws pass to it. -/
def OnAirKept (s : State) (a : Answer) : Prop := ∀ t, a = .next t → s.rig.KeepsOnAir t.rig

theorem onAirKept_next {s t : State} (h : s.rig.KeepsOnAir t.rig) : OnAirKept s (.next t) := by
  intro u hu
  cases hu
  exact h

theorem onAirKept_fault (s : State) (x : Fault) : OnAirKept s (.fault x) := by
  intro t ht
  cases ht

theorem onAirKept_whenDue {s : State} {b : Bool} {f : State → Answer} (h : OnAirKept s (f s)) :
    OnAirKept s (whenDue b s f) := by
  cases b with
  | true => exact h
  | false => exact onAirKept_next (.refl _)

theorem onAirKept_take {s : State} {n : Nat} {f : State → State} (h : ∀ s : State, s.rig.KeepsOnAir (f s).rig) :
    OnAirKept s (.next (s.take n f)) := by
  refine onAirKept_next ?_
  unfold State.take
  split
  · rename_i e _
    have secured : s.rig.SparesProgram { s.rig with egress := e } := Rig.sparesProgram_of rfl rfl
    refine (secured.keepsOnAir.trans (h { s with inbound := none, rig := { s.rig with egress := e } })).trans ?_
    exact Rig.keepsOnAir_of_rest rfl rfl
  · exact Rig.keepsOnAir_of_rest rfl rfl

theorem onAirKept_judged {α : Type} {s : State} {n : Nat} {tag : Tag} {k : RequestKind}
    {check : State → Except Status α} {f : State → α → State}
    (h : ∀ (s : State) a, check s = .ok a → s.rig.KeepsOnAir (f s a).rig) :
    OnAirKept s (.next (s.take n fun s => s.judged tag k (check s) (f s))) := by
  refine onAirKept_take fun s => ?_
  unfold State.judged
  split
  · exact (s.rig.reply_sparesProgram tag k _ []).keepsOnAir
  · exact h s _ ‹_›

theorem onAirKept_takeOnRig {s : State} {f : Rig → Rig} (h : ∀ r : Rig, r.KeepsOnAir (f r)) :
    OnAirKept s (.next (s.takeOnRig f)) := onAirKept_take fun s => h s.rig

theorem onAirKept_judgedOnRig {α : Type} {s : State} {tag : Tag} {k : RequestKind} {check : Rig → Except Status α}
    {f : Rig → α → Rig} (h : ∀ (r : Rig) a, check r = .ok a → r.KeepsOnAir (f r a)) :
    OnAirKept s (.next (s.takeOnRig fun r => r.judged tag k (check r) (f r))) := by
  refine onAirKept_takeOnRig fun r => ?_
  unfold Rig.judged
  split
  · exact (r.reply_sparesProgram tag k _ []).keepsOnAir
  · exact h r _ ‹_›

/-- A request of a block that has neither program decks nor the running order. -/
theorem onAirKept_judgedOnRig_spares {α : Type} {s : State} {tag : Tag} {k : RequestKind}
    {check : Rig → Except Status α} {f : Rig → α → Rig} (h : ∀ (r : Rig) a, r.SparesProgram (f r a)) :
    OnAirKept s (.next (s.takeOnRig fun r => r.judged tag k (check r) (f r))) :=
  onAirKept_judgedOnRig fun r a _ => (h r a).keepsOnAir

theorem Rig.KeepsOnAir.reply {r r' : Rig} (h : r.KeepsOnAir r') (tag : Tag) (k : RequestKind) (st : Status)
    (d : List Nat) : r.KeepsOnAir (r'.reply tag k st d) := h.trans (r'.reply_sparesProgram tag k st d).keepsOnAir

theorem Rig.KeepsOnAir.settled {r r' : Rig} (h : r.KeepsOnAir r') : r.KeepsOnAir r'.settle :=
  h.trans r'.settle_keepsOnAir

theorem Rig.KeepsOnAir.assigned {r r' : Rig} (h : r.KeepsOnAir r') : r.KeepsOnAir r'.assignThenSettle :=
  h.trans r'.assignThenSettle_keepsOnAir

end Sys2Proof.Machine
end

section
/-!
SUPPORT and the statement O58: the commands, one by one, and every step.
-/

namespace Sys2Proof.Machine

/-- The program decks and the running order as they stood. -/
def State.SparesProgram (s t : State) : Prop := s.rig.SparesProgram t.rig

theorem State.SparesProgram.refl (s : State) : s.SparesProgram s := Rig.SparesProgram.refl s.rig

theorem State.SparesProgram.trans {s₁ s₂ s₃ : State} (h : s₁.SparesProgram s₂) (k : s₂.SparesProgram s₃) :
    s₁.SparesProgram s₃ := Rig.SparesProgram.trans h k

theorem State.sparesProgram_of {s t : State} (h : t.rig = s.rig) : s.SparesProgram t :=
  Rig.sparesProgram_of (congrArg (·.decks.decks) h) (congrArg Rig.order h)

theorem State.onRig_spares {s : State} {f : Rig → Rig} (h : s.rig.SparesProgram (f s.rig)) :
    s.SparesProgram (s.onRig f) := h

theorem State.reply_spares (s : State) (tag : Tag) (k : RequestKind) (st : Status) (d : List Nat) :
    s.SparesProgram (s.reply tag k st d) := s.rig.reply_sparesProgram tag k st d

theorem State.report_spares (s : State) (m : Report) : s.SparesProgram (s.report m) := s.rig.report_sparesProgram m

theorem State.command_spares (s : State) (m : Outbound) : s.SparesProgram (s.onRig (·.command m)) :=
  State.onRig_spares (Rig.sparesProgram_of rfl rfl)

theorem State.requestCommand_spares (s : State) (m : Outbound) : s.SparesProgram (s.onRig (·.requestCommand m)) :=
  State.onRig_spares (Rig.sparesProgram_of rfl rfl)

/-! ### Caller lines -/

theorem State.setLine_spares (s : State) (k : LineId) (l : Line) : s.SparesProgram (s.setLine k l) :=
  State.sparesProgram_of rfl

theorem State.setQueue_spares (s : State) (q : List LineId) : s.SparesProgram (s.setQueue q) :=
  State.sparesProgram_of rfl

theorem State.setNotices_spares (s : State) (ns : List LineNotice) : s.SparesProgram (s.setNotices ns) :=
  State.onRig_spares (Rig.sparesProgram_of rfl rfl)

theorem State.tellMonitors_spares (s : State) (k : LineId) : s.SparesProgram (s.tellMonitors k) :=
  State.onRig_spares (Rig.sparesProgram_of rfl rfl)

theorem State.remute_spares (s : State) : s.SparesProgram s.remute := by
  refine foldl_related State.SparesProgram.refl State.SparesProgram.trans (fun s k => ?_) allLines s
  unfold State.remuteLine
  dsimp only
  split
  · exact .refl s
  · exact (s.setLine_spares k _).trans (State.report_spares _ _)

theorem State.endCall_spares (s : State) (k : LineId) : s.SparesProgram (s.endCall k) := by
  have idle := (s.setLine_spares k (s.line k).idled).trans
    (State.setQueue_spares _ (s.callers.queue.filter (· != k)))
  unfold State.endCall
  dsimp only
  split
  · exact idle.trans (State.tellMonitors_spares _ k)
  · exact idle

theorem State.remuteAfter_spares (s : State) (left : LineState) : s.SparesProgram (s.remuteAfter left) := by
  unfold State.remuteAfter
  split
  · exact s.remute_spares
  · exact .refl s

theorem State.countAnswerTimers_spares (s : State) : s.SparesProgram s.countAnswerTimers := by
  refine foldl_related State.SparesProgram.refl State.SparesProgram.trans (fun s k => ?_) allLines s
  unfold State.countAnswerTimer
  dsimp only
  split
  · exact .refl s
  · split
    · exact ((s.endCall_spares k).trans (State.command_spares _ _)).trans (State.report_spares _ _)
    · exact s.setLine_spares k _

theorem State.restartCallers_spares (s : State) : s.SparesProgram s.restartCallers := by
  refine State.SparesProgram.trans ?_ (State.setQueue_spares _ [])
  refine foldl_related State.SparesProgram.refl State.SparesProgram.trans (fun s k => ?_) allLines s
  unfold State.restartLine
  dsimp only
  split
  · exact .refl s
  · exact (s.setLine_spares k _).trans (State.command_spares _ _)

/-- The program decks and the running order are as they stood. -/
theorem onAirKept_spares {s t : State} (h : s.SparesProgram t) : OnAirKept s (.next t) :=
  onAirKept_next (Rig.SparesProgram.keepsOnAir h)

/-- A request of a block that has neither program decks nor the running order. -/
theorem onAirKept_judged_spares {α : Type} {s : State} {n : Nat} {tag : Tag} {k : RequestKind}
    {check : State → Except Status α} {f : State → α → State} (h : ∀ (s : State) a, s.SparesProgram (f s a)) :
    OnAirKept s (.next (s.take n fun s => s.judged tag k (check s) (f s))) :=
  onAirKept_judged fun s a _ => Rig.SparesProgram.keepsOnAir (h s a)

theorem execLineQuietFault_onAirKept (k : LineId) (s : State) : OnAirKept s (execLineQuietFault k s) := by
  refine onAirKept_whenDue (onAirKept_spares ?_)
  have taken := s.setNotices_spares (takeNotice (.quietFault k) s.rig.monitors.lineNotices)
  split
  · exact taken
  · exact (((taken.trans (State.endCall_spares _ k)).trans (State.command_spares _ _)).trans
      (State.report_spares _ _)).trans (State.remute_spares _)

theorem execLineOverloadChange_onAirKept (s : State) : OnAirKept s (execLineOverloadChange s) := by
  unfold execLineOverloadChange
  split
  · exact onAirKept_spares (.refl s)
  · exact onAirKept_spares ((s.setNotices_spares _).trans (State.remute_spares _))

theorem execCallAnswer_onAirKept (tag : Tag) (line : Nat) (s : State) : OnAirKept s (execCallAnswer tag line s) :=
  onAirKept_judged_spares fun s k => ((s.setLine_spares k _).trans (State.requestCommand_spares _ _)).trans
    (State.reply_spares _ _ _ _ _)

theorem execCallReady_onAirKept (tag : Tag) (line : Nat) (s : State) : OnAirKept s (execCallReady tag line s) :=
  onAirKept_judged_spares fun s k => ((s.setLine_spares k _).trans (State.setQueue_spares _ _)).trans
    (State.reply_spares _ _ _ _ _)

theorem execCallTake_onAirKept (tag : Tag) (line : Nat) (s : State) : OnAirKept s (execCallTake tag line s) :=
  onAirKept_judged_spares fun s k => ((((s.setLine_spares k _).trans (State.setQueue_spares _ _)).trans
    (State.tellMonitors_spares _ k)).trans (State.remute_spares _)).trans (State.reply_spares _ _ _ _ _)

theorem execCallPark_onAirKept (tag : Tag) (line : Nat) (s : State) : OnAirKept s (execCallPark tag line s) :=
  onAirKept_judged_spares fun s k => ((((s.setLine_spares k _).trans (State.setQueue_spares _ _)).trans
    (State.tellMonitors_spares _ k)).trans (State.remute_spares _)).trans (State.reply_spares _ _ _ _ _)

theorem execCallDrop_onAirKept (tag : Tag) (line : Nat) (s : State) : OnAirKept s (execCallDrop tag line s) :=
  onAirKept_judged_spares fun s k => (((s.endCall_spares k).trans (State.requestCommand_spares _ _)).trans
    (State.reply_spares _ _ _ _ _)).trans (State.remuteAfter_spares _ _)

theorem execCallSetup_onAirKept (tag : Tag) (limit holdGain : Option Nat) (items : List LineFields) (s : State) :
    OnAirKept s (execCallSetup tag limit holdGain items s) := by
  refine onAirKept_judged_spares fun s v => State.SparesProgram.trans ?_ (State.reply_spares _ _ _ _ _)
  have set : s.SparesProgram { s with callers := { s.callers with
      limit := v.1.getD s.callers.limit, holdGain := v.2.1.getD s.callers.holdGain } } := State.sparesProgram_of rfl
  exact set.trans (foldl_related State.SparesProgram.refl State.SparesProgram.trans
    (fun s i => s.setLine_spares i.1 _) v.2.2 _)

theorem execLineRing_onAirKept (tag : Tag) (line ref : Nat) (s : State) : OnAirKept s (execLineRing tag line ref s) :=
  onAirKept_judged_spares fun s k => ((s.setLine_spares k _).trans (State.reply_spares _ _ _ _ _)).trans
    (State.report_spares _ _)

theorem execLineConnected_onAirKept (tag : Tag) (line ref : Nat) (s : State) :
    OnAirKept s (execLineConnected tag line ref s) :=
  onAirKept_judged_spares fun s k => ((s.setLine_spares k _).trans (State.report_spares _ _)).trans
    (State.reply_spares _ _ _ _ _)

theorem execLineHangup_onAirKept (tag : Tag) (line ref : Nat) (s : State) :
    OnAirKept s (execLineHangup tag line ref s) :=
  onAirKept_judged_spares fun s k => (((s.endCall_spares k).trans (State.report_spares _ _)).trans
    (State.reply_spares _ _ _ _ _)).trans (State.remuteAfter_spares _ _)

/-! ### The receiver and the clock -/

/-- The two laws kept from one state of the part to another. -/
def State.KeepsOnAir (s t : State) : Prop := s.rig.KeepsOnAir t.rig

theorem State.KeepsOnAir.refl (s : State) : s.KeepsOnAir s := Rig.KeepsOnAir.refl s.rig

theorem State.keepsOnAir_of {s t : State} (h : t.rig = s.rig) : s.KeepsOnAir t :=
  Rig.SparesProgram.keepsOnAir (State.sparesProgram_of h)

theorem State.KeepsOnAir.trans {s₁ s₂ s₃ : State} (h : s₁.KeepsOnAir s₂) (k : s₂.KeepsOnAir s₃) :
    s₁.KeepsOnAir s₃ := Rig.KeepsOnAir.trans h k

theorem State.onRig_keepsOnAir {s : State} {f : Rig → Rig} (h : s.rig.KeepsOnAir (f s.rig)) :
    s.KeepsOnAir (s.onRig f) := h

theorem onAirKept_of {s t : State} (h : s.KeepsOnAir t) : OnAirKept s (.next t) := onAirKept_next h

theorem State.loseFrame_keepsOnAir (s : State) : s.KeepsOnAir s.loseFrame := by
  have lost := (s.rig.abandonCarts_sparesProgram .lost).trans (Rig.recordingsLost_sparesProgram _ s.clock.seconds)
  exact (lost.keepsOnAir.trans (Rig.airIfIdle_keepsOnAir _)).trans (Rig.report_keepsOnAir _ .trunkLost)

theorem State.settleFrame_keepsOnAir (s : State) : s.KeepsOnAir s.settleFrame := by
  unfold State.settleFrame
  split
  · exact s.rig.report_keepsOnAir _
  · exact State.keepsOnAir_of rfl

theorem State.settleFailure_keepsOnAir (s : State) : s.KeepsOnAir s.settleFailure := by
  unfold State.settleFailure
  split <;> exact State.keepsOnAir_of rfl

theorem State.lockedFailure_keepsOnAir (s : State) : s.KeepsOnAir s.lockedFailure := by
  unfold State.lockedFailure
  split
  · exact s.loseFrame_keepsOnAir
  · exact State.keepsOnAir_of rfl

theorem execActivitySeen_onAirKept (s : State) : OnAirKept s (execActivitySeen s) := by
  refine onAirKept_of ?_
  split <;> exact State.keepsOnAir_of rfl

theorem execActivityCeases_onAirKept (s : State) : OnAirKept s (execActivityCeases s) := by
  refine onAirKept_of ?_
  split
  · exact .refl s
  · exact State.keepsOnAir_of rfl
  · exact State.keepsOnAir_of rfl
  · exact s.loseFrame_keepsOnAir

theorem execAlignmentFound_onAirKept (s : State) : OnAirKept s (execAlignmentFound s) := by
  refine onAirKept_of ?_
  split <;> exact State.keepsOnAir_of rfl

theorem execAlignedFrame_onAirKept (lanes : Vector Sample 16) (s : State) :
    OnAirKept s (execAlignedFrame lanes s) := by
  refine onAirKept_of ?_
  split
  · exact .refl s
  · exact .refl s
  · exact s.settleFrame_keepsOnAir
  · exact State.keepsOnAir_of rfl

theorem execFailedPosition_onAirKept (s : State) : OnAirKept s (execFailedPosition s) := by
  refine onAirKept_of ?_
  split
  · exact .refl s
  · exact .refl s
  · exact s.settleFailure_keepsOnAir
  · exact s.lockedFailure_keepsOnAir

theorem State.framed_rig (s : State) : s.framed.rig = s.rig := by
  obtain ⟨-, -, -, -, hrig⟩ := s.openFrame_keeps
  exact hrig

theorem State.clockFrame_keepsOnAir (s : State) : s.KeepsOnAir s.clockFrame := by
  have told : s.KeepsOnAir (if s.clock.secondDue then
      s.framed.onRig (·.secondAdvance s.clock.seconds s.clock.nextSeconds) else s.framed) := by
    have framed : s.KeepsOnAir s.framed := State.keepsOnAir_of s.framed_rig
    split
    · have advanced : State.KeepsOnAir s.framed (s.framed.onRig
          (·.secondAdvance s.clock.seconds s.clock.nextSeconds)) :=
        State.onRig_keepsOnAir (s.framed.rig.secondAdvance_keepsOnAir s.clock.seconds s.clock.nextSeconds)
      exact framed.trans advanced
    · exact framed
  exact told.trans (Rig.SparesProgram.keepsOnAir (State.countAnswerTimers_spares _))

theorem execTimeSet_onAirKept (tag : Tag) (n : Nat) (s : State) : OnAirKept s (execTimeSet tag n s) := by
  refine onAirKept_judged fun s _ _ => ?_
  have replied : s.KeepsOnAir
      (({ s with clock := { s.clock with seconds := n, frameCount := 0, timeValid := true } } : State).reply tag
        .timeSet .done []) := Rig.keepsOnAir_of_rest rfl rfl
  exact replied.trans (State.onRig_keepsOnAir (Rig.timeSet_keepsOnAir _ s.clock.timeValid s.clock.seconds n))

/-! ### The mix, the link, the monitors, the switch and the delay -/

theorem State.setRoute_spares (s : State) (i : RouteId) (r : Route) : s.SparesProgram (s.setRoute i r) :=
  State.sparesProgram_of rfl

theorem State.mixFrame_spares (s : State) : s.SparesProgram s.mixFrame := Rig.reports_sparesProgram _ _

theorem execRouteSet_onAirKept (tag : Tag) (index kind number destination gain exponent voice duckable : Nat)
    (s : State) : OnAirKept s (execRouteSet tag index kind number destination gain exponent voice duckable s) :=
  onAirKept_judged_spares fun s _ => (s.setRoute_spares _ _).trans (State.reply_spares _ _ _ _ _)

theorem execRouteGain_onAirKept (tag : Tag) (index gain exponent : Nat) (s : State) :
    OnAirKept s (execRouteGain tag index gain exponent s) :=
  onAirKept_judged_spares fun s _ => (s.setRoute_spares _ _).trans (State.reply_spares _ _ _ _ _)

theorem execRouteClear_onAirKept (tag : Tag) (index exponent : Nat) (s : State) :
    OnAirKept s (execRouteClear tag index exponent s) := by
  refine onAirKept_judged_spares fun s i => ?_
  have done := (s.setRoute_spares i (s.mix.routes[i].cleared exponent)).trans
    (State.reply_spares _ tag .routeClear .done [])
  dsimp only
  split
  · exact done.trans (State.report_spares _ _)
  · exact done

theorem execDuckSet_onAirKept (tag : Tag) (depth attack release threshold hold : Nat) (s : State) :
    OnAirKept s (execDuckSet tag depth attack release threshold hold s) :=
  onAirKept_judged_spares fun s duck => State.SparesProgram.trans (s₂ := { s with mix := { s.mix with duck := duck } })
    (State.sparesProgram_of rfl) (State.reply_spares _ _ _ _ _)

theorem State.onLink_spares (s : State) (f : Linked → Linked) : s.SparesProgram (s.onLink f) :=
  Rig.reports_sparesProgram _ _

theorem State.gatherFrame_spares (s : State) : s.SparesProgram s.gatherFrame := by
  unfold State.gatherFrame
  dsimp only
  split
  · exact State.SparesProgram.trans (s₂ := { s with link := (s.link.gather s.taken.air).completed _ })
      (State.sparesProgram_of rfl) (State.onLink_spares _ _)
  · exact State.sparesProgram_of rfl

theorem State.beatFrame_spares (s : State) (p : Port) : s.SparesProgram (s.beatFrame p) := s.onLink_spares _

theorem State.linkFrame_spares (s : State) : s.SparesProgram s.linkFrame := by
  unfold State.linkFrame State.beforeRevert
  exact ((s.gatherFrame_spares.trans (State.beatFrame_spares _ .a)).trans (State.beatFrame_spares _ .b)).trans
    (State.onLink_spares _ _)

theorem execSiteReport_onAirKept (p : Port) (w0 w1 w2 : Word32) (s : State) :
    OnAirKept s (execSiteReport p w0 w1 w2 s) := by
  refine onAirKept_spares ?_
  split
  · exact State.sparesProgram_of rfl
  · exact s.onLink_spares _

theorem execLinkSetup_onAirKept (tag : Tag) (f : LinkFields) (s : State) : OnAirKept s (execLinkSetup tag f s) := by
  refine onAirKept_judged_spares fun s change => ?_
  have set : s.SparesProgram (({ s with link := s.link.setUp change } : State).reply tag .linkSetup .done []) :=
    State.SparesProgram.trans (s₂ := { s with link := s.link.setUp change }) (State.sparesProgram_of rfl)
      (State.reply_spares _ _ _ _ _)
  dsimp only
  split
  · exact set.trans (State.onLink_spares _ _)
  · exact set

theorem execLinkSelect_onAirKept (tag : Tag) (port force : Nat) (s : State) :
    OnAirKept s (execLinkSelect tag port force s) := by
  refine onAirKept_judged_spares fun s p => State.SparesProgram.trans ?_ (State.reply_spares _ _ _ _ _)
  split
  · exact .refl s
  · exact s.onLink_spares _

theorem State.monitorFrame_spares (s : State) : s.SparesProgram s.monitorFrame := by
  have measured : s.rig.SparesProgram s.measuredRig := Rig.sparesProgram_of rfl rfl
  rw [State.monitorFrame_eq]
  refine State.onRig_spares ?_
  split
  · exact measured.trans (Rig.endBlocks_sparesProgram _)
  · exact measured

theorem execMonitorSet_onAirKept (tag : Tag) (setting : Nat) (f : MonitorFields) (s : State) :
    OnAirKept s (execMonitorSet tag setting f s) :=
  onAirKept_judgedOnRig_spares fun r a => (r.changeSetting_sparesProgram a.1 _).trans
    (Rig.reply_sparesProgram _ _ _ _ _)

/-- The cells changed, and whether they act handed on. -/
theorem Rig.handedOn_sparesProgram (r : Rig) (m : Monitors) (cs : List (Fin 18)) :
    r.SparesProgram (({ r with monitors := m } : Rig).handOnAll cs r.monitors) := by
  refine Rig.SparesProgram.trans ?_ (Rig.handOnAll_sparesProgram _ _ _)
  exact Rig.sparesProgram_of rfl rfl

theorem execMonitorClear_onAirKept (tag : Tag) (setting line : Nat) (s : State) :
    OnAirKept s (execMonitorClear tag setting line s) := by
  refine onAirKept_judgedOnRig_spares fun r cs => ?_
  rw [Rig.changeCells_keeps]
  exact (r.reply_sparesProgram tag .monitorClear .done []).trans
    (Rig.handedOn_sparesProgram (r.reply tag .monitorClear .done []) _ cs)

theorem execAirSetup_onAirKept (tag : Tag) (cart enable fadeMs : Option Nat) (s : State) :
    OnAirKept s (execAirSetup tag cart enable fadeMs s) := by
  refine onAirKept_judgedOnRig_spares fun r v => ?_
  have set : r.SparesProgram (({ r with airSwitch := r.airSwitch.setUp v.1 v.2.1 v.2.2 } : Rig).reply tag .airSetup
      .done []) := Rig.sparesProgram_of rfl rfl
  dsimp only
  split
  · exact set
  · exact set.trans (Rig.evaluateOwner_sparesProgram _ .setup)

theorem State.delayFrame_onAirKept (s : State) : OnAirKept s s.delayFrame := by
  unfold State.delayFrame
  dsimp only
  split
  · exact onAirKept_next (Rig.keepsOnAir_of_rest rfl rfl)
  · split
    · exact onAirKept_fault s _
    · split
      · exact onAirKept_next s.rig.heldFrame_sparesProgram.keepsOnAir
      · split <;> exact onAirKept_next (s.rig.changeDelay_sparesProgram _ _).keepsOnAir

theorem execDelaySetup_onAirKept (tag : Tag) (target dump build catchup : Option Nat) (s : State) :
    OnAirKept s (execDelaySetup tag target dump build catchup s) :=
  onAirKept_judgedOnRig_spares fun r _ => (r.reply_sparesProgram _ _ _ _).trans (Rig.changeDelay_sparesProgram _ _ _)

theorem execDelayStart_onAirKept (tag : Tag) (s : State) : OnAirKept s (execDelayStart tag s) :=
  onAirKept_judgedOnRig_spares fun r _ => (r.changeDelay_sparesProgram _ _).trans (Rig.reply_sparesProgram _ _ _ _ _)

theorem execDelayExit_onAirKept (tag : Tag) (s : State) : OnAirKept s (execDelayExit tag s) :=
  onAirKept_judged_spares fun s _ => State.onRig_spares
    ((s.rig.changeDelay_sparesProgram _ _).trans (Rig.reply_sparesProgram _ _ _ _ _))

theorem execDelayDump_onAirKept (tag : Tag) (s : State) : OnAirKept s (execDelayDump tag s) :=
  onAirKept_judgedOnRig_spares fun r _ => ((r.report_sparesProgram _).trans
    (Rig.changeDelay_sparesProgram _ _ _)).trans (Rig.reply_sparesProgram _ _ _ _ _)

/-! ### Decks and the running order -/

/-- The frame of an audible deck leaves no program deck audible that was not. -/
theorem State.playFrame_onAirKept {s : State} {d : DeckId} (h : (s.rig.deck d).audible = true) :
    OnAirKept s (s.playFrame d) := by
  have closed (k : Deck) (x : Frame) (done : Bool) :
      OnAirKept s (.next ((s.putDeck d x).onRig fun r => (r.setDeck d k).closeDeckFrame d done)) :=
    onAirKept_next ((s.rig.setDeck_keepsOnAir fun _ => h).trans (Rig.closeDeckFrame_keepsOnAir _ d done))
  unfold State.playFrame
  dsimp only
  split
  · exact closed _ _ _
  · split
    · exact closed _ _ _
    · split
      · exact closed _ _ _
      · exact onAirKept_fault s _

theorem State.putDeck_onAirKept (s : State) (d : DeckId) (x : Frame) : OnAirKept s (.next (s.putDeck d x)) :=
  onAirKept_of (State.keepsOnAir_of rfl)

theorem State.deckFrame_onAirKept (s : State) (d : DeckId) : OnAirKept s (s.deckFrame d) := by
  unfold State.deckFrame
  dsimp only
  split
  · exact State.playFrame_onAirKept (by simp [Deck.audible, *])
  · exact State.playFrame_onAirKept (by simp [Deck.audible, *])
  · exact onAirKept_next (s.rig.loadFrame_keepsOnAir d)
  all_goals exact s.putDeck_onAirKept d _

theorem execPrefetchComplete_onAirKept (d : DeckId) (s : State) : OnAirKept s (execPrefetchComplete d s) :=
  onAirKept_whenDue (f := fun s => .next (s.onRig (·.prefetched d))) (onAirKept_next (s.rig.prefetched_keepsOnAir d))

theorem firstNonAiring_mem {es : List Entry} {e : Entry} (h : firstNonAiring es = some e) : e ∈ es :=
  List.mem_of_find?_eq_some h

theorem execDeckStart_onAirKept (tag : Tag) (deck : Nat) (s : State) : OnAirKept s (execDeckStart tag deck s) := by
  refine onAirKept_judgedOnRig fun r e hc => ?_
  obtain ⟨d, -, hc⟩ := bind_ok hc
  obtain ⟨e', he, hc⟩ := require_bind_ok hc
  obtain ⟨-, hc⟩ := refuse_bind_ok hc
  cases hc
  exact ((Rig.startEntry_keepsOnAir (firstNonAiring_mem he) .request).reply _ _ _ _).assigned

theorem execOrderNext_onAirKept (tag : Tag) (s : State) : OnAirKept s (execOrderNext tag s) := by
  refine onAirKept_judgedOnRig fun r e hc => ?_
  obtain ⟨-, hc⟩ := refuse_bind_ok hc
  obtain ⟨e', he, hc⟩ := require_bind_ok hc
  obtain ⟨d, -, hc⟩ := require_bind_ok hc
  obtain ⟨-, hc⟩ := refuse_bind_ok hc
  cases hc
  exact ((Rig.startEntry_keepsOnAir (firstNonAiring_mem he) .request).reply _ _ _ _).assigned

theorem execDeckFade_onAirKept (tag : Tag) (deck : Nat) (s : State) : OnAirKept s (execDeckFade tag deck s) :=
  onAirKept_judgedOnRig fun r d _ => ((r.fadeDeck_keepsOnAir d _).reply _ _ _ _).settled

theorem execDeckCut_onAirKept (tag : Tag) (deck : Nat) (s : State) : OnAirKept s (execDeckCut tag deck s) :=
  onAirKept_judgedOnRig fun r d _ => ((r.cutDeck_keepsOnAir d).reply _ _ _ _).settled

theorem execDeckPause_onAirKept (tag : Tag) (deck : Nat) (s : State) : OnAirKept s (execDeckPause tag deck s) :=
  onAirKept_judgedOnRig fun r d _ => (r.setDeck_keepsOnAir (x := (r.deck d).paused false) nofun).reply _ _ _ _

theorem execDeckResume_onAirKept (tag : Tag) (deck : Nat) (s : State) : OnAirKept s (execDeckResume tag deck s) :=
  onAirKept_judgedOnRig fun r d _ => ((r.resumeDeck_keepsOnAir d).reply _ _ _ _).settled

theorem execOrderAppend_onAirKept (tag : Tag) (f : EntryFields) (s : State) :
    OnAirKept s (execOrderAppend tag f s) := by
  refine onAirKept_judged fun s e hc => ?_
  exact ((Rig.joined_keepsOnAir (State.appendCheck_ok hc) (List.append_nil _).symm).reply _ _ _ _).assigned

theorem execOrderInsert_onAirKept (tag : Tag) (f : EntryFields) (before : Nat) (s : State) :
    OnAirKept s (execOrderInsert tag f before s) := by
  refine onAirKept_judged fun s e hc => ?_
  exact ((Rig.joined_keepsOnAir (State.insertCheck_ok hc) List.takeWhile_append_dropWhile.symm).reply _ _ _ _).assigned

/-- The decks of entries are sent UNLOAD, and then entries leave the list. -/
theorem Rig.unloaded_keepsOnAir (r : Rig) (gone : List Entry) {es : List Entry} (h : es.Sublist r.order.entries) :
    r.KeepsOnAir ((r.unloadEntries gone).setEntries es) :=
  (r.unloadEntries_keepsOnAir gone).trans (Rig.setEntries_keepsOnAir _ (by rwa [Rig.unloadEntries_order]))

theorem execOrderRemove_onAirKept (tag : Tag) (entryTag : Nat) (s : State) :
    OnAirKept s (execOrderRemove tag entryTag s) :=
  onAirKept_judgedOnRig fun r e _ => ((r.unloaded_keepsOnAir [e] (withoutTag_sublist _ _)).reply _ _ _ _).assigned

theorem execOrderClear_onAirKept (tag : Tag) (s : State) : OnAirKept s (execOrderClear tag s) :=
  onAirKept_takeOnRig fun r => ((r.unloaded_keepsOnAir _ List.filter_sublist).reply _ _ _ _).settled

theorem execOrderHold_onAirKept (tag : Tag) (s : State) : OnAirKept s (execOrderHold tag s) :=
  onAirKept_takeOnRig fun r => ((r.setHold_keepsOnAir true).reply _ _ _ _).settled

theorem execOrderRun_onAirKept (tag : Tag) (s : State) : OnAirKept s (execOrderRun tag s) :=
  onAirKept_takeOnRig fun r => ((r.setHold_keepsOnAir false).reply _ _ _ _).settled

/-! ### The store -/

theorem State.recorderFrame_onAirKept (s : State) (k : RecorderId) : OnAirKept s (s.recorderFrame k) := by
  unfold State.recorderFrame
  dsimp only
  split
  · exact onAirKept_of (.refl s)
  · split
    · exact onAirKept_next ((s.rig.recorderAdvances_sparesProgram k).keepsOnAir.trans
        (Rig.recorderEnds_keepsOnAir _ k _))
    · exact onAirKept_fault s _

theorem execRegionSet_onAirKept (tag : Tag) (region start pages : Nat) (s : State) :
    OnAirKept s (execRegionSet tag region start pages s) := by
  refine onAirKept_takeOnRig fun r => ?_
  split
  · split <;> exact Rig.keepsOnAir_of_rest rfl rfl
  · split <;> exact Rig.keepsOnAir_of_rest rfl rfl
  · exact Rig.keepsOnAir_of_rest rfl rfl

theorem Rig.setCart_keepsOnAir (r : Rig) (c : CartId) (x : Cart) : r.KeepsOnAir (r.setCart c x) :=
  Rig.keepsOnAir_of_rest rfl rfl

theorem Rig.setRecorder_keepsOnAir (r : Rig) (k : RecorderId) (b : Binding) (source : RecordSource) (limit : Nat) :
    r.KeepsOnAir (r.bindRecorder k b source limit) := Rig.keepsOnAir_of_rest rfl rfl

theorem execCartDefine_onAirKept (tag : Tag) (cart start pages form cls : Nat) (s : State) :
    OnAirKept s (execCartDefine tag cart start pages form cls s) :=
  onAirKept_judgedOnRig fun r _ _ => (r.setCart_keepsOnAir _ _).reply _ _ _ _

theorem execCartMarks_onAirKept (tag : Tag) (cart cueIn cueOut : Nat) (intro segue : Option Nat) (s : State) :
    OnAirKept s (execCartMarks tag cart cueIn cueOut intro segue s) :=
  onAirKept_judgedOnRig fun r _ _ => (r.setCart_keepsOnAir _ _).reply _ _ _ _

theorem execCartDelete_onAirKept (tag : Tag) (cart : Nat) (s : State) : OnAirKept s (execCartDelete tag cart s) := by
  refine onAirKept_judgedOnRig fun r c _ => ?_
  split
  · exact (Rig.KeepsOnAir.refl r).reply _ _ _ _
  · exact (((r.setCart_keepsOnAir c .empty).trans (Rig.removeWaitingFor_keepsOnAir _ c)).reply _ _ _ _).settled

theorem execCartRecord_onAirKept (tag : Tag) (cart kind number : Nat) (s : State) :
    OnAirKept s (execCartRecord tag cart kind number s) :=
  onAirKept_judgedOnRig fun r v _ => ((((r.setCart_keepsOnAir v.1 _).trans (Rig.setRecorder_keepsOnAir _ _ _ _ _)).trans
    (Rig.removeWaitingFor_keepsOnAir _ v.1)).reply _ _ _ _).settled

theorem execCartRecordStop_onAirKept (tag : Tag) (cart : Nat) (s : State) :
    OnAirKept s (execCartRecordStop tag cart s) :=
  onAirKept_judgedOnRig fun _ _ _ => Rig.keepsOnAir_of_rest rfl rfl

/-! ### Alerts -/

theorem execAlertNotice_onAirKept (tag : Tag) (f : NoticeFields) (s : State) : OnAirKept s (execAlertNotice tag f s) :=
  onAirKept_judgedOnRig fun r n _ => (r.intake_sparesProgram s.clock n).keepsOnAir.reply _ _ _ _

theorem execAlertAudioEnd_onAirKept (tag : Tag) (originator identity : Nat) (s : State) :
    OnAirKept s (execAlertAudioEnd tag originator identity s) :=
  onAirKept_judgedOnRig fun r i _ => ((Rig.KeepsOnAir.refl r).reply _ _ _ _).trans
    (Rig.alertRecordingEnds_keepsOnAir _ i _ _)

theorem execAlertCancel_onAirKept (tag : Tag) (originator identity : Nat) (s : State) :
    OnAirKept s (execAlertCancel tag originator identity s) :=
  onAirKept_judgedOnRig fun r i _ => ((Rig.KeepsOnAir.refl r).reply _ _ _ _).trans (Rig.cancelAlert_keepsOnAir _ i)

theorem execAlertConfirm_onAirKept (tag : Tag) (record : Nat) (s : State) :
    OnAirKept s (execAlertConfirm tag record s) :=
  onAirKept_judgedOnRig fun r i _ => ((Rig.KeepsOnAir.refl r).reply _ _ _ _).trans (Rig.confirmAlert_keepsOnAir _ i)

theorem execAlertDecline_onAirKept (tag : Tag) (record : Nat) (s : State) :
    OnAirKept s (execAlertDecline tag record s) :=
  onAirKept_judgedOnRig fun r i _ => ((Rig.KeepsOnAir.refl r).reply _ _ _ _).trans
    (Rig.declineAlert_sparesProgram _ i).keepsOnAir

theorem execAlertAbort_onAirKept (tag : Tag) (record : Nat) (s : State) : OnAirKept s (execAlertAbort tag record s) :=
  onAirKept_judgedOnRig fun r i _ => (r.stopAiring_keepsOnAir i _ _).reply _ _ _ _

/-! ### Restart, power-on and the service channel -/

/-- With every deck EMPTY and no entry, both laws stand. -/
theorem Rig.keepsOnAir_empty (r : Rig) {r' : Rig} (hd : ∀ d, (r'.deck d).state = .empty) (he : r'.order.entries = []) :
    r.KeepsOnAir r' := by
  refine Rig.keepsOnAir_of (fun d _ ha => ?_) fun _ => ?_
  · unfold Deck.audible at ha
    rw [hd] at ha
    cases ha
  · unfold Order.law
    rw [he]
    exact ⟨Nat.zero_le _, List.nodup_nil, nofun, Nat.zero_le _⟩

theorem execRestart_onAirKept (tag : Tag) (s : State) : OnAirKept s (execRestart tag s) := by
  refine onAirKept_take fun s => Rig.KeepsOnAir.trans ?_ (Rig.SparesProgram.keepsOnAir (State.restartCallers_spares _))
  refine s.rig.keepsOnAir_empty (fun d => ?_) rfl
  have hdeck (r : Rig) : r.restarted.deck d = (r.deck d).emptied := vmap_get _ _ d
  exact congrArg Deck.state (hdeck _)

theorem execPowerOn_onAirKept (s : State) : OnAirKept s (execPowerOn s) := by
  refine onAirKept_next (s.rig.keepsOnAir_empty (fun d => ?_) rfl)
  show ((Vector.replicate 6 Deck.reset)[d]).state = .empty
  simp [Deck.reset]

theorem State.rejectMessage_spares (s : State) (m : OpenMessage) (st : Status) :
    s.SparesProgram (s.rejectMessage m st) :=
  State.SparesProgram.trans (s₂ := { s with inbound := none }) (State.sparesProgram_of rfl) (State.command_spares _ _)

theorem State.badForm_spares (s : State) : s.SparesProgram s.badForm := by
  unfold State.badForm
  split
  · exact .refl s
  · exact s.rejectMessage_spares _ _

theorem State.firstWord_spares (s : State) (p : Nat) : s.SparesProgram (s.firstWord p) := by
  unfold State.firstWord
  dsimp only
  split
  · exact s.badForm_spares
  · exact s.badForm_spares.trans (State.sparesProgram_of (s := s.badForm)
      (t := { s.badForm with inbound := some (openWith p) }) rfl)

theorem State.nextWord_spares (s : State) (p : Nat) : s.SparesProgram (s.nextWord p) := by
  unfold State.nextWord
  split
  · exact .refl s
  · split
    · exact State.sparesProgram_of rfl
    · exact s.rejectMessage_spares _ _

/-- Every request that a message carries keeps the two laws. -/
theorem carryOut_onAirKept (i : Instr) (s : State) : OnAirKept s (carryOut i s) := by
  have reads (r : Rig) (tag : Tag) (k : RequestKind) (d : List Nat) : r.KeepsOnAir (r.reply tag k .done d) :=
    (r.reply_sparesProgram tag k .done d).keepsOnAir
  cases i
  case timeSet tag n => exact execTimeSet_onAirKept tag n s
  case restart tag => exact execRestart_onAirKept tag s
  case routeSet tag a b c d e f g h => exact execRouteSet_onAirKept tag a b c d e f g h s
  case routeGain tag a b c => exact execRouteGain_onAirKept tag a b c s
  case routeClear tag a b => exact execRouteClear_onAirKept tag a b s
  case duckSet tag a b c d e => exact execDuckSet_onAirKept tag a b c d e s
  case regionSet tag a b c => exact execRegionSet_onAirKept tag a b c s
  case cartDefine tag a b c d e => exact execCartDefine_onAirKept tag a b c d e s
  case cartDelete tag a => exact execCartDelete_onAirKept tag a s
  case cartMarks tag a b c d e => exact execCartMarks_onAirKept tag a b c d e s
  case cartRecord tag a b c => exact execCartRecord_onAirKept tag a b c s
  case cartRecordStop tag a => exact execCartRecordStop_onAirKept tag a s
  case deckStart tag a => exact execDeckStart_onAirKept tag a s
  case deckFade tag a => exact execDeckFade_onAirKept tag a s
  case deckCut tag a => exact execDeckCut_onAirKept tag a s
  case deckPause tag a => exact execDeckPause_onAirKept tag a s
  case deckResume tag a => exact execDeckResume_onAirKept tag a s
  case orderAppend tag e => exact execOrderAppend_onAirKept tag e s
  case orderInsert tag e b => exact execOrderInsert_onAirKept tag e b s
  case orderRemove tag a => exact execOrderRemove_onAirKept tag a s
  case orderClear tag => exact execOrderClear_onAirKept tag s
  case orderNext tag => exact execOrderNext_onAirKept tag s
  case orderHold tag => exact execOrderHold_onAirKept tag s
  case orderRun tag => exact execOrderRun_onAirKept tag s
  case callAnswer tag a => exact execCallAnswer_onAirKept tag a s
  case callReady tag a => exact execCallReady_onAirKept tag a s
  case callTake tag a => exact execCallTake_onAirKept tag a s
  case callPark tag a => exact execCallPark_onAirKept tag a s
  case callDrop tag a => exact execCallDrop_onAirKept tag a s
  case callSetup tag a b items => exact execCallSetup_onAirKept tag a b items s
  case lineRing tag a b => exact execLineRing_onAirKept tag a b s
  case lineConnected tag a b => exact execLineConnected_onAirKept tag a b s
  case lineHangup tag a b => exact execLineHangup_onAirKept tag a b s
  case delaySetup tag a b c d => exact execDelaySetup_onAirKept tag a b c d s
  case delayStart tag => exact execDelayStart_onAirKept tag s
  case delayExit tag => exact execDelayExit_onAirKept tag s
  case delayDump tag => exact execDelayDump_onAirKept tag s
  case alertNotice tag n => exact execAlertNotice_onAirKept tag n s
  case alertAudioEnd tag a b => exact execAlertAudioEnd_onAirKept tag a b s
  case alertCancel tag a b => exact execAlertCancel_onAirKept tag a b s
  case alertConfirm tag a => exact execAlertConfirm_onAirKept tag a s
  case alertDecline tag a => exact execAlertDecline_onAirKept tag a s
  case alertAbort tag a => exact execAlertAbort_onAirKept tag a s
  case airSetup tag a b c => exact execAirSetup_onAirKept tag a b c s
  case monitorSet tag a f => exact execMonitorSet_onAirKept tag a f s
  case monitorClear tag a b => exact execMonitorClear_onAirKept tag a b s
  case linkSetup tag f => exact execLinkSetup_onAirKept tag f s
  case linkSelect tag a b => exact execLinkSelect_onAirKept tag a b s
  case statusRead | delayRead | linkRead => exact onAirKept_take fun s => Rig.keepsOnAir_of_rest rfl rfl
  case outmapSet => exact onAirKept_judged fun _ _ _ => Rig.keepsOnAir_of_rest rfl rfl
  case alertForget | filterSet | filterClear => exact onAirKept_judgedOnRig fun _ _ _ => Rig.keepsOnAir_of_rest rfl rfl
  case routeRead | lineRead => exact onAirKept_judged fun s _ _ => reads s.rig _ _ _
  case cartRead | deckRead | orderRead | alertRead | monitorRead =>
    exact onAirKept_judgedOnRig fun r _ _ => reads r _ _ _
  all_goals exact onAirKept_of (.refl s)

theorem execServiceWord_onAirKept (w : Word32) (s : State) : OnAirKept s (execServiceWord w s) := by
  unfold execServiceWord
  split
  · exact onAirKept_of (.refl s)
  · split
    · exact onAirKept_spares s.badForm_spares
    · exact onAirKept_spares (s.firstWord_spares _)
    · exact onAirKept_spares (s.nextWord_spares _)
    · unfold State.lastWord
      split
      · exact onAirKept_of (.refl s)
      · split
        · exact onAirKept_spares (s.rejectMessage_spares _ _)
        · exact carryOut_onAirKept _ s

theorem execBadMessage_onAirKept (p : BitVec 30) (s : State) : OnAirKept s (execBadMessage p s) := by
  have same : OnAirKept s (.next s) := onAirKept_of (.refl s)
  unfold execBadMessage
  split
  · exact same
  · split
    · exact same
    · split
      · exact onAirKept_spares (s.rejectMessage_spares _ _)
      · exact same

/-! ### Every command, every step -/

/-- Every command keeps the two laws: the events of the part one by one, and the requests as a message carries them. -/
theorem exec_onAirKept (i : Instr) (s : State) : OnAirKept s (exec i s) := by
  have request := carryOut_onAirKept i s
  have clock : OnAirKept s (.next s.clockFrame) := onAirKept_of s.clockFrame_keepsOnAir
  have mix : OnAirKept s (.next s.mixFrame) := onAirKept_spares s.mixFrame_spares
  have switch : OnAirKept s (.next s.switchFrame) := onAirKept_next s.rig.switchFaded_sparesProgram.keepsOnAir
  have monitor : OnAirKept s (.next s.monitorFrame) := onAirKept_spares s.monitorFrame_spares
  have link : OnAirKept s (.next s.linkFrame) := onAirKept_spares s.linkFrame_spares
  cases i
  case powerOn => exact execPowerOn_onAirKept s
  case activitySeen => exact execActivitySeen_onAirKept s
  case activityCeases => exact execActivityCeases_onAirKept s
  case alignmentFound => exact execAlignmentFound_onAirKept s
  case alignedFrame lanes => exact execAlignedFrame_onAirKept lanes s
  case failedPosition => exact execFailedPosition_onAirKept s
  case settlingFailure =>
    exact onAirKept_whenDue (f := fun s => .next s.settleFailure) (onAirKept_of s.settleFailure_keepsOnAir)
  case lockEvent => exact onAirKept_whenDue (f := fun s => .next s.settleFrame) (onAirKept_of s.settleFrame_keepsOnAir)
  case frameLoss =>
    exact onAirKept_whenDue (f := fun s => .next s.lockedFailure) (onAirKept_of s.lockedFailure_keepsOnAir)
  case stationClockFrame => exact clock
  case secondAdvance | timeReached | validityExpiry | windowExpiry | answerTimerExpiry =>
    exact onAirKept_whenDue (f := fun s => .next s.clockFrame) clock
  case mixFrame => exact mix
  case routeRampEnd | gateRampEnd | voiceHoldExpiry => exact onAirKept_whenDue (f := fun s => .next s.mixFrame) mix
  case transmitFrame => exact onAirKept_next (Rig.keepsOnAir_of_rest rfl rfl)
  case deckFrame d => exact s.deckFrame_onAirKept d
  case prefetchComplete d => exact execPrefetchComplete_onAirKept d s
  case autoFadeStart d | segueEvent d | playEnd d | fadeEnd d =>
    exact onAirKept_whenDue (f := fun s => s.deckFrame d) (s.deckFrame_onAirKept d)
  case recorderFrame k => exact s.recorderFrame_onAirKept k
  case cartRecordingFull k | alertDeclaredLength k | alertSlotFull k =>
    exact onAirKept_whenDue (f := fun s => s.recorderFrame k) (s.recorderFrame_onAirKept k)
  case delayFrame => exact s.delayFrame_onAirKept
  case targetLanding | bypassReached | delayOverrun | dumpCrossfadeEnd =>
    exact onAirKept_whenDue (f := fun s => s.delayFrame) s.delayFrame_onAirKept
  case switchFrame => exact switch
  case crossfadeEnd => exact onAirKept_whenDue (f := fun s => .next s.switchFrame) switch
  case monitorFrame => exact monitor
  case monitorBlockEnd => exact onAirKept_whenDue (f := fun s => .next s.monitorFrame) monitor
  case lineQuietFault k => exact execLineQuietFault_onAirKept k s
  case lineOverloadChange => exact execLineOverloadChange_onAirKept s
  case linkFrame => exact link
  case linkBlockComplete | heartbeatExpiry | revertiveReturn =>
    exact onAirKept_whenDue (f := fun s => .next s.linkFrame) link
  case siteReport p w0 w1 w2 => exact execSiteReport_onAirKept p w0 w1 w2 s
  case serviceWord w => exact execServiceWord_onAirKept w s
  case badMessage p => exact execBadMessage_onAirKept p s
  all_goals exact request

/-- A step takes nothing from the two laws: the queue's rest is no part of any block. -/
theorem step_keepsOnAir {s t : State} (h : step s = .next t) : s.rig.KeepsOnAir t.rig := by
  unfold step at h
  split at h
  · cases h
    exact .refl _
  · have kept := exec_onAirKept _ _ t h
    exact kept

/-- Settles O58: at most one deck stands audible when another is made so, an entry leaves ASSIGNED with its deck, and
every command keeps both laws by the lemma of its own for it. -/
theorem everyStepKeepsTwoDecksAndTheOrderInForm : Obligations.EveryStepKeepsTwoDecksAndTheOrderInForm := by
  intro s t h
  have kept := step_keepsOnAir h
  exact ⟨kept.two, kept.order⟩

end Sys2Proof.Machine
end

section
/-!
SUPPORT and the statement O31: one frame event of a deck (R59, R60, R62, R63).
-/

namespace Sys2Proof.Machine

/-! ### The frame event by the deck's state -/

theorem exec_deckFrame (d : DeckId) (s : State) : exec (.deckFrame d) s = s.deckFrame d := rfl

theorem exec_autoFadeStart (d : DeckId) (s : State) :
    exec (.autoFadeStart d) s = whenDue ((s.rig.deck d).autoFades d) s fun s => s.deckFrame d := rfl

theorem exec_prefetchComplete (d : DeckId) (s : State) :
    exec (.prefetchComplete d) s = whenDue ((s.rig.deck d).state == .loading && 1 ≤ (s.rig.deck d).loadAge) s
      fun s => .next (s.onRig (·.prefetched d)) := rfl

theorem State.deckFrame_audible {s : State} {d : DeckId} (h : (s.rig.deck d).audible = true) :
    s.deckFrame d = s.playFrame d := by
  unfold State.deckFrame
  dsimp only
  split
  · rfl
  · rfl
  all_goals simp [Deck.audible, *] at h

theorem State.deckFrame_loading {s : State} {d : DeckId} (h : (s.rig.deck d).state = .loading) :
    s.deckFrame d = .next ((s.putDeck d (silenceIn (s.rig.deck d).form)).onRig (·.loadFrame d)) := by
  unfold State.deckFrame
  dsimp only
  rw [h]

theorem State.deckFrame_rests {s : State} {d : DeckId}
    (h : (s.rig.deck d).state = .empty ∨ (s.rig.deck d).state = .cued ∨ (s.rig.deck d).state = .paused ∨
      (s.rig.deck d).state = .done) :
    s.deckFrame d = .next (s.putDeck d (silenceIn (s.rig.deck d).form)) := by
  unfold State.deckFrame
  rcases h with h | h | h | h <;> (dsimp only; rw [h])

/-! ### The automatic fade and the advance -/

theorem Deck.autoFades_iff (k : Deck) (d : DeckId) : k.autoFades d = true ↔
    isProgramDeck d = true ∧ k.state = .playing ∧ 0 < k.fadeLength ∧ k.position < k.playEnd ∧
      k.playEnd - k.position ≤ k.fadeLength := by
  simp [Deck.autoFades, and_assoc]

/-- Step 1 of R60 sets the state and the fade alone. -/
theorem Deck.fadeStep_eq (k : Deck) (d : DeckId) : k.fadeStep d = { k with
    state := if k.autoFades d then .fading else k.state
    fadeSpan := if k.autoFades d then k.playEnd - k.position else k.fadeSpan
    fadeRemaining := if k.autoFades d then k.playEnd - k.position else k.fadeRemaining } := by
  unfold Deck.fadeStep
  split <;> rfl

theorem Deck.fadeStep_of_not {k : Deck} {d : DeckId} (h : k.autoFades d = false) : k.fadeStep d = k := by
  rw [Deck.fadeStep, h]
  rfl

theorem Deck.looped_of_lt {k : Deck} (h : k.position < k.playEnd) (d : DeckId) : k.looped d = k :=
  if_neg fun hf => Nat.not_le.mpr h hf.2

theorem Deck.looped_of_ne {d : DeckId} (h : d ≠ deckF) (k : Deck) : k.looped d = k := if_neg fun hf => h hf.1

/-- A frame that does not bring the deck to its end (R60, step 5). -/
theorem Deck.ends_eq_false {k : Deck} {d : DeckId} (hpos : k.position < k.playEnd)
    (hfade : k.state = .fading → k.fadeRemaining ≠ 0) : k.ends d = false := by
  simp only [Deck.ends, Bool.or_eq_false_iff, Bool.and_eq_false_imp, beq_iff_eq, beq_eq_false_iff_ne,
    decide_eq_false_iff_not]
  exact ⟨hfade, fun _ => Nat.not_le.mpr hpos⟩

theorem Deck.seguesNow_eq_false {k : Deck} (h : ∀ p, k.seguePoint = some p → k.segueSent = true ∨ k.position < p) :
    k.seguesNow = false := by
  unfold Deck.seguesNow
  cases hp : k.seguePoint with
  | none => exact Bool.and_false _
  | some p =>
    rcases h p hp with hsent | hpos
    · rw [hsent]
      rfl
    · exact Bool.and_eq_false_imp.mpr fun _ => decide_eq_false (Nat.not_le.mpr hpos)

theorem Rig.sendSegue_of_not {r : Rig} {d : DeckId} (h : (r.deck d).seguesNow = false) : r.sendSegue d = r := by
  rw [Rig.sendSegue, h]
  rfl

/-! ### The frame read from the store (R60, step 2) -/

/-- The frame of the source that an audible deck reads. -/
theorem State.playFrame_reads {s : State} {d : DeckId} {k : Deck} (hk : (s.rig.deck d).fadeStep d = k) {start : Nat}
    (hstart : s.rig.sourceStart k.source = some start) (hpos : k.position < k.playEnd)
    (hin : inStore (extentWords k.form start k.position) = true) :
    s.playFrame d = .next ((s.putDeck d (k.leveled (s.store.readFrame k.form start k.position))).onRig fun r =>
      (r.setDeck d (k.advanced.looped d)).closeDeckFrame d (k.advanced.ends d)) := by
  unfold State.playFrame
  dsimp only
  rw [hk, Deck.looped_of_lt hpos, if_neg (Nat.not_le.mpr hpos), hstart]
  dsimp only
  rw [if_pos hin]

theorem inStore_of_lt {form : Form} {start p : Nat} (h : start * 65536 + 2 * p + 1 < 268435456) :
    inStore (extentWords form start p) = true := by
  have hword (a : Nat) (ha : a ≤ start * 65536 + 2 * p + 1) : decide (a < Config.storeWords) = true :=
    decide_eq_true (Nat.lt_of_le_of_lt ha h)
  unfold inStore
  cases form with
  | mono => exact List.all_eq_true.mpr fun a ha => hword a (by
      rw [extentWords, List.mem_singleton] at ha
      rw [ha, Config.pageWords]
      omega)
  | stereo => exact List.all_eq_true.mpr fun a ha => hword a (by
      simp only [extentWords, List.mem_cons, List.not_mem_nil, or_false, Config.pageWords] at ha
      omega)

/-- A frame event in the middle of a play: one frame, and the position and the fade advance (R60). -/
theorem State.playFrame_middle {s : State} {d : DeckId} {k : Deck} (hk : (s.rig.deck d).fadeStep d = k) {start : Nat}
    (hstart : s.rig.sourceStart k.source = some start) (hpos : k.position + 1 < k.playEnd)
    (hfade : k.state = .fading → 1 < k.fadeRemaining)
    (hsegue : ∀ p, k.seguePoint = some p → k.segueSent = true ∨ k.position + 1 < p)
    (hin : inStore (extentWords k.form start k.position) = true) :
    s.playFrame d = .next ((s.putDeck d (k.leveled (s.store.readFrame k.form start k.position))).onRig
      (·.setDeck d k.advanced)) := by
  have hends : k.advanced.ends d = false := by
    refine Deck.ends_eq_false hpos fun hstate => ?_
    have hstate : k.state = .fading := hstate
    show (if k.state = .fading then k.fadeRemaining - 1 else k.fadeRemaining) ≠ 0
    rw [if_pos hstate]
    have := hfade hstate
    omega
  have hquiet : k.advanced.seguesNow = false := Deck.seguesNow_eq_false hsegue
  rw [State.playFrame_reads hk hstart (Nat.lt_of_succ_lt hpos) hin, hends, Deck.looped_of_lt (k := k.advanced) hpos]
  unfold State.onRig
  congr 2
  exact Rig.sendSegue_of_not (by rwa [Rig.deck_setDeck, if_pos rfl])

/-! ### One side's level (R60, step 3, and R63) -/

theorem limited_range (x : Int) : -8388608 ≤ limited x ∧ limited x ≤ 8388607 := by
  unfold limited
  omega

theorem exactSample_toInt {x : Int} (hlow : -8388608 ≤ x) (hhigh : x ≤ 8388607) : (exactSample x).toInt = x := by
  rw [exactSample, BitVec.toInt_ofInt, Int.bmod_def]
  omega

/-- A fade takes a value in the sample range to one in it. -/
theorem fade_range {v : Int} (hlow : -8388608 ≤ v) (hhigh : v ≤ 8388607) {left span : Nat} (hleft : left ≤ span)
    (hspan : 0 < span) :
    -8388608 ≤ (2 * v * left + span) / (2 * (span : Int)) ∧ (2 * v * left + span) / (2 * (span : Int)) ≤ 8388607 := by
  have hl : (0 : Int) ≤ left := Int.natCast_nonneg left
  have hls : (left : Int) ≤ span := Int.ofNat_le.mpr hleft
  have hs : (0 : Int) < 2 * span := by omega
  refine ⟨(Int.le_ediv_iff_mul_le hs).mpr ?_, Int.le_of_lt_add_one ((Int.ediv_lt_iff_lt_mul hs).mpr ?_)⟩ <;> nlinarith

theorem Deck.gained_toInt (k : Deck) (x : Sample) :
    (k.gained x).toInt = limited ((x.toInt * k.gain + 8192) / 16384) := saturate_toInt _

theorem Deck.level_playing {k : Deck} (h : k.state ≠ .fading) (x : Sample) :
    (k.level x).toInt = limited ((x.toInt * k.gain + 8192) / 16384) := by
  rw [Deck.level, if_neg h, Deck.gained_toInt]

theorem Deck.level_fading {k : Deck} (h : k.state = .fading) (hleft : k.fadeRemaining ≤ k.fadeSpan)
    (hspan : 0 < k.fadeSpan) (x : Sample) : (k.level x).toInt =
      (2 * limited ((x.toInt * k.gain + 8192) / 16384) * k.fadeRemaining + k.fadeSpan) / (2 * k.fadeSpan) := by
  obtain ⟨hlow, hhigh⟩ := limited_range ((x.toInt * k.gain + 8192) / 16384)
  obtain ⟨hl, hh⟩ := fade_range hlow hhigh hleft hspan
  rw [Deck.level, if_pos h, Deck.fadedSample, Deck.gained_toInt]
  exact exactSample_toInt hl hh

/-! ### The clauses of O31 -/

theorem silenceIn_eq (form : Form) : silenceIn form = match form with
    | .mono => .mono 0
    | .stereo => .stereo 0 0 := by
  cases form <;> rfl

/-- A LOADING deck's frame ages it, and the 960th completes its prefetch (R59). -/
theorem State.deckFrame_loading_young {s : State} {d : DeckId} (h : (s.rig.deck d).state = .loading)
    (hage : (s.rig.deck d).loadAge + 1 < 960) :
    s.deckFrame d = .next ((s.putDeck d (silenceIn (s.rig.deck d).form)).onRig
      (·.setDeck d { s.rig.deck d with loadAge := (s.rig.deck d).loadAge + 1 })) := by
  rw [State.deckFrame_loading h]
  unfold State.onRig
  congr 2
  exact if_neg (Nat.not_le.mpr hage)

theorem State.deckFrame_loading_old {s : State} {d : DeckId} (h : (s.rig.deck d).state = .loading)
    (hage : 960 ≤ (s.rig.deck d).loadAge + 1) :
    s.deckFrame d = .next ((s.putDeck d (silenceIn (s.rig.deck d).form)).onRig
      fun r => (r.setDeck d { s.rig.deck d with loadAge := (s.rig.deck d).loadAge + 1 }).prefetched d) := by
  rw [State.deckFrame_loading h]
  unfold State.onRig
  congr 2
  exact if_pos hage

/-- The prefetch completion of a LOADING deck that has had a frame event. -/
theorem exec_prefetchComplete_due {s : State} {d : DeckId} (h : (s.rig.deck d).state = .loading)
    (hage : 1 ≤ (s.rig.deck d).loadAge) : exec (.prefetchComplete d) s = .next (s.onRig (·.prefetched d)) := by
  rw [exec_prefetchComplete, h, decide_eq_true hage]
  rfl

/-- The word of the alert region that deck A reads of a slot (R42). -/
theorem inStore_mono {start p : Nat} (h : start * 65536 + p < 268435456) :
    inStore (extentWords .mono start p) = true :=
  List.all_eq_true.mpr fun a ha => decide_eq_true (by
    rw [extentWords, List.mem_singleton] at ha
    rw [ha]
    exact h)

/-- The automatic fade's test, where frames are left to play (R62). -/
theorem Deck.autoFades_eq {k : Deck} (hpos : k.position < k.playEnd) (d : DeckId) :
    k.autoFades d = (isProgramDeck d && k.state == .playing &&
      decide (0 < k.fadeLength ∧ k.playEnd - k.position ≤ k.fadeLength)) := by
  rw [Bool.eq_iff_iff, Deck.autoFades_iff]
  simp only [Bool.and_eq_true, beq_iff_eq, decide_eq_true_eq]
  exact ⟨fun ⟨h1, h2, h3, _, h4⟩ => ⟨⟨h1, h2⟩, h3, h4⟩, fun ⟨⟨h1, h2⟩, h3, h4⟩ => ⟨h1, h2, h3, hpos, h4⟩⟩

/-- A deck plays with a fade in flight after step 1 of R60. -/
theorem Deck.fadeStep_fading (k : Deck) (d : DeckId) :
    (k.fadeStep d).state = .fading ↔ (k.autoFades d || k.state == .fading) = true := by
  rw [Deck.fadeStep_eq]
  by_cases h : k.autoFades d = true <;> simp [h]

/-- An audible deck after a frame that does not end it (R60, steps 1 to 4). -/
theorem Deck.fadeStep_advanced {k : Deck} {d : DeckId} (h : k.state = .playing ∨ k.state = .fading) :
    (k.fadeStep d).advanced = { k with
      state := if (k.autoFades d || k.state == .fading) = true then .fading else .playing
      position := k.position + 1
      fadeSpan := if k.autoFades d = true then k.playEnd - k.position else k.fadeSpan
      fadeRemaining := if (k.autoFades d || k.state == .fading) = true then
        (if k.autoFades d = true then k.playEnd - k.position else k.fadeRemaining) - 1
        else if k.autoFades d = true then k.playEnd - k.position else k.fadeRemaining } := by
  have hfading := k.fadeStep_fading d
  have hstate : (k.fadeStep d).state =
      if (k.autoFades d || k.state == .fading) = true then .fading else .playing := by
    split
    · exact hfading.mpr ‹_›
    · rename_i hno
      rw [Bool.or_eq_true, not_or, Bool.not_eq_true] at hno
      rw [Deck.fadeStep_of_not hno.1]
      exact h.resolve_right fun hf => hno.2 (beq_iff_eq.mpr hf)
  unfold Deck.advanced
  simp only [hstate]
  simp only [Deck.fadeStep_eq]
  by_cases hf : (k.autoFades d || k.state == .fading) = true <;> simp [hf]

/-- Settles O31: the frame event by the deck's state, the read at its position and one side's level. -/
theorem deckFramePlaysOneFrameOrSilence : Obligations.DeckFramePlaysOneFrameOrSilence := by
  refine ⟨fun s d => ⟨fun h => ?_, fun h hage => ?_, fun h hage => ?_⟩, fun s d c => ?_, fun s i => ?_⟩
  · rw [exec_deckFrame, State.deckFrame_rests h, silenceIn_eq]
    rfl
  · rw [exec_deckFrame, State.deckFrame_loading_young h hage, silenceIn_eq]
    rfl
  · have hdeck : (s.onRig (·.setDeck d { s.rig.deck d with loadAge := (s.rig.deck d).loadAge + 1 })).rig.deck d =
        { s.rig.deck d with loadAge := (s.rig.deck d).loadAge + 1 } := by
      refine (Rig.deck_setDeck s.rig d d _).trans (if_pos rfl)
    refine ⟨_, exec_prefetchComplete_due (by rw [hdeck]; exact h) (by rw [hdeck]; exact Nat.le_add_left _ _), ?_⟩
    rw [exec_deckFrame, State.deckFrame_loading_old h hage, silenceIn_eq]
    rfl
  · intro k starts span left fading level base haudible hsource hpos hfade hsegue hword
    have hlt : k.position < k.playEnd := Nat.lt_of_succ_lt hpos
    have hstarts : k.autoFades d = starts := Deck.autoFades_eq hlt d
    have hfading : (k.fadeStep d).state = .fading ↔ fading = true := by
      rw [Deck.fadeStep_fading, hstarts]
    have hspan : (k.fadeStep d).fadeSpan = span := by rw [Deck.fadeStep_eq, hstarts]
    have hleft : (k.fadeStep d).fadeRemaining = left := by rw [Deck.fadeStep_eq, hstarts]
    have hlevel (x : Sample) : ((k.fadeStep d).level x).toInt = level x := by
      have hgain : (k.fadeStep d).gain = k.gain := by rw [Deck.fadeStep_eq]
      by_cases hf : fading = true
      · obtain ⟨hone, hle⟩ := hfade hf
        rw [Deck.level_fading (hfading.mpr hf) (by rw [hleft, hspan]; exact hle) (by rw [hspan]; omega), hgain, hspan,
          hleft]
        exact (if_pos hf).symm
      · rw [Deck.level_playing (mt hfading.mp hf), hgain]
        exact (if_neg hf).symm
    have hplay := State.playFrame_middle (s := s) (d := d) (k := k.fadeStep d) rfl (start := (s.rig.cart c).start)
      (by rw [Deck.fadeStep_eq, hsource]; rfl) (by rw [Deck.fadeStep_eq]; exact hpos)
      (fun hf => by rw [hleft]; exact (hfade (hfading.mp hf)).1) (by rw [Deck.fadeStep_eq]; exact hsegue)
      (by rw [Deck.fadeStep_eq]; exact inStore_of_lt hword)
    have hframe : exec (.deckFrame d) s = s.playFrame d := by
      rw [exec_deckFrame, State.deckFrame_audible]
      rcases haudible with h | h <;> (unfold Deck.audible; rw [h]; rfl)
    refine ⟨_, (k.fadeStep d).leveled (s.store.readFrame (k.fadeStep d).form (s.rig.cart c).start
      (k.fadeStep d).position), hframe.trans hplay, ?_, ?_, fun h => ?_⟩
    · have hform : (k.fadeStep d).form = k.form := by rw [Deck.fadeStep_eq]
      have hposition : (k.fadeStep d).position = k.position := by rw [Deck.fadeStep_eq]
      rw [hform, hposition]
      cases k.form with
      | mono => exact hlevel _
      | stereo => exact ⟨hlevel _, hlevel _⟩
    · rw [Deck.fadeStep_advanced haudible, hstarts]
      rfl
    · rw [exec_autoFadeStart, whenDue_due _ _ (hstarts.trans h), ← exec_deckFrame]
      exact hframe.trans hplay
  · intro k word hplays hsource hform hpos hsegue hword
    have hquiet : k.autoFades deckA = false := rfl
    have hstep : k.fadeStep deckA = k := Deck.fadeStep_of_not hquiet
    have hstate : k.state ≠ .fading := by rw [hplays]; nofun
    have hplay := State.playFrame_middle (s := s) (d := deckA) (k := k) hstep (start := s.rig.library.slotStart i)
      (by rw [hsource]; rfl) hpos (fun hf => absurd hf hstate) hsegue (by rw [hform]; exact inStore_mono hword)
    have hframe : exec (.deckFrame deckA) s = s.playFrame deckA := by
      rw [exec_deckFrame, State.deckFrame_audible]
      unfold Deck.audible
      rw [show (s.rig.deck deckA).state = .playing from hplays]
      rfl
    refine ⟨_, Deck.level_playing hstate (s.store.read word), ?_⟩
    have hread : k.leveled (s.store.readFrame k.form (s.rig.library.slotStart i) k.position) =
        .mono (k.level (s.store.read word)) := by
      rw [hform]
      rfl
    have hadvanced : k.advanced = { k with position := k.position + 1 } := by rw [Deck.advanced, if_neg hstate]
    rw [hframe, hplay, hread, hadvanced]
    rfl

end Sys2Proof.Machine
end

section
/-!
SUPPORT and the statement O33: the end of a deck's frame event and its segue event (R60, R61, R66, R81).
-/

namespace Sys2Proof.Machine

theorem exec_segueEvent (d : DeckId) (s : State) : exec (.segueEvent d) s =
    whenDue ((s.rig.deck d).audible &&
      ({ s.rig.deck d with position := (s.rig.deck d).nextPosition } : Deck).seguesNow) s
    fun s => s.deckFrame d := rfl

theorem exec_playEnd (d : DeckId) (s : State) : exec (.playEnd d) s =
    whenDue ((s.rig.deck d).audible && (s.rig.deck d).playEnd ≤ (s.rig.deck d).nextPosition) s
    fun s => s.deckFrame d := rfl

theorem exec_fadeEnd (d : DeckId) (s : State) : exec (.fadeEnd d) s =
    whenDue ((s.rig.deck d).fadeStep d |> fun k =>
      k.state == .fading && k.position < k.playEnd && k.fadeRemaining ≤ 1) s
    fun s => s.deckFrame d := rfl

theorem Deck.audible_iff (k : Deck) : k.audible = true ↔ k.state = .playing ∨ k.state = .fading := by
  simp [Deck.audible]

/-! ### The frame that the deck reads, and what follows it -/

/-- A frame event with frames left: one frame, the deck advanced, and the end of the event (R60). -/
theorem State.deckFrame_reads {s : State} {d : DeckId} {k : Deck} (hk : (s.rig.deck d).fadeStep d = k)
    (haudible : (s.rig.deck d).audible = true) (hpos : k.position < k.playEnd)
    (hin : ∀ start, s.rig.sourceStart k.source = some start →
      inStore (extentWords k.form start k.position) = true) :
    ∃ x, s.deckFrame d = .next ((s.putDeck d x).onRig fun r =>
      (r.setDeck d (k.advanced.looped d)).closeDeckFrame d (k.advanced.ends d)) := by
  rw [State.deckFrame_audible haudible]
  cases hstart : s.rig.sourceStart k.source with
  | some start => exact ⟨_, State.playFrame_reads hk hstart hpos (hin start hstart)⟩
  | none =>
    refine ⟨silenceIn k.form, ?_⟩
    unfold State.playFrame
    dsimp only
    rw [hk, Deck.looped_of_lt hpos, if_neg (Nat.not_le.mpr hpos), hstart]

/-- A cart whose next frame stands in the store. -/
theorem State.cart_inStore {s : State} {k : Deck} {c : CartId} (hsource : k.source = .cart c)
    (hword : (s.rig.cart c).start * 65536 + 2 * k.position + 1 < 268435456) (start : Nat)
    (hstart : s.rig.sourceStart k.source = some start) : inStore (extentWords k.form start k.position) = true := by
  rw [hsource] at hstart
  cases hstart
  exact inStore_of_lt hword

/-- A frame event with no frame left: silence, and the deck is at its end (R60). -/
theorem State.deckFrame_past {s : State} {d : DeckId} (hd : d ≠ deckF) (haudible : (s.rig.deck d).audible = true)
    (hpos : (s.rig.deck d).playEnd ≤ (s.rig.deck d).position) :
    s.deckFrame d = .next ((s.putDeck d (silenceIn (s.rig.deck d).form)).onRig fun r =>
      (r.setDeck d (s.rig.deck d)).closeDeckFrame d true) := by
  have hquiet : (s.rig.deck d).autoFades d = false := by
    rw [← Bool.not_eq_true, Deck.autoFades_iff]
    exact fun h => Nat.not_le.mpr h.2.2.2.1 hpos
  rw [State.deckFrame_audible haudible]
  unfold State.playFrame
  dsimp only
  rw [Deck.fadeStep_of_not hquiet, Deck.looped_of_ne hd, if_pos hpos, bne_iff_ne.mpr hd]

theorem Deck.seguesNow_iff (k : Deck) :
    k.seguesNow = true ↔ k.segueSent = false ∧ ∃ q, k.seguePoint = some q ∧ q ≤ k.position := by
  unfold Deck.seguesNow
  cases k.seguePoint <;> simp

/-! ### The segue event (R61, R81) -/

theorem Rig.setDeck_setDeck (r : Rig) (d : DeckId) (x y : Deck) : (r.setDeck d x).setDeck d y = r.setDeck d y := by
  unfold Rig.setDeck
  simp only [vset_twice]

theorem Rig.deck_setDeck_self (r : Rig) (d : DeckId) (x : Deck) : (r.setDeck d x).deck d = x :=
  (Rig.deck_setDeck r d d x).trans (if_pos rfl)

theorem Rig.updateEntry_eq (r : Rig) (tag : Nat) (f : Entry → Entry) :
    r.updateEntry tag f = r.setEntries (r.order.entries.map fun x => if x.tag = tag then f x else x) := by
  simp only [Rig.updateEntry, beq_iff_eq]

/-- The segue-passed flag of the entry with a tag set (R81). -/
def Rig.seguePassed (r : Rig) (tag : Nat) : Rig :=
  r.setEntries (r.order.entries.map fun x : Entry => if x.tag = tag then { x with seguePassed := true } else x)

theorem Rig.segueEvent_eq (r : Rig) (tag : Nat) : r.segueEvent tag = (r.seguePassed tag).settle := by
  rw [Rig.segueEvent, Rig.updateEntry_eq]
  rfl

/-- A deck at its segue point sends its segue event once. -/
theorem Rig.sendSegue_due (r : Rig) {d : DeckId} {k : Deck} (h : k.seguesNow = true) :
    (r.setDeck d k).sendSegue d =
      ((r.setDeck d { k with segueSent := true }).seguePassed k.entryTag).settle := by
  rw [Rig.sendSegue, Rig.deck_setDeck_self, if_pos h, Rig.setDeck_setDeck, Rig.segueEvent_eq]

theorem Rig.sendSegue_not_due (r : Rig) {d : DeckId} {k : Deck} (h : k.seguesNow = false) :
    (r.setDeck d k).sendSegue d = r.setDeck d k :=
  Rig.sendSegue_of_not (by rwa [Rig.deck_setDeck_self])

/-! ### A deck that ends at its frame event (R66) -/

/-- DONE with the cause PLAYED (R66). -/
def Deck.done (k : Deck) : Deck := { k with state := .done, endCause := some .played }

/-- The rig with the report ENDED of deck `d`. -/
def Rig.endTold (r : Rig) (d : DeckId) (source : DeckSource) : Rig :=
  { r with egress := r.egress.report (.deckEnded d source .played) }

theorem Rig.finishDeck_set (r : Rig) (d : DeckId) (k : Deck) :
    (r.setDeck d k).finishDeck d .played = (r.endTold d k.source).setDeck d k.done := by
  rw [Rig.finishDeck, Rig.deck_setDeck_self, Rig.setDeck_setDeck]
  rfl

/-- The end of a program deck's frame event at which it reaches DONE: ENDED, the segue event, and then the release with
what the running order settles (R60, R61, R66, R85). -/
theorem Rig.closeDeckFrame_done (r : Rig) {d : DeckId} (hd : isProgramDeck d = true) (k : Deck) :
    (r.setDeck d k).closeDeckFrame d true =
      ((((r.endTold d k.source).setDeck d k.done).sendSegue d).releaseDeck d).settle := by
  rw [Rig.closeDeckFrame, if_pos rfl, Rig.finishDeck_set, Rig.afterDone, if_pos hd]

/-! ### Fades that run and end -/

/-- With no fade to begin, step 1 of R60 changes nothing. -/
theorem Deck.fadeStep_plain {k : Deck} (h : k.state = .playing ∧ k.fadeLength = 0 ∨ k.state = .fading) (d : DeckId) :
    k.fadeStep d = k := by
  refine Deck.fadeStep_of_not ?_
  rw [← Bool.not_eq_true, Deck.autoFades_iff]
  rintro ⟨-, hplays, hlength, -⟩
  rcases h with ⟨-, hzero⟩ | hfading
  · exact Nat.lt_irrefl 0 (hzero ▸ hlength)
  · rw [hfading] at hplays
    cases hplays

theorem Deck.nextPosition_of_lt {k : Deck} (h : k.position < k.playEnd) : k.nextPosition = k.position + 1 :=
  if_neg (Nat.not_le.mpr h)

theorem program_ne_deckF {d : DeckId} (h : d.val < 4) : d ≠ deckF := fun hd => absurd (hd ▸ h) (by decide)

theorem program_isProgramDeck {d : DeckId} (h : d.val < 4) : isProgramDeck d = true := decide_eq_true h

/-- SEGUE_EVENT is the whole frame event when it is due (R61). -/
theorem exec_segueEvent_due {s : State} {d : DeckId} (haudible : (s.rig.deck d).audible = true)
    (hdue : ({ s.rig.deck d with position := (s.rig.deck d).nextPosition } : Deck).seguesNow = true) :
    exec (.segueEvent d) s = s.deckFrame d := by
  rw [exec_segueEvent, whenDue_due _ _ (Bool.and_eq_true_iff.mpr ⟨haudible, hdue⟩)]

/-- A deck that has sent its segue event has none (R61). -/
theorem exec_segueEvent_sent {s : State} {d : DeckId} (hsent : (s.rig.deck d).segueSent = true) :
    exec (.segueEvent d) s = .next s := by
  rw [exec_segueEvent, whenDue_not]
  exact Bool.and_eq_false_imp.mpr fun _ => Deck.seguesNow_eq_false fun _ _ => .inl hsent

/-- PLAY_END is the whole frame event at which the play end is reached (R60). -/
theorem exec_playEnd_due {s : State} {d : DeckId} (haudible : (s.rig.deck d).audible = true)
    (hend : (s.rig.deck d).playEnd ≤ (s.rig.deck d).nextPosition) : exec (.playEnd d) s = s.deckFrame d := by
  rw [exec_playEnd, whenDue_due _ _ (Bool.and_eq_true_iff.mpr ⟨haudible, decide_eq_true hend⟩)]

/-- A frame of a fade or of a play with no fade length, short of its end (R60). -/
theorem State.deckFrame_runs {s : State} {d : DeckId} {c : CartId} (hsource : (s.rig.deck d).source = .cart c)
    (hword : (s.rig.cart c).start * 65536 + 2 * (s.rig.deck d).position + 1 < 268435456)
    (hruns : (s.rig.deck d).state = .playing ∧ (s.rig.deck d).fadeLength = 0 ∨
      (s.rig.deck d).state = .fading ∧ 1 < (s.rig.deck d).fadeRemaining)
    (hpos : (s.rig.deck d).position + 1 < (s.rig.deck d).playEnd) :
    ∃ x, s.deckFrame d = .next ((s.putDeck d x).onRig fun r =>
      (r.setDeck d (s.rig.deck d).advanced).sendSegue d) := by
  have hends : (s.rig.deck d).advanced.ends d = false := by
    refine Deck.ends_eq_false hpos fun hf => ?_
    have hf : (s.rig.deck d).state = .fading := hf
    have hone : 1 < (s.rig.deck d).fadeRemaining := by
      rcases hruns with ⟨hplays, -⟩ | ⟨-, hone⟩
      · rw [hf] at hplays
        cases hplays
      · exact hone
    show (if (s.rig.deck d).state = .fading then (s.rig.deck d).fadeRemaining - 1 else _) ≠ 0
    rw [if_pos hf]
    omega
  obtain ⟨x, hframe⟩ := State.deckFrame_reads (Deck.fadeStep_plain (hruns.imp_right And.left) d)
    ((Deck.audible_iff _).mpr (hruns.imp And.left And.left)) (Nat.lt_of_succ_lt hpos) (State.cart_inStore hsource hword)
  rw [hends, Deck.looped_of_lt (k := (s.rig.deck d).advanced) hpos] at hframe
  exact ⟨x, hframe⟩

/-- Settles O33: the event is the whole frame event when the segue event is due, and the end of the frame event sends it
once. -/
theorem segueEventIsSentOnceAtTheSeguePoint : Obligations.SegueEventIsSentOnceAtTheSeguePoint := by
  intro s d c k passed hd hsource hword
  refine ⟨?_, ?_⟩
  · intro hruns hpos next
    have haudible : k.audible = true := k.audible_iff.mpr (hruns.imp And.left And.left)
    obtain ⟨x, hframe⟩ := State.deckFrame_runs hsource hword hruns hpos
    refine ⟨fun hsent hpoint => ?_, fun hsent => ?_⟩
    · have hdue (n : Nat) (hn : k.position + 1 ≤ n) : ({ k with position := n } : Deck).seguesNow = true :=
        (Deck.seguesNow_iff _).mpr ⟨hsent, _, hpoint, hn⟩
      refine ⟨_, (exec_segueEvent_due haudible ?_).trans hframe, ?_⟩
      · exact hdue _ (Nat.le_of_eq (Deck.nextPosition_of_lt (Nat.lt_of_succ_lt hpos)).symm)
      · exact Rig.sendSegue_due s.rig (k := next) (hdue (k.position + 1) (Nat.le_refl _))
    · have hquiet : next.seguesNow = false := Deck.seguesNow_eq_false fun _ _ => .inl hsent
      exact ⟨exec_segueEvent_sent hsent, _, hframe, Rig.sendSegue_not_due s.rig hquiet⟩
  · intro hplays hlength hpos hsent hpoint done
    have hlt : k.position < k.playEnd := hpos ▸ Nat.lt_succ_self _
    have haudible : k.audible = true := k.audible_iff.mpr (.inl hplays)
    have hends : k.advanced.ends d = true := by
      have hstate : k.advanced.state = .playing := hplays
      have hend : k.advanced.playEnd ≤ k.advanced.position := Nat.le_of_eq hpos.symm
      simp [Deck.ends, hstate, hend, program_ne_deckF hd]
    obtain ⟨x, hframe⟩ := State.deckFrame_reads (Deck.fadeStep_plain (.inl ⟨hplays, hlength⟩) d) haudible
      hlt (State.cart_inStore hsource hword)
    rw [hends, Deck.looped_of_ne (program_ne_deckF hd)] at hframe
    have hnext : k.nextPosition = k.playEnd := (Deck.nextPosition_of_lt hlt).trans hpos
    have hdue (n : Nat) (hn : k.playEnd ≤ n) : ({ k with position := n } : Deck).seguesNow = true :=
      (Deck.seguesNow_iff _).mpr ⟨hsent, _, hpoint, hn⟩
    refine ⟨_, (exec_segueEvent_due haudible ?_).trans hframe,
      (exec_playEnd_due haudible (Nat.le_of_eq hnext.symm)).trans hframe, ?_⟩
    · exact hdue _ (Nat.le_of_eq hnext.symm)
    · have hdone : { k.advanced.done with segueSent := true } = done := by
        simp [Deck.done, Deck.advanced, done, hplays, hpos]
      have hclose := Rig.closeDeckFrame_done s.rig (program_isProgramDeck hd) k.advanced
      rw [Rig.sendSegue_due _ (k := k.advanced.done) (hdue (k.position + 1) (Nat.le_of_eq hpos.symm)), hdone] at hclose
      exact hclose

end Sys2Proof.Machine
end

section
/-!
SUPPORT. What the running order's operations make of the rig, as formulas (R65 to R67, R79, R80), and what the settling
leaves of a deck.
-/

namespace Sys2Proof.Machine

/-! ### A program deck that ends (R65, R66, R85) -/

/-- The rig after deck `o` is cut and releases. -/
def Rig.cutOff (r : Rig) (o : DeckId) : Rig :=
  { r with
    egress := r.cutTold r.egress o
    decks := { r.decks with decks := r.decksCut o }
    order := { r.order with entries := r.entriesCut o } }

theorem Rig.releaseDeck_eq (r : Rig) (d : DeckId) : r.releaseDeck d = { r with
    egress := r.egress.report (if (r.deck d).endCause = some .cut then .entryCut (r.deck d).entryTag d
      else .entryPlayed (r.deck d).entryTag d)
    decks := { r.decks with decks := vset r.decks.decks d (r.deck d).emptied }
    order := { r.order with entries := withoutTag r.order.entries (r.deck d).entryTag } } := by
  unfold Rig.releaseDeck
  dsimp only
  split
  · rw [if_pos ‹_›]
    rfl
  · rw [if_neg ‹_›]
    rfl

theorem Rig.finishDeck_deck (r : Rig) (d : DeckId) (c : EndCause) :
    (r.finishDeck d c).deck d = { r.deck d with state := .done, endCause := some c } :=
  Rig.deck_setDeck_self r d _

theorem Rig.endDeck_cut (r : Rig) {o : DeckId} (ho : isProgramDeck o = true) : r.endDeck o .cut = r.cutOff o := by
  rw [Rig.endDeck, if_pos ho, Rig.releaseDeck_eq, Rig.finishDeck_deck]
  simp only [Rig.finishDeck, Rig.setDeck, Rig.report, vset_twice]
  rfl

/-! ### The audible rule (R67) -/

theorem Rig.audibleRule_few {r : Rig} (h : (programDecks.filter fun d => (r.deck d).audible).length < 2) :
    r.audibleRule = r := if_pos h

/-- The deck that `cutFirst` names is the one with the smallest audible order. -/
theorem Rig.oldestAudible_of_cutFirst {r : Rig} {o : DeckId} (h : r.cutFirst o) : r.oldestAudible = some o := by
  obtain ⟨-, ho, haudible, holdest⟩ := h
  rw [Rig.oldestAudible_eq]
  refine foldl_pickBest_eq ((r.mem_audibleDecks o).mpr ⟨program_isProgramDeck ho, haudible⟩) fun y hy hyo => ?_
  obtain ⟨hprogram, hya⟩ := (r.mem_audibleDecks y).mp hy
  have hgreater := holdest y (of_decide_eq_true hprogram) hyo hya
  exact ⟨hgreater, serialGreater_asymm hgreater⟩

theorem Rig.audibleRule_cut {r : Rig} {o : DeckId} (h : r.cutFirst o) : r.audibleRule = r.cutOff o := by
  rw [Rig.audibleRule, if_neg (Nat.not_lt.mpr h.1), Rig.oldestAudible_of_cutFirst h]
  exact r.endDeck_cut (program_isProgramDeck h.2.1)

/-- A deck other than the one cut is as it stood. -/
theorem Rig.cutOff_deck (r : Rig) {o d : DeckId} (h : d ≠ o) : (r.cutOff o).deck d = r.deck d :=
  vset_other _ _ _ _ (Ne.symm h)

/-! ### A start (R80) -/

theorem Rig.startEntry_eq (r : Rig) {x : Entry} {d : DeckId} (hx : x.deck = some d) (hd : isProgramDeck d = true)
    (cause : StartCause) : r.startEntry x cause = r.audibleRule.begun r.audibleRule.egress r.audibleRule.decks.decks
      r.audibleRule.order.entries x d cause := by
  unfold Rig.startEntry
  rw [hx]
  dsimp only
  unfold Rig.startDeck
  rw [if_pos hd, Rig.updateEntry_eq]
  rfl

theorem Rig.startEntry_few {r : Rig} {x : Entry} {d : DeckId} (hx : x.deck = some d) (hd : isProgramDeck d = true)
    (cause : StartCause) (hfew : (programDecks.filter fun d => (r.deck d).audible).length < 2) :
    r.startEntry x cause = r.begun r.egress r.decks.decks r.order.entries x d cause := by
  rw [Rig.startEntry_eq r hx hd, Rig.audibleRule_few hfew]

theorem Rig.startEntry_cut {r : Rig} {x : Entry} {d o : DeckId} (hx : x.deck = some d) (hd : isProgramDeck d = true)
    (cause : StartCause) (ho : r.cutFirst o) (hne : d ≠ o) :
    r.startEntry x cause = r.begun (r.cutTold r.egress o) (r.decksCut o) (r.entriesCut o) x d cause := by
  rw [Rig.startEntry_eq r hx hd, Rig.audibleRule_cut ho]
  unfold Rig.begun
  rw [Rig.cutOff_deck r hne]
  rfl

/-- A deck that can be started is not the one that the audible rule cuts. -/
theorem Rig.cutFirst_ne {r : Rig} {o d : DeckId} (ho : r.cutFirst o) (hd : (r.deck d).audible = false) : d ≠ o := by
  rintro rfl
  exact Bool.false_ne_true (hd.symm.trans ho.2.2.1)

theorem Deck.not_audible_of_cued {k : Deck} (h : k.state = .cued) : k.audible = false := by
  rw [Deck.audible, h]
  rfl

theorem StartMode.cause_eq {m : StartMode} : m.cause = if m = .timed then StartCause.timed else .segue := by
  cases m <;> rfl

/-! ### What can start (R79, R84) -/

theorem Rig.deferred_iff (r : Rig) : r.deferred = true ↔ r.heldBack := by
  unfold Rig.deferred Rig.anyPausedForAlert Rig.heldBack
  rw [Bool.or_eq_true, List.any_eq_true]
  refine or_congr_right (exists_congr fun d => and_congr_left' ?_)
  rw [mem_programDecks_iff]
  exact decide_eq_true_iff

theorem Rig.startable_iff (r : Rig) (x : Entry) : r.startable = some x ↔ r.deferred = false ∧
    firstNonAiring r.order.entries = some x ∧ x.state = .assigned ∧ dueIn r.order.entries x = true ∧
      ∃ d, x.deck = some d ∧ (r.deck d).state = .cued := by
  refine ⟨fun h => ?_, fun ⟨hdeferred, hfirst, hstate, hdue, d, hd, hcued⟩ => ?_⟩
  · unfold Rig.startable at h
    split at h
    · cases h
    · rename_i hdeferred
      split at h
      · cases h
      · rename_i e hfirst
        split at h
        · cases h
        · rename_i d hd
          split at h
          · rename_i hcan
            cases h
            obtain ⟨⟨hstate, hcued⟩, hdue⟩ : ((x.state == .assigned) = true ∧ ((r.deck d).state == .cued) = true) ∧
                dueIn r.order.entries x = true := by simpa using hcan
            exact ⟨Bool.not_eq_true _ ▸ hdeferred, hfirst, beq_iff_eq.mp hstate, hdue, d, hd, beq_iff_eq.mp hcued⟩
          · cases h
  · unfold Rig.startable
    rw [hdeferred, hfirst]
    dsimp only
    rw [hd]
    simp [hstate, hcued, hdue]

/-- With no pending skip and no entry that can start, the settling arranges alone (R84). -/
theorem Rig.settle_eq_arrange {r : Rig} (hskip : r.makeSkip = r) (hstart : r.startable = none) :
    r.settle = r.arrange := by
  unfold Rig.settle
  rw [hskip]
  unfold Rig.startDue
  rw [hstart]

theorem Rig.makeSkip_deferred {r : Rig} (h : r.deferred = true) : r.makeSkip = r := if_pos h

theorem Rig.makeSkip_none {r : Rig} (h : ∀ y ∈ r.order.entries, y.skipPending = false) : r.makeSkip = r := by
  have hnil : (r.order.entries.filter fun e => e.skipPending) = [] :=
    List.filter_eq_nil_iff.mpr fun y hy => Bool.not_eq_true _ ▸ h y hy
  unfold Rig.makeSkip
  rw [hnil]
  exact ite_self r

/-! ### A property that the settling keeps -/

/-- What an assignment and a displacement keep, the arranging keeps (R77, R78). -/
theorem Rig.arrange_kept {P : Rig → Prop} (assign : ∀ {r r' : Rig}, P r → r.assignOne = some r' → P r')
    (displace : ∀ {r : Rig} {e : Entry}, P r → e ∈ r.order.entries → e.state = .assigned → P (r.displace e))
    {r : Rig} (hr : P r) : P r.arrange := by
  unfold Rig.arrange
  generalize 192 = n
  induction n generalizing r with
  | zero => exact hr
  | succ n ih =>
    unfold Rig.arrangeFor
    split
    · exact ih (assign hr ‹_›)
    · split
      · split
        · obtain ⟨hmem, hassigned⟩ := getLast?_assigned ‹_›
          exact ih (displace hr hmem hassigned)
        · exact hr
      · exact hr

/-- What each step of the settling keeps, the settling keeps: an assignment, a displacement, a skip and a start. -/
structure Rig.KeptBySettling (P : Rig → Prop) : Prop where
  assign : ∀ {r r' : Rig}, P r → r.assignOne = some r' → P r'
  displace : ∀ {r : Rig} {e : Entry}, P r → e ∈ r.order.entries → e.state = .assigned → P (r.displace e)
  skip : ∀ {r : Rig} {e : Entry}, P r → e ∈ r.order.entries → P (r.skipTo e)
  start : ∀ {r : Rig} {e : Entry} {cause : StartCause}, P r → r.startable = some e → P (r.startEntry e cause)

theorem Rig.KeptBySettling.arrange {P : Rig → Prop} (h : Rig.KeptBySettling P) {r : Rig} (hr : P r) : P r.arrange :=
  Rig.arrange_kept h.assign h.displace hr

theorem Rig.KeptBySettling.settle {P : Rig → Prop} (h : Rig.KeptBySettling P) {r : Rig} (hr : P r) : P r.settle := by
  have skipped : P r.makeSkip := by
    unfold Rig.makeSkip
    split
    · exact hr
    · split
      · rename_i e he
        exact h.skip hr (List.mem_of_mem_filter (List.mem_of_getLast? he))
      · exact hr
  have started (n : Nat) {r : Rig} (hr : P r) : P (r.startDue n) := by
    induction n generalizing r with
    | zero => exact hr
    | succ n ih =>
      unfold Rig.startDue
      split
      · exact ih (h.arrange (h.start hr ‹_›))
      · exact hr
  exact h.arrange (started 65 skipped)

end Sys2Proof.Machine
end

section
/-!
SUPPORT. What the settling leaves of a deck that is not on air.
-/

namespace Sys2Proof.Machine

/-! ### One deck through the steps of the settling -/

theorem Rig.unloadDeck_deck (r : Rig) (b d : DeckId) :
    (r.unloadDeck b).deck d = if b = d then (r.deck b).emptied else r.deck d := Rig.deck_setDeck r b d _

/-- The decks of ASSIGNED entries are unloaded, and no other (R83, R88, R89). -/
theorem Rig.unloadEntries_deck (r : Rig) (es : List Entry) (d : DeckId) : (r.unloadEntries es).deck d =
    if ∃ y ∈ es, y.state = EntryState.assigned ∧ y.deck = some d then (r.deck d).emptied else r.deck d := by
  induction es generalizing r with
  | nil => simp [Rig.unloadEntries]
  | cons e es ih =>
    have hrest : (∃ y ∈ e :: es, y.state = EntryState.assigned ∧ y.deck = some d) ↔
        (e.state = .assigned ∧ e.deck = some d) ∨ ∃ y ∈ es, y.state = EntryState.assigned ∧ y.deck = some d := by
      simp
    have hskip (h : ¬ (e.state = .assigned ∧ e.deck = some d)) : (r.unloadEntries es).deck d =
        if ∃ y ∈ e :: es, y.state = EntryState.assigned ∧ y.deck = some d then (r.deck d).emptied else r.deck d := by
      rw [ih]
      simp only [hrest, h, false_or]
    unfold Rig.unloadEntries
    split
    · rename_i b hb
      split
      · rename_i hassigned
        by_cases hbd : b = d
        · subst hbd
          rw [ih, Rig.unloadDeck_deck, if_pos rfl, if_pos (hrest.mpr (.inl ⟨beq_iff_eq.mp hassigned, hb⟩))]
          exact ite_self _
        · rw [ih, Rig.unloadDeck_deck, if_neg hbd]
          simp only [hrest, hb, Option.some.injEq, hbd, and_false, false_or]
      · rename_i hassigned
        exact hskip fun h => hassigned (beq_iff_eq.mpr h.1)
    · rename_i hnone
      exact hskip fun h => by rw [hnone] at h; cases h.2

theorem Rig.fadeDeck_deck_other (r : Rig) {b d : DeckId} (hb : isProgramDeck b = true) (h : b ≠ d) (frames : Nat) :
    (r.fadeDeck b frames).deck d = r.deck d := by
  unfold Rig.fadeDeck
  dsimp only
  split
  · rfl
  · split
    · rw [Rig.endDeck_deck r hb, if_neg h]
    · exact (Rig.deck_setDeck r b d _).trans (if_neg h)

/-- A fade of the decks on air leaves every other deck (R83). -/
theorem Rig.fadeAudible_deck {r : Rig} {d : DeckId} (h : (r.deck d).audible = false) (frames : Nat) {ds : List DeckId}
    (hds : ∀ b ∈ ds, isProgramDeck b = true) : (r.fadeAudible frames ds).deck d = r.deck d := by
  induction ds generalizing r with
  | nil => rfl
  | cons b ds ih =>
    unfold Rig.fadeAudible
    have hstep : (if (r.deck b).audible then r.fadeDeck b frames else r).deck d = r.deck d := by
      split
      · rename_i hb
        refine r.fadeDeck_deck_other (hds b List.mem_cons_self) ?_ frames
        rintro rfl
        exact Bool.false_ne_true (h.symm.trans hb)
      · rfl
    rw [ih (by rwa [hstep]) fun x hx => hds x (List.mem_cons_of_mem _ hx), hstep]

/-- The entries that a skip passes over: those before the skip's own that are not AIRING (R83). -/
def Rig.passedOver (r : Rig) (e : Entry) : List Entry :=
  (r.order.entries.takeWhile fun x => x.tag != e.tag).filter fun x => x.state != .airing

/-- The list that a skip leaves (R83). -/
def Rig.leftBySkip (r : Rig) (e : Entry) : List Entry :=
  ((r.order.entries.takeWhile fun x => x.tag != e.tag).filter fun x => x.state == .airing) ++
    r.order.entries.dropWhile fun x => x.tag != e.tag

/-- The rig when a skip has taken its entries from the list, before the fades (R83). -/
def Rig.skipTaken (r : Rig) (e : Entry) : Rig :=
  ((r.unloadEntries (r.passedOver e)).setEntries (r.leftBySkip e)).reports
    ((r.passedOver e).map fun x => .entrySkipped x.tag)

theorem Rig.skipTo_eq (r : Rig) (e : Entry) : r.skipTo e =
    ((r.skipTaken e).fadeAudible 24000 programDecks).updateEntry e.tag fun x => { x with skipPending := false } := rfl

theorem Rig.updateEntry_deck (r : Rig) (tag : Nat) (f : Entry → Entry) (d : DeckId) :
    (r.updateEntry tag f).deck d = r.deck d := rfl

theorem Rig.reports_deck (r : Rig) (ms : List Report) (d : DeckId) : (r.reports ms).deck d = r.deck d := by
  rw [Rig.reports_eq]
  rfl

theorem Rig.skipTaken_deck (r : Rig) (e : Entry) (d : DeckId) : (r.skipTaken e).deck d =
    if ∃ y ∈ r.passedOver e, y.state = EntryState.assigned ∧ y.deck = some d then (r.deck d).emptied else r.deck d :=
  (Rig.reports_deck _ _ d).trans (r.unloadEntries_deck (r.passedOver e) d)

theorem Rig.skipTo_deck {r : Rig} {d : DeckId} (h : (r.deck d).audible = false) (e : Entry) : (r.skipTo e).deck d =
    if ∃ y ∈ r.passedOver e, y.state = EntryState.assigned ∧ y.deck = some d then (r.deck d).emptied else r.deck d := by
  have hquiet : ((r.skipTaken e).deck d).audible = false := by
    rw [Rig.skipTaken_deck]
    split
    · rfl
    · exact h
  have faded := Rig.fadeAudible_deck hquiet 24000 (ds := programDecks) fun b hb => mem_programDecks hb
  rw [Rig.skipTo_eq, Rig.updateEntry_deck, faded, Rig.skipTaken_deck]

theorem Rig.audibleRule_oldest {r : Rig} {o : DeckId} (htwo : ¬ r.onAir < 2) (ho : r.oldestAudible = some o) :
    r.audibleRule = r.endDeck o .cut := by
  rw [Rig.audibleRule, if_neg (show ¬ (programDecks.filter fun d => (r.deck d).audible).length < 2 from htwo), ho]

theorem Rig.audibleRule_deck {r : Rig} {d : DeckId} (h : (r.deck d).audible = false) :
    r.audibleRule.deck d = r.deck d := by
  by_cases htwo : r.onAir < 2
  · rw [Rig.audibleRule_few htwo]
  · obtain ⟨o, hmem, ho⟩ := Rig.oldestAudible_mem (r := r) fun h0 => htwo (by omega)
    obtain ⟨hprogram, haudible⟩ := (r.mem_audibleDecks o).mp hmem
    have hne : ¬ o = d := by
      rintro rfl
      exact Bool.false_ne_true (h.symm.trans haudible)
    rw [Rig.audibleRule_oldest htwo ho, Rig.endDeck_deck r hprogram, if_neg hne]

theorem Rig.makeAudible_deck (r : Rig) (b d : DeckId) (f : Deck → Nat → Deck) :
    (r.makeAudible b f).deck d = if b = d then f (r.deck b) (nextSerial r.decks.lastAudible) else r.deck d :=
  Rig.deck_setDeck r b d _

theorem Rig.startDeck_deck_other {r : Rig} {b d : DeckId} (h : (r.deck d).audible = false) (hbd : b ≠ d) :
    (r.startDeck b).deck d = r.deck d := by
  unfold Rig.startDeck
  rw [Rig.makeAudible_deck, if_neg hbd]
  split
  · exact Rig.audibleRule_deck h
  · rfl

theorem Rig.startEntry_deck_other {r : Rig} {e : Entry} {d : DeckId} (h : (r.deck d).audible = false)
    (hed : e.deck ≠ some d) (cause : StartCause) : (r.startEntry e cause).deck d = r.deck d := by
  unfold Rig.startEntry
  split
  · rfl
  · rename_i b hb
    exact Rig.startDeck_deck_other h fun hbd => hed (hbd ▸ hb)

/-! ### An assignment (R78) -/

/-- What an assignment takes: the first WAITING entry and the lowest-numbered EMPTY program deck. -/
theorem Rig.assignOne_some {r r' : Rig} (h : r.assignOne = some r') : ∃ e d,
    r.order.entries.find? (fun e => e.state == .waiting) = some e ∧
      programDecks.find? (fun d => (r.deck d).state == .empty) = some d ∧
      (r.order.entries.filter fun e => e.state == .assigned).length < 2 ∧
      r.loadRefusal d (.cart e.cart) = none ∧
      r' = (r.updateEntry e.tag fun x => { x with state := .assigned, deck := some d }).loadDeck d e.loadRequest := by
  unfold Rig.assignOne at h
  split at h
  · cases h
  · rename_i hfew
    split at h
    · rename_i e d he hd
      split at h
      · rename_i hload
        cases h
        exact ⟨e, d, he, hd, Nat.not_le.mp hfew, hload, rfl⟩
      · cases h
    · cases h

theorem Rig.loadDeck_deck (r : Rig) (b d : DeckId) (q : LoadRequest) :
    (r.loadDeck b q).deck d = r.deck d ∨ b = d ∧ ((r.loadDeck b q).deck d).state = .loading := by
  by_cases hbd : b = d
  · subst hbd
    refine .inr ⟨rfl, ?_⟩
    unfold Rig.loadDeck
    split <;> (rw [Rig.deck_setDeck_self]; rfl)
  · refine .inl ?_
    unfold Rig.loadDeck
    split <;> exact (Rig.deck_setDeck r b d _).trans (if_neg hbd)

/-- The deck that an assignment takes was EMPTY and becomes LOADING, and no other deck changes. -/
theorem Rig.assignOne_deck {r r' : Rig} (h : r.assignOne = some r') (d : DeckId) : r'.deck d = r.deck d ∨
    isProgramDeck d = true ∧ (r.deck d).state = .empty ∧ (r'.deck d).state = .loading := by
  obtain ⟨e, b, -, hb, -, -, rfl⟩ := Rig.assignOne_some h
  refine (Rig.loadDeck_deck _ b d _).imp_right fun ⟨hbd, hloading⟩ => ?_
  subst hbd
  refine ⟨mem_programDecks (List.mem_of_find?_eq_some hb), ?_, hloading⟩
  have := List.find?_some hb
  exact beq_iff_eq.mp this

theorem Rig.displace_deck (r : Rig) (e : Entry) (d : DeckId) :
    (r.displace e).deck d = if e.deck = some d then (r.deck d).emptied else r.deck d := by
  unfold Rig.displace
  split
  · rename_i hnone
    rw [if_neg (by rw [hnone]; nofun)]
    rfl
  · rename_i b hb
    rw [hb]
    refine (Rig.unloadDeck_deck r b d).trans ?_
    by_cases hbd : b = d
    · subst hbd
      simp
    · simp [hbd]

/-! ### A deck at rest stays at rest -/

/-- A deck is EMPTY, or a program deck LOADING. -/
def Rig.restsAt (r : Rig) (d : DeckId) : Prop :=
  (r.deck d).state = .empty ∨ isProgramDeck d = true ∧ (r.deck d).state = .loading

theorem Rig.restsAt_of_deck {r r' : Rig} {d : DeckId} (h : r'.deck d = r.deck d) (hr : r.restsAt d) : r'.restsAt d := by
  unfold Rig.restsAt
  rwa [h]

theorem Rig.restsAt_of_emptied {r r' : Rig} {d : DeckId} {p : Prop} [Decidable p]
    (h : r'.deck d = if p then (r.deck d).emptied else r.deck d) (hr : r.restsAt d) : r'.restsAt d := by
  by_cases hp : p
  · rw [if_pos hp] at h
    exact .inl (congrArg Deck.state h)
  · rw [if_neg hp] at h
    exact Rig.restsAt_of_deck h hr

theorem Rig.restsAt.not_audible {r : Rig} {d : DeckId} (h : r.restsAt d) : (r.deck d).audible = false := by
  unfold Deck.audible
  rcases h with h | ⟨-, h⟩ <;> (rw [h]; rfl)

theorem Rig.restsAt.not_cued {r : Rig} {d : DeckId} (h : r.restsAt d) : (r.deck d).state ≠ .cued := by
  rcases h with h | ⟨-, h⟩ <;> (rw [h]; nofun)

/-- A deck that is not CUED is not the one that the entry to start holds. -/
theorem Rig.startable_deck_ne {r : Rig} {e : Entry} (h : r.startable = some e) {d : DeckId}
    (hd : (r.deck d).state ≠ .cued) : e.deck ≠ some d := by
  obtain ⟨-, -, -, -, b, hb, hcued⟩ := (r.startable_iff e).mp h
  rw [hb]
  intro hbd
  cases hbd
  exact hd hcued

theorem Rig.restsAt_kept (d : DeckId) : Rig.KeptBySettling (·.restsAt d) where
  assign hr h := by
    rcases Rig.assignOne_deck h d with hsame | ⟨hprogram, -, hloading⟩
    · exact Rig.restsAt_of_deck hsame hr
    · exact .inr ⟨hprogram, hloading⟩
  displace hr _ _ := Rig.restsAt_of_emptied (Rig.displace_deck _ _ d) hr
  skip hr _ := Rig.restsAt_of_emptied (Rig.skipTo_deck hr.not_audible _) hr
  start hr h := Rig.restsAt_of_deck
    (Rig.startEntry_deck_other hr.not_audible (Rig.startable_deck_ne h hr.not_cued) _) hr

/-! ### A deck that no ASSIGNED entry names -/

/-- Deck `d` is as `k`, and no ASSIGNED entry names it. -/
def Rig.holdsAside (d : DeckId) (k : Deck) (r : Rig) : Prop :=
  r.deck d = k ∧ ∀ x ∈ r.order.entries, x.state = .assigned → x.deck ≠ some d

/-- The entries after: those before, but for flags, and entries that are not ASSIGNED or hold another deck. -/
theorem Rig.holdsAside.of {d : DeckId} {k : Deck} {r r' : Rig} (h : r.holdsAside d k) (hd : r'.deck d = r.deck d)
    (he : ∀ y ∈ r'.order.entries, y.state = .assigned → y.deck = some d →
      ∃ x ∈ r.order.entries, x.state = .assigned ∧ x.deck = some d) : r'.holdsAside d k := by
  refine ⟨hd.trans h.1, fun y hy hassigned hdeck => ?_⟩
  obtain ⟨x, hx, hxa, hxd⟩ := he y hy hassigned hdeck
  exact h.2 x hx hxa hxd

/-- An entry of a list changed under one tag. -/
theorem Rig.mem_updateEntry {r : Rig} {tag : Nat} {f : Entry → Entry} {y : Entry}
    (h : y ∈ (r.updateEntry tag f).order.entries) :
    y ∈ r.order.entries ∨ ∃ x ∈ r.order.entries, x.tag = tag ∧ y = f x := by
  obtain ⟨x, hx, rfl⟩ := List.mem_map.mp h
  split
  · exact .inr ⟨x, hx, beq_iff_eq.mp ‹_›, rfl⟩
  · exact .inl hx

theorem Rig.skipTo_entries {r : Rig} {e y : Entry} (h : y ∈ (r.skipTo e).order.entries) :
    ∃ x ∈ r.order.entries, y.state = x.state ∧ y.deck = x.deck := by
  have hsub : ((r.skipTaken e).fadeAudible 24000 programDecks).order.entries ⊆ r.order.entries := by
    refine List.Subset.trans (Rig.fadeAudible_entries _ _ _) ?_
    unfold Rig.skipTaken
    rw [Rig.reports_eq]
    exact (skipped_sublist _ _ _).subset
  rw [Rig.skipTo_eq] at h
  rcases Rig.mem_updateEntry h with hy | ⟨x, hx, -, rfl⟩
  · exact ⟨y, hsub hy, rfl, rfl⟩
  · exact ⟨x, hsub hx, rfl, rfl⟩

theorem Rig.startEntry_entries {r : Rig} {e y : Entry} {cause : StartCause}
    (h : y ∈ (r.startEntry e cause).order.entries) : y ∈ r.order.entries ∨ y.state = .airing := by
  unfold Rig.startEntry at h
  split at h
  · exact .inl h
  · rename_i d _
    rcases Rig.mem_updateEntry (r := r.startDeck d) h with hy | ⟨x, -, -, rfl⟩
    · exact .inl (r.startDeck_entries d hy)
    · exact .inr rfl

theorem Rig.displace_entries {r : Rig} {e y : Entry} (h : y ∈ (r.displace e).order.entries) :
    y ∈ r.order.entries ∨ y.state = .waiting := by
  unfold Rig.displace at h
  split at h
  · exact (Rig.mem_updateEntry h).imp_right fun ⟨_, _, _, hy⟩ => congrArg Entry.state hy
  · rename_i d _
    exact (Rig.mem_updateEntry (r := r.unloadDeck d) h).imp_right fun ⟨_, _, _, hy⟩ => congrArg Entry.state hy

theorem Rig.assignOne_entries {r r' : Rig} (h : r.assignOne = some r') {y : Entry} (hy : y ∈ r'.order.entries) :
    y ∈ r.order.entries ∨ ∃ d, y.deck = some d ∧ (r.deck d).state = .empty := by
  obtain ⟨e, d, -, hd, -, -, rfl⟩ := Rig.assignOne_some h
  rw [Rig.loadDeck_order] at hy
  refine (Rig.mem_updateEntry hy).imp_right fun ⟨_, _, _, hyx⟩ => ⟨d, congrArg Entry.deck hyx, ?_⟩
  have := List.find?_some hd
  exact beq_iff_eq.mp this

theorem Rig.holdsAside.assign {d : DeckId} {k : Deck} (hk : k.state ≠ .empty) {r r' : Rig} (hr : r.holdsAside d k)
    (h : r.assignOne = some r') : r'.holdsAside d k := by
  have hbusy : (r.deck d).state ≠ .empty := by rwa [hr.1]
  refine hr.of ((Rig.assignOne_deck h d).resolve_right fun hd => hbusy hd.2.1) fun y hy hassigned hdeck => ?_
  rcases Rig.assignOne_entries h hy with hold | ⟨b, hb, hempty⟩
  · exact ⟨y, hold, hassigned, hdeck⟩
  · cases hdeck.symm.trans hb
    exact absurd hempty hbusy

theorem Rig.holdsAside.displace {d : DeckId} {k : Deck} {r : Rig} {e : Entry} (hr : r.holdsAside d k)
    (hmem : e ∈ r.order.entries) (hassigned : e.state = .assigned) : (r.displace e).holdsAside d k := by
  refine hr.of ((r.displace_deck e d).trans (if_neg (hr.2 e hmem hassigned))) fun y hy hya hyd => ?_
  rcases Rig.displace_entries hy with hold | hwaiting
  · exact ⟨y, hold, hya, hyd⟩
  · rw [hwaiting] at hya
    cases hya

/-- The arranging leaves a deck that is not EMPTY and that no ASSIGNED entry names. -/
theorem Rig.holdsAside.arrange {d : DeckId} {k : Deck} (hk : k.state ≠ .empty) {r : Rig} (hr : r.holdsAside d k) :
    r.arrange.holdsAside d k :=
  Rig.arrange_kept (P := Rig.holdsAside d k) (Rig.holdsAside.assign hk) Rig.holdsAside.displace hr

theorem Rig.holdsAside_kept {d : DeckId} {k : Deck} (hk : k.state = .done) :
    Rig.KeptBySettling (·.holdsAside d k) where
  assign hr h := Rig.holdsAside.assign (by rw [hk]; nofun) hr h
  displace hr hmem hassigned := hr.displace hmem hassigned
  skip := by
    intro r e hr hmem
    have hquiet : (r.deck d).audible = false := by rw [hr.1, Deck.audible, hk]; rfl
    refine hr.of ((Rig.skipTo_deck hquiet e).trans (if_neg ?_)) fun y hy hya hyd => ?_
    · rintro ⟨y, hy, hya, hyd⟩
      exact hr.2 y ((List.takeWhile_sublist _).subset (List.mem_of_mem_filter hy)) hya hyd
    · obtain ⟨x, hx, hstate, hdeck⟩ := Rig.skipTo_entries hy
      exact ⟨x, hx, hstate ▸ hya, hdeck ▸ hyd⟩
  start := by
    intro r e cause hr h
    have hquiet : (r.deck d).audible = false := by rw [hr.1, Deck.audible, hk]; rfl
    have hcued : (r.deck d).state ≠ .cued := by rw [hr.1, hk]; nofun
    refine hr.of (Rig.startEntry_deck_other hquiet (Rig.startable_deck_ne h hcued) _) fun y hy hya hyd => ?_
    rcases Rig.startEntry_entries hy with hold | hairing
    · exact ⟨y, hold, hya, hyd⟩
    · rw [hairing] at hya
      cases hya

end Sys2Proof.Machine
end

section
/-!
SUPPORT. A program deck's last frame event (R60, R61, R66, R85).
-/

namespace Sys2Proof.Machine

/-! ### The end as a formula -/

theorem Rig.endTold_releaseDeck (r : Rig) {d : DeckId} {k : Deck} (hsource : k.source = (r.deck d).source)
    (htag : k.entryTag = (r.deck d).entryTag) (horder : k.audibleOrder = (r.deck d).audibleOrder) :
    ((r.endTold d k.source).setDeck d k.done).releaseDeck d = r.played d := by
  rw [Rig.releaseDeck_eq, Rig.deck_setDeck_self]
  simp only [Rig.setDeck, Rig.endTold, vset_twice, Deck.done, hsource, htag]
  simp only [Rig.played, Deck.emptied, horder, withoutTag]
  rfl

theorem Rig.endTold_sendSegue (r : Rig) {d : DeckId} {k : Deck} (hsource : k.source = (r.deck d).source)
    (hdue : k.seguesNow = true) : ((r.endTold d k.source).setDeck d k.done).sendSegue d = r.segued d k.done := by
  rw [Rig.sendSegue_due _ (k := k.done) hdue, hsource]
  rfl

/-! ### What the end leaves -/

/-- The entry is gone, and the deck is EMPTY or loaded anew. -/
def Rig.leftBy (r : Rig) (d : DeckId) (tag : Nat) : Prop :=
  (∀ x ∈ r.order.entries, x.tag ≠ tag) ∧ ((r.deck d).state = .empty ∨ (r.deck d).state = .loading)

theorem Rig.restsAt.state {r : Rig} {d : DeckId} (h : r.restsAt d) :
    (r.deck d).state = .empty ∨ (r.deck d).state = .loading := h.imp_right And.right

/-- The settling brings no entry back, and leaves a deck at rest. -/
theorem Rig.settle_leftBy {r : Rig} {d : DeckId} {tag : Nat} (htags : ∀ x ∈ r.order.entries, x.tag ≠ tag)
    (hrest : r.restsAt d) : r.settle.leftBy d tag := by
  refine ⟨fun y hy => ?_, ((Rig.restsAt_kept d).settle hrest).state⟩
  obtain ⟨x, hx, htag, -⟩ := r.settle_keepsNames y hy
  exact htag ▸ htags x hx

theorem Rig.releaseDeck_leaves (r : Rig) (d : DeckId) :
    (∀ x ∈ (r.releaseDeck d).order.entries, x.tag ≠ (r.deck d).entryTag) ∧ (r.releaseDeck d).restsAt d := by
  rw [Rig.releaseDeck_eq]
  refine ⟨fun x hx => bne_iff_ne.mp (List.mem_filter.mp hx).2, .inl ?_⟩
  show ((vset r.decks.decks d (r.deck d).emptied)[d]).state = .empty
  rw [vset_same]
  rfl

theorem Rig.releaseDeck_settle_leftBy (r : Rig) (d : DeckId) :
    (r.releaseDeck d).settle.leftBy d (r.deck d).entryTag :=
  Rig.settle_leftBy (r.releaseDeck_leaves d).1 (r.releaseDeck_leaves d).2

theorem Rig.played_leaves (r : Rig) (d : DeckId) :
    (∀ x ∈ (r.played d).order.entries, x.tag ≠ (r.deck d).entryTag) ∧ (r.played d).restsAt d := by
  refine ⟨fun x hx => bne_iff_ne.mp (List.mem_filter.mp hx).2, .inl ?_⟩
  show ((vset r.decks.decks d { Deck.reset with audibleOrder := (r.deck d).audibleOrder })[d]).state = .empty
  rw [vset_same]
  rfl

theorem Rig.played_settle_leftBy (r : Rig) (d : DeckId) : (r.played d).settle.leftBy d (r.deck d).entryTag :=
  Rig.settle_leftBy (r.played_leaves d).1 (r.played_leaves d).2

/-- The settling of a segue event leaves a deck in DONE that no ASSIGNED entry names. -/
theorem Rig.segued_deck {r : Rig} {d : DeckId} {k : Deck}
    (hclear : ∀ x ∈ r.order.entries, x.state = .assigned → x.deck ≠ some d) :
    (r.segued d k.done).deck d = { k.done with segueSent := true } := by
  refine ((Rig.holdsAside_kept rfl).settle ⟨vset_same _ _ _, fun y hy hassigned => ?_⟩).1
  obtain ⟨x, hx, rfl⟩ := List.mem_map.mp hy
  split at hassigned
  · rw [if_pos ‹_›]
    exact hclear x hx hassigned
  · rw [if_neg ‹_›]
    exact hclear x hx hassigned

theorem Rig.segued_leftBy {r : Rig} {d : DeckId} {k : Deck}
    (hclear : ∀ x ∈ r.order.entries, x.state = .assigned → x.deck ≠ some d) :
    ((r.segued d k.done).releaseDeck d).settle.leftBy d k.entryTag := by
  have hleft := (r.segued d k.done).releaseDeck_settle_leftBy d
  rwa [Rig.segued_deck hclear] at hleft

theorem Rig.played_ordered (r : Rig) (d : DeckId) : r.Ordered (r.played d) :=
  ⟨⟨[.deckEnded d (r.deck d).source .played, .entryPlayed (r.deck d).entryTag d], rfl⟩, rfl, rfl, rfl, rfl, rfl⟩

theorem Rig.segued_ordered (r : Rig) (d : DeckId) (k : Deck) : r.Ordered (r.segued d k) := by
  refine Rig.Ordered.trans ?_ (Rig.settle_ordered _)
  exact ⟨⟨[.deckEnded d (r.deck d).source .played], rfl⟩, rfl, rfl, rfl, rfl, rfl⟩

/-! ### The whole event -/

/-- The state after program deck `d`, become `done`, has ended: with no segue event due it is played, and otherwise the
segue event stands before the release; and what O32 says of what is left and what is kept. -/
structure State.EndedDeck (s t : State) (d : DeckId) (done : Deck) : Prop where
  quiet : done.seguesNow = false → t.rig = (s.rig.played d).settle
  segued : done.seguesNow = true → t.rig = ((s.rig.segued d done).releaseDeck d).settle
  left : done.seguesNow = false ∨ (∀ x ∈ s.rig.order.entries, x.state = .assigned → x.deck ≠ some d) →
    t.rig.leftBy d (s.rig.deck d).entryTag
  ordered : s.rig.Ordered t.rig
  store : t.store = s.store
  clock : t.clock = s.clock

theorem State.endedDeck (s : State) {d : DeckId} (hd : isProgramDeck d = true) (x : Frame) {k : Deck}
    (hsource : k.source = (s.rig.deck d).source) (htag : k.entryTag = (s.rig.deck d).entryTag)
    (horder : k.audibleOrder = (s.rig.deck d).audibleOrder) :
    s.EndedDeck ((s.putDeck d x).onRig fun r => (r.setDeck d k).closeDeckFrame d true) d k.done := by
  have hclose := s.rig.closeDeckFrame_done hd k
  have hquiet (h : k.done.seguesNow = false) :
      (s.rig.setDeck d k).closeDeckFrame d true = (s.rig.played d).settle := by
    rw [hclose, Rig.sendSegue_not_due _ h, Rig.endTold_releaseDeck _ hsource htag horder]
  have hsegued (h : k.done.seguesNow = true) :
      (s.rig.setDeck d k).closeDeckFrame d true = ((s.rig.segued d k.done).releaseDeck d).settle := by
    rw [hclose, Rig.endTold_sendSegue _ hsource h]
  have hboth := Bool.eq_false_or_eq_true k.done.seguesNow
  refine ⟨hquiet, hsegued, fun hclear => ?_, ?_, rfl, rfl⟩
  · show ((s.rig.setDeck d k).closeDeckFrame d true).leftBy d _
    rcases hboth with h | h
    · rw [hsegued h, ← htag]
      exact Rig.segued_leftBy (hclear.resolve_left (by rw [h]; nofun))
    · rw [hquiet h]
      exact s.rig.played_settle_leftBy d
  · show s.rig.Ordered ((s.rig.setDeck d k).closeDeckFrame d true)
    rcases hboth with h | h
    · rw [hsegued h]
      exact ((s.rig.segued_ordered d _).trans (Rig.releaseDeck_ordered _ d)).trans (Rig.settle_ordered _)
    · rw [hquiet h]
      exact (s.rig.played_ordered d).trans (Rig.settle_ordered _)

end Sys2Proof.Machine
end

section
/-!
SUPPORT and the statement O32: the last frame event of a program deck, of deck F and of deck A.
-/

namespace Sys2Proof.Machine

/-! ### Program decks (R60, R62, R63) -/

/-- The record of a program deck after its last frame event, where the automatic fade may begin at that event (R62). -/
def Deck.playedOut (k : Deck) : Deck := { k with
  state := .done, endCause := some .played, position := max k.position k.playEnd
  fadeSpan := if k.state = .playing ∧ 0 < k.fadeLength ∧ k.position < k.playEnd then 1 else k.fadeSpan
  fadeRemaining := if k.state = .playing ∧ 0 < k.fadeLength ∧ k.position < k.playEnd then 0
    else if k.state = .fading ∧ k.position < k.playEnd then k.fadeRemaining - 1
    else k.fadeRemaining }

theorem Deck.playedOut_past {k : Deck} (h : k.playEnd ≤ k.position) : k.playedOut = k.done := by
  have hlt : ¬ k.position < k.playEnd := Nat.not_lt.mpr h
  simp [Deck.playedOut, Deck.done, hlt, Nat.max_eq_left h]

/-- At the frame before the play end the automatic fade lasts one frame (R62). -/
theorem Deck.autoFades_last {k : Deck} {d : DeckId} (hd : d.val < 4) (hpos : k.position + 1 = k.playEnd) :
    k.autoFades d = true ↔ k.state = .playing ∧ 0 < k.fadeLength := by
  rw [Deck.autoFades_iff]
  refine ⟨fun h => ⟨h.2.1, h.2.2.1⟩, fun h => ⟨program_isProgramDeck hd, h.1, h.2, by omega, by omega⟩⟩

theorem Deck.playedOut_last {k : Deck} {d : DeckId} (hd : d.val < 4) (hpos : k.position + 1 = k.playEnd)
    (h : k.state = .playing ∨ k.state = .fading) : (k.fadeStep d).advanced.done = k.playedOut := by
  have hauto := Deck.autoFades_last hd hpos
  have hlt : k.position < k.playEnd := hpos ▸ Nat.lt_succ_self _
  have hone : k.playEnd - k.position = 1 := by omega
  have hmax : max k.position k.playEnd = k.position + 1 := by omega
  rw [Deck.fadeStep_advanced h]
  by_cases hf : k.autoFades d = true
  · have hfades := hauto.mp hf
    simp [Deck.playedOut, Deck.done, hf, hfades, hlt, hone, hmax]
  · have hfades : ¬ (k.state = .playing ∧ 0 < k.fadeLength) := mt hauto.mpr hf
    simp only [Deck.playedOut, Deck.done, hf, hfades, hlt, hmax, if_false, Bool.false_or, beq_iff_eq, and_true,
      Bool.false_eq_true]

theorem Deck.ends_last {k : Deck} {d : DeckId} (hd : d.val < 4) (hpos : k.position + 1 = k.playEnd)
    (h : k.state = .playing ∨ k.state = .fading ∧ k.fadeRemaining ≤ 1) : (k.fadeStep d).advanced.ends d = true := by
  have hauto := Deck.autoFades_last hd hpos
  have hone : k.playEnd - k.position - 1 = 0 := by omega
  rw [Deck.fadeStep_advanced (h.imp_right And.left)]
  unfold Deck.ends
  by_cases hf : k.autoFades d = true
  · simp [hf, hone]
  · rcases h with hplays | ⟨hfading, hrem⟩
    · simp [hf, hplays, hpos, program_ne_deckF hd]
    · have hzero : k.fadeRemaining - 1 = 0 := by omega
      simp [hf, hfading, hzero]

/-- A program deck's last frame event ends it, whether a frame is left or not (R60). -/
theorem State.deckFrame_last {s : State} {d : DeckId} {c : CartId} (hd : d.val < 4)
    (hsource : (s.rig.deck d).source = .cart c)
    (hword : (s.rig.cart c).start * 65536 + 2 * (s.rig.deck d).position + 1 < 268435456)
    (hend : (s.rig.deck d).playEnd ≤ (s.rig.deck d).position + 1)
    (hstate : (s.rig.deck d).state = .playing ∨ (s.rig.deck d).state = .fading ∧
      ((s.rig.deck d).playEnd ≤ (s.rig.deck d).position ∨ (s.rig.deck d).fadeRemaining ≤ 1)) :
    ∃ t, s.deckFrame d = .next t ∧ s.EndedDeck t d (s.rig.deck d).playedOut := by
  have haudible : (s.rig.deck d).audible = true := (Deck.audible_iff _).mpr (hstate.imp_right And.left)
  have hprogram := program_isProgramDeck hd
  by_cases hpast : (s.rig.deck d).playEnd ≤ (s.rig.deck d).position
  · refine ⟨_, State.deckFrame_past (program_ne_deckF hd) haudible hpast, ?_⟩
    rw [Deck.playedOut_past hpast]
    exact s.endedDeck hprogram _ rfl rfl rfl
  · have hpos : (s.rig.deck d).position + 1 = (s.rig.deck d).playEnd := by omega
    have hstep := (s.rig.deck d).fadeStep_eq d
    obtain ⟨x, hframe⟩ := State.deckFrame_reads (s := s) (d := d) rfl haudible
      (by rw [hstep]; exact Nat.not_le.mp hpast)
      (State.cart_inStore (c := c) (by rw [hstep]; exact hsource) (by rw [hstep]; exact hword))
    rw [Deck.ends_last hd hpos (hstate.imp_right fun h => ⟨h.1, h.2.resolve_left hpast⟩),
      Deck.looped_of_ne (program_ne_deckF hd)] at hframe
    refine ⟨_, hframe, ?_⟩
    rw [← Deck.playedOut_last hd hpos (hstate.imp_right And.left)]
    exact s.endedDeck hprogram _ (by rw [hstep]; rfl) (by rw [hstep]; rfl) (by rw [hstep]; rfl)

/-- The frame event at which a fade ends before the play end does (R63). -/
theorem State.deckFrame_fadeEnd {s : State} {d : DeckId} {c : CartId} (hd : d.val < 4)
    (hsource : (s.rig.deck d).source = .cart c)
    (hword : (s.rig.cart c).start * 65536 + 2 * (s.rig.deck d).position + 1 < 268435456)
    (hstate : (s.rig.deck d).state = .fading) (hpos : (s.rig.deck d).position < (s.rig.deck d).playEnd)
    (hrem : (s.rig.deck d).fadeRemaining = 1) :
    ∃ t, s.deckFrame d = .next t ∧ s.EndedDeck t d { s.rig.deck d with
      state := .done, endCause := some .played, position := (s.rig.deck d).position + 1, fadeRemaining := 0 } := by
  have hadvanced : (s.rig.deck d).advanced =
      { s.rig.deck d with position := (s.rig.deck d).position + 1, fadeRemaining := 0 } := by
    rw [Deck.advanced, if_pos hstate, hrem]
  obtain ⟨x, hframe⟩ := State.deckFrame_reads (Deck.fadeStep_plain (.inr hstate) d)
    ((Deck.audible_iff _).mpr (.inr hstate)) hpos (State.cart_inStore hsource hword)
  have hends : (s.rig.deck d).advanced.ends d = true := by
    rw [hadvanced]
    simp [Deck.ends, hstate]
  rw [hends, Deck.looped_of_ne (program_ne_deckF hd), hadvanced] at hframe
  exact ⟨_, hframe, s.endedDeck (program_isProgramDeck hd) x rfl rfl rfl⟩

/-- FADE_END is the whole frame event at which the fade remaining reaches 0 (R63). -/
theorem exec_fadeEnd_due {s : State} {d : DeckId} (hstate : ((s.rig.deck d).fadeStep d).state = .fading)
    (hpos : ((s.rig.deck d).fadeStep d).position < ((s.rig.deck d).fadeStep d).playEnd)
    (hrem : ((s.rig.deck d).fadeStep d).fadeRemaining ≤ 1) : exec (.fadeEnd d) s = s.deckFrame d := by
  rw [exec_fadeEnd, whenDue_due]
  simp [hstate, hpos, hrem]

/-! ### Deck F (R69) -/

/-- Deck F at its play end returns to cue-in and plays on. -/
theorem State.deckFrame_loops {s : State} {c : CartId} (hsource : (s.rig.deck deckF).source = .cart c)
    (hword : (s.rig.cart c).start * 65536 + 2 * (s.rig.deck deckF).position + 1 < 268435456)
    (hplays : (s.rig.deck deckF).state = .playing)
    (hpos : (s.rig.deck deckF).position + 1 = (s.rig.deck deckF).playEnd)
    (hsegue : (s.rig.deck deckF).seguePoint = none) : ∃ t, s.deckFrame deckF = .next t ∧
      t.rig = s.rig.setDeck deckF { s.rig.deck deckF with position := (s.rig.deck deckF).cueIn } := by
  have hfading : (s.rig.deck deckF).state ≠ .fading := by rw [hplays]; nofun
  have hadvanced : (s.rig.deck deckF).advanced =
      { s.rig.deck deckF with position := (s.rig.deck deckF).position + 1 } := by rw [Deck.advanced, if_neg hfading]
  obtain ⟨x, hframe⟩ := State.deckFrame_reads (d := deckF) (Deck.fadeStep_of_not rfl)
    ((Deck.audible_iff _).mpr (.inl hplays)) (hpos ▸ Nat.lt_succ_self _) (State.cart_inStore hsource hword)
  have hends : (s.rig.deck deckF).advanced.ends deckF = false := by
    rw [hadvanced]
    simp [Deck.ends, hplays]
  have hlooped : (s.rig.deck deckF).advanced.looped deckF =
      { s.rig.deck deckF with position := (s.rig.deck deckF).cueIn } := by
    rw [hadvanced, Deck.looped, if_pos ⟨rfl, Nat.le_of_eq hpos.symm⟩]
  rw [hends, hlooped] at hframe
  refine ⟨_, hframe, Rig.sendSegue_not_due s.rig (k := { s.rig.deck deckF with
    position := (s.rig.deck deckF).cueIn }) (Deck.seguesNow_eq_false fun p hp => ?_)⟩
  exact absurd (hsegue.symm.trans hp) nofun

end Sys2Proof.Machine
end

section
/-!
SUPPORT and the statement O32: deck A at the end of a part (R70, R153, R154).
-/

namespace Sys2Proof.Machine

/-! ### The switch and the delay leave every deck but deck F -/

theorem Rig.setDeck_deck_other (r : Rig) {b d : DeckId} (h : b ≠ d) (x : Deck) : (r.setDeck b x).deck d = r.deck d :=
  (Rig.deck_setDeck r b d x).trans (if_neg h)

theorem Rig.loadFallback_deck (r : Rig) {d : DeckId} (h : deckF ≠ d) : r.loadFallback.deck d = r.deck d := by
  unfold Rig.loadFallback
  split
  · rfl
  · split
    · rcases r.loadDeck_deck deckF d _ with hsame | ⟨hd, -⟩
      · exact hsame
      · exact absurd hd h
    · rfl
    · rfl

theorem Rig.emptyDeck_deck_other (r : Rig) {b d : DeckId} (h : b ≠ d) : (r.emptyDeck b).deck d = r.deck d := by
  have hunloaded (x : Rig) : (x.unloadDeck b).deck d = x.deck d := x.setDeck_deck_other h _
  have hcut : ((r.finishDeck b .cut).unloadDeck b).deck d = r.deck d :=
    (hunloaded _).trans (r.setDeck_deck_other h _)
  unfold Rig.emptyDeck
  split
  · rfl
  · exact hcut
  · exact hcut
  · exact hcut
  all_goals exact hunloaded r

theorem Rig.serveFallback_deck (r : Rig) {d : DeckId} (h : deckF ≠ d) (was : Bool) :
    (r.serveFallback was).deck d = r.deck d := by
  unfold Rig.serveFallback
  split
  · split
    · exact r.loadFallback_deck h
    · split
      · rfl
      · exact (Rig.loadFallback_deck _ h).trans (r.emptyDeck_deck_other h)
  · split
    · exact r.emptyDeck_deck_other h
    · rfl

theorem Rig.evaluateOwner_deck (r : Rig) {d : DeckId} (h : deckF ≠ d) (c : OwnerCause) :
    (r.evaluateOwner c).deck d = r.deck d := by
  unfold Rig.evaluateOwner
  split
  · rfl
  · exact Rig.serveFallback_deck _ h _

theorem Rig.changeDelay_eq (r : Rig) (x : Delay) (c : DelayCause) :
    r.changeDelay x c = { r with delay := x, egress := (r.changeDelay x c).egress } := by
  unfold Rig.changeDelay
  dsimp only
  split <;> split <;> rfl

theorem Rig.changeDelay_deck (r : Rig) (x : Delay) (c : DelayCause) (d : DeckId) :
    (r.changeDelay x c).deck d = r.deck d := by
  rw [Rig.changeDelay_eq]
  rfl

/-! ### A resume leaves a deck at rest (R68) -/

theorem Rig.resumeDeck_deck_other {r : Rig} {b d : DeckId} (h : (r.deck d).audible = false) (hbd : b ≠ d) :
    (r.resumeDeck b).deck d = r.deck d := by
  unfold Rig.resumeDeck
  rw [Rig.makeAudible_deck, if_neg hbd, Rig.audibleRule_deck h]

/-- The flagged decks in increasing audible order (R68). -/
def Rig.wakeOrder (r : Rig) : List DeckId :=
  (programDecks.filter fun d => (r.deck d).state == .paused && (r.deck d).pausedForAlert).foldl
    (fun ds d => insertByOrder r d ds) []

/-- The decks of a list that are PAUSED resume, one after another (R68). -/
def Rig.wakeAll (r : Rig) (ds : List DeckId) : Rig :=
  ds.foldl (fun r d => if (r.deck d).state == .paused then r.resumeDeck d else r) r

/-- The flagged decks wake, before the running order settles (R68). -/
def Rig.woken (r : Rig) : Rig := r.wakeAll r.wakeOrder

theorem Rig.alertResume_eq (r : Rig) : r.alertResume = r.woken.settle := rfl

theorem Rig.wakeAll_cons (r : Rig) (b : DeckId) (ds : List DeckId) : r.wakeAll (b :: ds) =
    (if (r.deck b).state == .paused then r.resumeDeck b else r).wakeAll ds := rfl

theorem Rig.wakeAll_restsAt {r : Rig} {d : DeckId} (h : r.restsAt d) (ds : List DeckId) : (r.wakeAll ds).restsAt d := by
  induction ds generalizing r with
  | nil => exact h
  | cons b ds ih =>
    rw [Rig.wakeAll_cons]
    refine ih ?_
    split
    · rename_i hb
      refine Rig.restsAt_of_deck (Rig.resumeDeck_deck_other h.not_audible ?_) h
      rintro rfl
      rcases h with h | ⟨-, h⟩ <;> (rw [h] at hb; cases hb)
    · exact h

theorem Rig.woken_restsAt {r : Rig} {d : DeckId} (h : r.restsAt d) : r.woken.restsAt d := Rig.wakeAll_restsAt h _

theorem Rig.alertResume_restsAt {r : Rig} {d : DeckId} (h : r.restsAt d) : r.alertResume.restsAt d :=
  (Rig.restsAt_kept d).settle (Rig.woken_restsAt h)

/-- The end of a run leaves deck A EMPTY (R154). -/
theorem Rig.runEnd_restsAt {r : Rig} {d : DeckId} (hd : deckF ≠ d) (h : r.restsAt d) : r.runEnd.restsAt d := by
  have hdeck : (r.switchRunEnd.delayRelease).deck d = r.deck d :=
    (Rig.changeDelay_deck _ _ _ d).trans (Rig.evaluateOwner_deck _ hd .alertEnd)
  unfold Rig.runEnd
  generalize r.switchRunEnd.delayRelease = x at hdeck
  have hx : x.restsAt d := Rig.restsAt_of_deck hdeck h
  dsimp only
  split
  · exact Rig.alertResume_restsAt (r := { x with alerts := { x.alerts with decksPaused := false } }) hx
  · exact hx

/-! ### A record that leaves AIRING (R154, R155) -/

theorem Alerts.head_none {a : Alerts} (h : ∀ j : RecordId, (a.records[j]).state ≠ .queued) : a.head = none := by
  cases hhead : a.head with
  | none => rfl
  | some j => exact absurd (Alerts.head_queued hhead) (h j)

theorem Rig.leftAiring_record (r : Rig) (i j : RecordId) (st : AlertState) :
    ((r.leftAiring i st).record j).state = if i = j then st else (r.record j).state := by
  refine (congrArg AlertRecord.state (Rig.record_setRecord r i j _)).trans ?_
  split <;> rfl

/-- The record is in its new state, whatever airs next. -/
theorem Rig.leaveAiring_record (r : Rig) (i : RecordId) {st : AlertState} (hst : st ≠ .queued) (m : Report) :
    ((r.leaveAiring i st m).record i).state = st := by
  have hleft : (((r.leftAiring i st).report m).record i).state = st :=
    (r.leftAiring_record i i st).trans (if_pos rfl)
  rw [Rig.leaveAiring_eq]
  generalize (r.leftAiring i st).report m = t at hleft
  unfold Rig.airNext
  split
  · rename_i j hj
    have hij : j ≠ i := by
      rintro rfl
      exact hst (hleft.symm.trans (Rig.head_state hj))
    rw [Rig.airRecord_false, (t.playing_steady j).alerts.states i]
    exact (congrArg AlertRecord.state ((Rig.record_setRecord t j i _).trans (if_neg hij))).trans hleft
  · exact (t.runEnd_evaluated.alerts.states i).trans hleft

/-- With nothing queued the run ends. -/
theorem Rig.leaveAiring_last {r : Rig} {i : RecordId} {st : AlertState} (hst : st ≠ .queued) (m : Report)
    (hqueue : ∀ j : RecordId, j ≠ i → (r.record j).state ≠ .queued) :
    r.leaveAiring i st m = ((r.leftAiring i st).report m).runEnd := by
  have hhead : ((r.leftAiring i st).report m).alerts.head = none := Alerts.head_none fun j => by
    show ((r.leftAiring i st).record j).state ≠ .queued
    rw [Rig.leftAiring_record]
    split
    · exact hst
    · exact hqueue j (Ne.symm ‹_›)
  rw [Rig.leaveAiring_eq, Rig.airNext, hhead]

theorem Rig.leaveAiring_ends {r : Rig} {i : RecordId} {st : AlertState} (hst : st ≠ .queued) (m : Report)
    (hqueue : ∀ j : RecordId, j ≠ i → (r.record j).state ≠ .queued) (hdeck : (r.deck deckA).state = .empty) :
    (r.leaveAiring i st m).alerts.airing = none ∧ ((r.leaveAiring i st m).deck deckA).state = .empty ∧
      (r.leaveAiring i st m).airSwitch.runFlag = false := by
  rw [Rig.leaveAiring_last hst m hqueue]
  have stays := ((r.leftAiring i st).report m).runEnd_evaluated.alerts
  have rests : (((r.leftAiring i st).report m).runEnd).restsAt deckA := Rig.runEnd_restsAt (by decide) (.inl hdeck)
  exact ⟨stays.airing, rests.resolve_right fun h => absurd h.1 not_program_deckA, stays.runFlag⟩

/-! ### Deck A at the end of a part (R153, R154) -/

/-- Deck A, in DONE, is unloaded. -/
def Rig.partOver (r : Rig) (source : DeckSource) : Rig :=
  (r.endTold deckA source).setDeck deckA { Deck.reset with audibleOrder := (r.deck deckA).audibleOrder }

theorem Rig.endTold_unloadDeck (r : Rig) {k : Deck} (horder : k.audibleOrder = (r.deck deckA).audibleOrder) :
    ((r.endTold deckA k.source).setDeck deckA k.done).unloadDeck deckA = r.partOver k.source := by
  rw [Rig.unloadDeck, Rig.deck_setDeck_self, Rig.setDeck_setDeck, Rig.partOver, Deck.emptied, ← horder]
  rfl

/-- The rig once deck A has taken the next part (R153). -/
def Rig.partTaken (r : Rig) (ended source : DeckSource) (form : Form) (cueIn playEnd : Nat) (part : Part) : Rig :=
  { r with
    egress := r.egress.report (.deckEnded deckA ended .played)
    decks := { r.decks with decks := vset r.decks.decks deckA { Deck.reset with
      state := .loading, source := source, form := form, cueIn := cueIn, playEnd := playEnd
      position := cueIn, gain := 16384, audibleOrder := (r.deck deckA).audibleOrder } }
    alerts := { r.alerts with part := part } }

theorem Rig.partOver_refusal (r : Rig) (ended source : DeckSource) : (r.partOver ended).loadRefusal deckA source =
    match source with
    | .cart c =>
      if (r.cart c).state != .ready then some .absent
      else if (r.cart c).cls != .service then some .range
      else none
    | .slot _ => none
    | .none => some .absent := by
  unfold Rig.loadRefusal Rig.partOver
  rw [Rig.deck_setDeck_self]
  rfl

/-- A part that deck A takes. -/
theorem Rig.partOver_loadPart {r : Rig} {ended source : DeckSource} {i : RecordId} {p : Part}
    (hpart : (r.record i).partSource i p = some source) (htaken : (r.partOver ended).loadRefusal deckA source = none) :
    (r.partOver ended).loadPart i p =
      ({ ((r.partOver ended).loadDeck deckA (.plain source (r.record i).recordedLength)) with
        alerts := { r.alerts with part := p } }, true) := by
  have hpart' : ((r.partOver ended).record i).partSource i p = some source := hpart
  unfold Rig.loadPart
  rw [hpart']
  dsimp only
  rw [htaken]
  have halerts (q : LoadRequest) : ((r.partOver ended).loadDeck deckA q).alerts = r.alerts := by
    unfold Rig.loadDeck
    split <;> rfl
  simp only [halerts]
  rfl

/-- A part that the record does not have, or that deck A refuses. -/
theorem Rig.partOver_loadPart_refused {r : Rig} {ended : DeckSource} {i : RecordId} {p : Part}
    (h : ∀ source, (r.record i).partSource i p = some source → (r.partOver ended).loadRefusal deckA source ≠ none) :
    ∃ ms, (r.partOver ended).loadPart i p = ((r.partOver ended).reports ms, false) := by
  have h' : ∀ source, ((r.partOver ended).record i).partSource i p = some source →
    (r.partOver ended).loadRefusal deckA source ≠ none := h
  unfold Rig.loadPart
  split
  · exact ⟨[], rfl⟩
  · rename_i source hsource
    split
    · exact absurd ‹_› (h' source hsource)
    · split
      · exact ⟨[_], rfl⟩
      · exact ⟨[], rfl⟩

theorem Rig.partOver_slot (r : Rig) (ended : DeckSource) (i : RecordId) : ((r.partOver ended).loadPart i .slot).1 =
    r.partTaken ended (.slot i) .mono 0 (r.record i).recordedLength .slot := by
  rw [Rig.partOver_loadPart rfl (r.partOver_refusal ended (.slot i))]
  unfold Rig.loadDeck LoadRequest.plain
  dsimp only
  simp only [Rig.partOver, Rig.deck_setDeck_self, Rig.setDeck_setDeck]
  rfl

theorem Rig.partOver_leadOut {r : Rig} {ended : DeckSource} {i : RecordId} {c : CartId}
    (hc : (r.record i).leadOut = some c) (hready : (r.cart c).state = .ready) (hclass : (r.cart c).cls = .service) :
    (r.partOver ended).loadPart i .leadOut =
      (r.partTaken ended (.cart c) (r.cart c).form (r.cart c).cueIn (r.cart c).cueOut .leadOut, true) := by
  have hpart : (r.record i).partSource i .leadOut = some (.cart c) := congrArg (Option.map DeckSource.cart) hc
  rw [Rig.partOver_loadPart hpart (by rw [Rig.partOver_refusal]; simp [hready, hclass])]
  unfold Rig.loadDeck LoadRequest.plain
  dsimp only
  simp only [Rig.partOver, Rig.deck_setDeck_self, Rig.setDeck_setDeck]
  rfl

/-! ### Deck A's last frame event (R60, R70) -/

/-- Deck A's last frame of a part: ENDED, and the Alert controller is told (R66, R70). -/
theorem Rig.closeDeckFrame_deckA (r : Rig) {k : Deck} (hsegue : k.seguePoint = none) :
    (r.setDeck deckA k).closeDeckFrame deckA true =
      ((r.endTold deckA k.source).setDeck deckA k.done).partEnded := by
  have hquiet : k.done.seguesNow = false := Deck.seguesNow_eq_false fun p hp => absurd (hsegue.symm.trans hp) nofun
  rw [Rig.closeDeckFrame, if_pos rfl, Rig.finishDeck_set, Rig.sendSegue_not_due _ hquiet, Rig.afterDone,
    if_neg not_program_deckA, if_pos rfl]

/-- The word that deck A reads next stands in the store, whatever its source. -/
theorem State.source_inStore {s : State} {k : Deck} (hword : (match k.source with
      | .cart c => (s.rig.cart c).start
      | .slot j => s.rig.library.alertRegion.start + j.val * (s.rig.library.alertRegion.pages / 16)
      | .none => 0) * 65536 + 2 * k.position + 1 < 268435456) (start : Nat)
    (hstart : s.rig.sourceStart k.source = some start) : inStore (extentWords k.form start k.position) = true := by
  cases hsource : k.source with
  | none => rw [hsource] at hstart; cases hstart
  | cart c =>
    rw [hsource] at hstart hword
    cases hstart
    exact inStore_of_lt hword
  | slot j =>
    rw [hsource] at hstart hword
    cases hstart
    exact inStore_of_lt hword

/-- Deck A's frame event at its play end ends the part. -/
theorem State.deckFrame_partEnds {s : State} (hplays : (s.rig.deck deckA).state = .playing)
    (hsegue : (s.rig.deck deckA).seguePoint = none)
    (hend : (s.rig.deck deckA).playEnd ≤ (s.rig.deck deckA).position + 1)
    (hin : ∀ start, s.rig.sourceStart (s.rig.deck deckA).source = some start →
      inStore (extentWords (s.rig.deck deckA).form start (s.rig.deck deckA).position) = true) :
    ∃ (x : Frame) (k : Deck), s.deckFrame deckA = .next ((s.putDeck deckA x).onRig fun r =>
        ((r.endTold deckA k.source).setDeck deckA k.done).partEnded) ∧
      k.source = (s.rig.deck deckA).source ∧ k.audibleOrder = (s.rig.deck deckA).audibleOrder := by
  have haudible : (s.rig.deck deckA).audible = true := (Deck.audible_iff _).mpr (.inl hplays)
  have hclose (k : Deck) (hk : k.seguePoint = none) (x : Frame) :
      ((s.putDeck deckA x).onRig fun r => (r.setDeck deckA k).closeDeckFrame deckA true) =
        (s.putDeck deckA x).onRig fun r => ((r.endTold deckA k.source).setDeck deckA k.done).partEnded :=
    congrArg (State.onRig _) (funext fun r => r.closeDeckFrame_deckA hk)
  by_cases hpast : (s.rig.deck deckA).playEnd ≤ (s.rig.deck deckA).position
  · exact ⟨_, s.rig.deck deckA, (State.deckFrame_past (by decide) haudible hpast).trans
      (congrArg _ (hclose _ hsegue _)), rfl, rfl⟩
  · obtain ⟨x, hframe⟩ := State.deckFrame_reads (d := deckA) (Deck.fadeStep_of_not rfl) haudible (Nat.not_le.mp hpast)
      hin
    have hends : (s.rig.deck deckA).advanced.ends deckA = true := by
      have hne : deckA ≠ deckF := by decide
      simp [Deck.advanced, Deck.ends, hplays, hend, hne]
    rw [hends, Deck.looped_of_ne (by decide), hclose (s.rig.deck deckA).advanced hsegue] at hframe
    exact ⟨x, (s.rig.deck deckA).advanced, hframe, rfl, rfl⟩

/-- The record's lead-out is a part that deck A takes. -/
def Rig.takesLeadOut (r : Rig) (i : RecordId) : Prop :=
  ∃ c, (r.record i).leadOut = some c ∧ (r.cart c).state = .ready ∧ (r.cart c).cls = .service

/-- The slot follows the lead-in (R153). -/
theorem Rig.partEnded_leadIn {r : Rig} {i : RecordId} {k : Deck} (hairing : r.alerts.airing = some i)
    (horder : k.audibleOrder = (r.deck deckA).audibleOrder) (hpart : r.alerts.part = .leadIn) :
    ((r.endTold deckA k.source).setDeck deckA k.done).partEnded =
      r.partTaken k.source (.slot i) .mono 0 (r.record i).recordedLength .slot := by
  have hairing' : ((r.endTold deckA k.source).setDeck deckA k.done).alerts.airing = some i := hairing
  have hpart' : ((r.endTold deckA k.source).setDeck deckA k.done).alerts.part = .leadIn := hpart
  unfold Rig.partEnded
  rw [hairing']
  dsimp only
  rw [hpart', r.endTold_unloadDeck horder]
  exact r.partOver_slot k.source i

/-- A lead-out that deck A takes follows the slot (R153). -/
theorem Rig.partEnded_leadOut {r : Rig} {i : RecordId} {k : Deck} {c : CartId} (hairing : r.alerts.airing = some i)
    (horder : k.audibleOrder = (r.deck deckA).audibleOrder) (hpart : r.alerts.part = .slot)
    (hc : (r.record i).leadOut = some c) (hready : (r.cart c).state = .ready) (hclass : (r.cart c).cls = .service) :
    ((r.endTold deckA k.source).setDeck deckA k.done).partEnded =
      r.partTaken k.source (.cart c) (r.cart c).form (r.cart c).cueIn (r.cart c).cueOut .leadOut := by
  have hairing' : ((r.endTold deckA k.source).setDeck deckA k.done).alerts.airing = some i := hairing
  have hpart' : ((r.endTold deckA k.source).setDeck deckA k.done).alerts.part = .slot := hpart
  unfold Rig.partEnded
  rw [hairing']
  dsimp only
  rw [hpart', r.endTold_unloadDeck horder]
  dsimp only
  rw [Rig.partOver_leadOut hc hready hclass]
  rfl

/-- The last part ends the airing (R154). -/
theorem Rig.partEnded_last {r : Rig} {i : RecordId} {k : Deck} (hairing : r.alerts.airing = some i)
    (horder : k.audibleOrder = (r.deck deckA).audibleOrder)
    (hlast : r.alerts.part = .leadOut ∨ r.alerts.part = .slot ∧ ¬ r.takesLeadOut i) :
    ∃ ms, ((r.endTold deckA k.source).setDeck deckA k.done).partEnded =
      ((r.partOver k.source).reports ms).leaveAiring i .aired (.alertAired i) := by
  have hairing' : ((r.endTold deckA k.source).setDeck deckA k.done).alerts.airing = some i := hairing
  have hpart' : ((r.endTold deckA k.source).setDeck deckA k.done).alerts.part = r.alerts.part := rfl
  unfold Rig.partEnded
  rw [hairing']
  dsimp only
  rw [hpart', r.endTold_unloadDeck horder]
  rcases hlast with hpart | ⟨hpart, htakes⟩
  · rw [hpart]
    exact ⟨[], rfl⟩
  · rw [hpart]
    dsimp only
    obtain ⟨ms, hms⟩ := Rig.partOver_loadPart_refused (r := r) (ended := k.source) (i := i) (p := .leadOut)
      fun source hsource hrefusal => by
        obtain ⟨c, hc, rfl⟩ := Option.map_eq_some_iff.mp hsource
        rw [Rig.partOver_refusal] at hrefusal
        refine htakes ⟨c, hc, ?_⟩
        dsimp only at hrefusal
        split at hrefusal
        · cases hrefusal
        · split at hrefusal
          · cases hrefusal
          · simp_all
    rw [hms]
    exact ⟨ms, rfl⟩

/-- Settles O32: the last frame event of a program deck, deck F's return to cue-in, and deck A's next part or the end of
the airing. -/
theorem playEndAndFadeEndFinishTheDeck : Obligations.PlayEndAndFadeEndFinishTheDeck := by
  refine ⟨fun s d c => ?_, fun s i => ?_⟩
  · intro k hsource hword clear dueAt left kept
    have ended {t : State} {done : Deck} (h : s.EndedDeck t d done) (hsent : done.segueSent = k.segueSent)
        (hpoint : done.seguePoint = k.seguePoint) :
        (¬ dueAt done.position → t.rig = (s.rig.played d).settle) ∧
          (dueAt done.position → t.rig = ((s.rig.segued d done).releaseDeck d).settle) ∧
          (clear (dueAt done.position) → left t) ∧ kept t := by
      have hdue : done.seguesNow = true ↔ dueAt done.position := by
        rw [Deck.seguesNow_iff, hsent, hpoint]
      have hquiet (hn : ¬ dueAt done.position) : done.seguesNow = false :=
        Bool.not_eq_true _ ▸ mt hdue.mp hn
      exact ⟨fun hn => h.quiet (hquiet hn), fun hd => h.segued (hdue.mpr hd),
        fun hc => h.left (hc.imp_left hquiet), h.store, h.ordered.library, h.ordered.alerts, h.ordered.delay, h.clock⟩
    refine ⟨?_, ?_, ?_⟩
    · intro hd hend hstate p fades done
      obtain ⟨t, hframe, hended⟩ := State.deckFrame_last hd hsource hword hend hstate
      have haudible : k.audible = true := k.audible_iff.mpr (hstate.imp_right And.left)
      have hnext : k.playEnd ≤ k.nextPosition := by
        unfold Deck.nextPosition
        split
        · assumption
        · exact hend
      refine ⟨t, (exec_playEnd_due haudible hnext).trans hframe, hframe, fun hf => ?_, ended hended rfl rfl⟩
      obtain ⟨hplays, hlength, hlt⟩ := hf
      have hlast : k.position + 1 = k.playEnd := Nat.le_antisymm hlt hend
      have hauto : k.autoFades d = true := (Deck.autoFades_last hd hlast).mpr ⟨hplays, hlength⟩
      have hone : k.playEnd - k.position = 1 := by omega
      refine (exec_fadeEnd_due ?_ ?_ ?_).trans hframe
      all_goals rw [Deck.fadeStep_eq, hauto]
      · rfl
      · exact hlt
      · exact Nat.le_of_eq hone
    · intro hd hstate hpos hrem p done
      obtain ⟨t, hframe, hended⟩ := State.deckFrame_fadeEnd hd hsource hword hstate hpos hrem
      have hstep : k.fadeStep d = k := Deck.fadeStep_plain (.inr hstate) d
      exact ⟨t, (exec_fadeEnd_due (hstep.symm ▸ hstate) (hstep.symm ▸ hpos)
        (hstep.symm ▸ Nat.le_of_eq hrem)).trans hframe, hframe, ended hended rfl rfl⟩
    · intro hd hplays hcue hpos hsegue
      subst hd
      obtain ⟨t, hframe, ht⟩ := State.deckFrame_loops hsource hword hplays hpos hsegue
      have hnext : k.nextPosition = k.playEnd :=
        (Deck.nextPosition_of_lt (hpos ▸ Nat.lt_succ_self _)).trans hpos
      exact ⟨t, (exec_playEnd_due (k.audible_iff.mpr (.inl hplays)) (Nat.le_of_eq hnext.symm)).trans hframe, ht⟩
  · intro k a start outTaken next hairing hplays hsegue hend hword
    obtain ⟨x, k', hframe, hsource, horder⟩ := State.deckFrame_partEnds hplays hsegue hend
      (State.source_inStore hword)
    have hnext : k.playEnd ≤ k.nextPosition := by
      unfold Deck.nextPosition
      split
      · assumption
      · exact hend
    refine ⟨_, (exec_playEnd_due (k.audible_iff.mpr (.inl hplays)) hnext).trans hframe, hframe, rfl, rfl, rfl, rfl,
      fun hpart => ?_, fun c hpart hc hready hclass => ?_, fun hlast => ?_⟩
    · exact (Rig.partEnded_leadIn hairing horder hpart).trans (by rw [hsource]; rfl)
    · exact (Rig.partEnded_leadOut hairing horder hpart hc hready hclass).trans (by rw [hsource]; rfl)
    · obtain ⟨ms, hended⟩ := Rig.partEnded_last (r := s.rig) (k := k') hairing horder hlast
      have hrecord (j : RecordId) : ((s.rig.partOver k'.source).reports ms).record j = s.rig.record j := by
        rw [Rig.reports_eq]
        rfl
      have hempty : (((s.rig.partOver k'.source).reports ms).deck deckA).state = .empty := by
        rw [Rig.reports_deck, Rig.partOver, Rig.deck_setDeck_self]
        rfl
      have hrig : ((s.putDeck deckA x).onRig fun r =>
          ((r.endTold deckA k'.source).setDeck deckA k'.done).partEnded).rig = _ := hended
      rw [hrig]
      exact ⟨Rig.leaveAiring_record _ i (by decide) _, fun hqueue =>
        Rig.leaveAiring_ends (by decide) _ (fun j hj => by rw [hrecord]; exact hqueue j hj) hempty⟩

end Sys2Proof.Machine
end

section
/-!
SUPPORT and the statement O34: a deck's prefetch completion (R59, R79, R80, R82, R153, R165).
-/

namespace Sys2Proof.Machine

/-- The rig once deck `d` is CUED at its cue-in, with the report LOADED (R59). -/
def Rig.cued (r : Rig) (d : DeckId) : Rig :=
  ({ r with egress := r.egress.report (.deckLoaded d (r.deck d).source) } : Rig).setDeck d
    { r.deck d with state := .cued, position := (r.deck d).cueIn }

theorem Rig.prefetched_program (r : Rig) {d : DeckId} (hd : isProgramDeck d = true) :
    r.prefetched d = (r.cued d).orderPrefetched d := by
  rw [Rig.prefetched, if_pos hd]
  rfl

theorem Rig.prefetched_deckA (r : Rig) : r.prefetched deckA = (r.cued deckA).startDeck deckA := rfl

theorem Rig.prefetched_deckF (r : Rig) : r.prefetched deckF = (r.cued deckF).fallbackPrefetched := rfl

theorem Rig.cued_deck (r : Rig) (d : DeckId) :
    (r.cued d).deck d = { r.deck d with state := .cued, position := (r.deck d).cueIn } := Rig.deck_setDeck_self _ d _

/-- A deck that is CUED defers nothing. -/
theorem Rig.cued_deferred (r : Rig) (d : DeckId) : (r.cued d).deferred = r.deferred := by
  have hflag (b : DeckId) : ((r.cued d).deck b).pausedForAlert = (r.deck b).pausedForAlert := by
    unfold Rig.cued
    rw [Rig.deck_setDeck]
    split
    · subst_vars
      rfl
    · rfl
  simp only [Rig.deferred, Rig.anyPausedForAlert, hflag]
  rfl

/-- A deck that is not the program's starts at once, and nothing is cut (R153, R165). -/
theorem Rig.cued_startDeck (r : Rig) {d : DeckId} (hd : isProgramDeck d ≠ true) :
    (r.cued d).startDeck d = { r with
      egress := r.egress.report (.deckLoaded d (r.deck d).source)
      decks := { r.decks with
        decks := vset r.decks.decks d { r.deck d with
          state := .playing, position := (r.deck d).cueIn
          audibleOrder := (r.decks.lastAudible + 1) % 4294967296 }
        lastAudible := (r.decks.lastAudible + 1) % 4294967296 } } := by
  rw [Rig.startDeck, if_neg hd, Rig.makeAudible, Rig.cued_deck]
  simp only [Rig.cued, Rig.setDeck_setDeck]
  rfl

/-- Nothing starts at the completion of a deck that the first non-airing entry does not hold, or while it is not due. -/
theorem Rig.orderPrefetched_settles {r : Rig} {d : DeckId} (h : r.deferred = true ∨
    ∀ x, firstNonAiring r.order.entries = some x → x.deck ≠ some d ∨ dueIn r.order.entries x = false) :
    r.orderPrefetched d = r.settle := by
  unfold Rig.orderPrefetched
  split
  · rename_i e he
    obtain ⟨hdeferred, hfirst, -, hdue, -⟩ := (r.startable_iff e).mp he
    refine if_neg fun hd => ?_
    rcases h with h | h
    · exact Bool.false_ne_true (hdeferred.symm.trans h)
    · rcases h e hfirst with hdeck | hnot
      · exact hdeck hd
      · exact Bool.false_ne_true (hnot.symm.trans hdue)
  · rfl

/-- The entry that can start at the completion is started, with LATE_START before where its mode is SEGUE (R80, R82). -/
theorem Rig.orderPrefetched_starts {r : Rig} {d : DeckId} {x : Entry} (hstart : r.startable = some x)
    (hd : x.deck = some d) : r.orderPrefetched d =
      ((if x.mode = .segue then r.report (.deckLateStart d x.tag) else r).startEntry x
        x.mode.cause).assignThenSettle := by
  rw [Rig.orderPrefetched, hstart]
  exact if_pos hd

/-- Settles O34: the completion by the deck's owner, and a start with and without a cut. -/
theorem prefetchCompleteCuesTheDeck : Obligations.PrefetchCompleteCuesTheDeck := by
  intro s d k order told cued
  refine ⟨fun hnot => ?_, fun hloading hage => ?_⟩
  · rw [exec_prefetchComplete, whenDue_not]
    rcases hnot with hstate | hage
    · exact Bool.and_eq_false_imp.mpr fun h => absurd (beq_iff_eq.mp h) hstate
    · exact Bool.and_eq_false_imp.mpr fun _ => decide_eq_false (by rw [hage]; exact Nat.not_succ_le_zero 0)
  · have hexec : exec (.prefetchComplete d) s = .next { s with rig := s.rig.prefetched d } :=
      exec_prefetchComplete_due hloading hage
    have hcued : cued = s.rig.cued d := rfl
    rw [hexec, hcued]
    refine ⟨fun hd hquiet => ?_, fun x hd hdeferred hfirst hdeck hstate hdue => ?_, fun hother => ?_,
      fun hd hunused => ?_⟩
    · rw [s.rig.prefetched_program (program_isProgramDeck hd), Rig.orderPrefetched_settles]
      exact hquiet.imp_left (s.rig.cued_deferred d).trans
    · intro r cause
      have hprogram := program_isProgramDeck hd
      have hstart : (s.rig.cued d).startable = some x := (Rig.startable_iff _ x).mpr
        ⟨(s.rig.cued_deferred d).trans hdeferred, hfirst, hstate, hdue, d, hdeck, by rw [Rig.cued_deck]⟩
      rw [s.rig.prefetched_program hprogram, Rig.orderPrefetched_starts hstart hdeck, StartMode.cause_eq]
      have hr : (r.deck d).state = .cued := by
        have hrd : r.deck d = (s.rig.cued d).deck d := by
          show (if x.mode = .segue then cued.report (.deckLateStart d x.tag) else cued).deck d = _
          split <;> rfl
        rw [hrd, Rig.cued_deck]
      refine ⟨fun hfew => ?_, fun o ho => ?_⟩
      · rw [← Rig.startEntry_few hdeck hprogram cause hfew]
        rfl
      · rw [← Rig.startEntry_cut hdeck hprogram cause ho (Rig.cutFirst_ne ho (Deck.not_audible_of_cued hr))]
        rfl
    · rcases hother with rfl | ⟨rfl, hused⟩
      · rw [Rig.prefetched_deckA, Rig.cued_startDeck s.rig not_program_deckA]
      · have hused' : (s.rig.cued deckF).airSwitch.usesFallback = true := hused
        rw [Rig.prefetched_deckF, Rig.fallbackPrefetched, if_pos hused', Rig.cued_startDeck s.rig not_program_deckF]
    · subst hd
      have hunused' : ¬ (s.rig.cued deckF).airSwitch.usesFallback = true := by
        rw [show (s.rig.cued deckF).airSwitch.usesFallback = false from hunused]
        nofun
      rw [Rig.prefetched_deckF, Rig.fallbackPrefetched, if_neg hunused']

end Sys2Proof.Machine
end

section
/-!
SUPPORT and the statement O35: the console's deck requests (R56, R57, R63 to R67, R71).
-/

namespace Sys2Proof.Machine

/-! ### A request that is carried out, and what follows its reply -/

/-- A request that its checks pass. -/
theorem answer_carriedOnRig {α : Type} {s : State} {e : Egress} {tag : Tag} {k : RequestKind}
    (he : s.rig.egress.secure 1 = some e) {check : Rig → Except Status α} {f : Rig → α → Rig} {a : α}
    (hc : check { s.rig with egress := e } = .ok a) :
    (.next (s.takeOnRig fun r => r.judged tag k (check r) (f r)) : Answer) =
      .next ((s.received e).onRig fun r => f r a).release := by
  rw [State.takeOnRig_room _ he, hc, Rig.judged_ok]
  rfl

/-- Only reports are raised before the reply, and the running order follows it (R197). -/
theorem State.release_replied {s : State} {e : Egress} (he : s.rig.egress.secure 1 = some e) (tag : Tag)
    (k : RequestKind) {g h : Rig → Rig} (hg : e.Told (g { s.rig with egress := e }).egress)
    (hh : ∀ r : Rig, r.Ordered (h r)) :
    ((s.received e).onRig fun r => h ((g r).reply tag k .done [])).release = { s with
      inbound := none
      rig := h { g { s.rig with egress := e } with
        egress := (g { s.rig with egress := e }).egress.answered [doneWith tag k []] } } := by
  have hreply : (g { s.rig with egress := e }).reply tag k .done [] = { g { s.rig with egress := e } with
      egress := (g { s.rig with egress := e }).egress.answered [doneWith tag k []] } := by
    obtain ⟨ms, hms⟩ := hg
    have hpush := Egress.reports_push he ms (doneWith tag k [])
    rw [← hms] at hpush
    rw [← hpush]
    rfl
  have hreserved : (h ((g { s.rig with egress := e }).reply tag k .done [])).egress.reserved = 0 := by
    rw [hreply]
    exact (hh _).told.reserved
  unfold State.release State.onRig State.received
  dsimp only
  rw [← hreserved, hreply]

/-! ### The checks of R71 -/

theorem Rig.anyPausedForAlert_iff (r : Rig) :
    r.anyPausedForAlert = true ↔ ∃ d : DeckId, d.val < 4 ∧ (r.deck d).pausedForAlert = true := by
  unfold Rig.anyPausedForAlert
  rw [List.any_eq_true]
  refine exists_congr fun d => and_congr_left' ?_
  rw [mem_programDecks_iff]
  exact decide_eq_true_iff

/-- The checks in their order: the deck's number, an alert that holds it back, and the legality table. -/
theorem Rig.deckCheck_decided (r : Rig) (d : DeckId) (q : DeckRequest) : r.deckCheck d q = decided
    [(!isProgramDeck d, .denied), ((q == .start || q == .resume) && r.anyPausedForAlert, .alertOnAir),
      (!(r.deck d).state.allows q, .state)] d := by
  unfold Rig.deckCheck
  rw [require_index, ok_bind]
  exact refuse_decided rfl (refuse_decided rfl (refuse_decided rfl decided_nil))

theorem Rig.deckCheck_denied (r : Rig) {d : DeckId} (hd : 4 ≤ d.val) (q : DeckRequest) :
    r.deckCheck d q = .error .denied := by
  have hprogram : isProgramDeck d = false := decide_eq_false (Nat.not_lt.mpr hd)
  rw [Rig.deckCheck_decided, hprogram]
  rfl

theorem Rig.deckCheck_alertOnAir {r : Rig} {d : DeckId} (hd : d.val < 4) {q : DeckRequest}
    (hq : (q == .start || q == .resume) = true) (hpaused : r.anyPausedForAlert = true) :
    r.deckCheck d q = .error .alertOnAir := by
  rw [Rig.deckCheck_decided, program_isProgramDeck hd, hq, hpaused]
  rfl

/-- An alert does not hold the request back. -/
def Rig.freeFor (r : Rig) (q : DeckRequest) : Prop := (q == .start || q == .resume) = true → r.anyPausedForAlert = false

theorem Rig.freeFor.eq_false {r : Rig} {q : DeckRequest} (h : r.freeFor q) :
    ((q == .start || q == .resume) && r.anyPausedForAlert) = false := Bool.and_eq_false_imp.mpr h

theorem Rig.deckCheck_state {r : Rig} {d : DeckId} (hd : d.val < 4) {q : DeckRequest} (hq : r.freeFor q)
    (hstate : (r.deck d).state.allows q = false) : r.deckCheck d q = .error .state := by
  rw [Rig.deckCheck_decided, program_isProgramDeck hd, hq.eq_false, hstate]
  rfl

theorem Rig.deckCheck_passes {r : Rig} {d : DeckId} (hd : d.val < 4) {q : DeckRequest} (hq : r.freeFor q)
    (hstate : (r.deck d).state.allows q = true) : r.deckCheck d q = .ok d := by
  rw [Rig.deckCheck_decided, program_isProgramDeck hd, hq.eq_false, hstate]
  rfl

theorem Rig.freeFor_of_flags {r : Rig} (h : ∀ x : DeckId, x.val < 4 → (r.deck x).pausedForAlert = false)
    (q : DeckRequest) : r.freeFor q := fun _ => by
  rw [← Bool.not_eq_true, Rig.anyPausedForAlert_iff]
  rintro ⟨x, hx, hflag⟩
  exact Bool.false_ne_true ((h x hx).symm.trans hflag)

/-! ### The legality table (R57) -/

theorem DeckState.allows_fade (x : DeckState) : x.allows .fade = true ↔ x = .playing ∨ x = .fading := by
  cases x <;> decide

theorem DeckState.allows_pause (x : DeckState) : x.allows .pause = true ↔ x = .playing ∨ x = .fading := by
  cases x <;> decide

theorem DeckState.allows_cut (x : DeckState) :
    x.allows .cut = true ↔ x = .cued ∨ x = .playing ∨ x = .fading ∨ x = .paused := by
  cases x <;> decide

theorem DeckState.allows_start_iff (x : DeckState) : x.allows .start = true ↔ x = .cued := by
  cases x <;> decide

theorem DeckState.allows_resume (x : DeckState) : x.allows .resume = true ↔ x = .paused := by
  cases x <;> decide

/-! ### What the requests do to their deck (R63 to R67) -/

theorem Deck.paused_request (k : Deck) : k.paused false = { k with
    state := .paused
    prior := some (if k.state = .fading then PriorState.fading else PriorState.playing) } := by
  unfold Deck.paused
  simp only [Bool.false_or, beq_iff_eq]

/-- A fade lasts no longer than the frames left (R63). -/
theorem Deck.fadedOver_eq (k : Deck) (frames : Nat) : k.fadedOver frames = { k with
    state := .fading
    fadeSpan := min frames (k.playEnd - k.position), fadeRemaining := min frames (k.playEnd - k.position) } := by
  have hmin (a b : Nat) : (if a < b then a else b) = min b a := by
    split <;> omega
  unfold Deck.fadedOver
  simp only [hmin]

theorem Deck.requestedFade_eq (k : Deck) : k.fadedOver k.requestedFade =
    { k with
      state := .fading
      fadeSpan := min (if k.fadeLength = 0 then 96000 else k.fadeLength) (k.playEnd - k.position)
      fadeRemaining := min (if k.fadeLength = 0 then 96000 else k.fadeLength) (k.playEnd - k.position) } :=
  k.fadedOver_eq _

theorem Rig.fadeDeck_playing {r : Rig} {d : DeckId} (hstate : (r.deck d).state = .playing)
    (hpos : (r.deck d).position < (r.deck d).playEnd) (frames : Nat) :
    r.fadeDeck d frames = r.setDeck d ((r.deck d).fadedOver frames) := by
  unfold Rig.fadeDeck
  dsimp only
  rw [hstate, if_neg (by decide), if_neg (Nat.not_le.mpr hpos)]

theorem Rig.fadeDeck_not_playing {r : Rig} {d : DeckId} (hstate : (r.deck d).state ≠ .playing) (frames : Nat) :
    r.fadeDeck d frames = r := if_pos (bne_iff_ne.mpr hstate)

theorem Deck.resumed_eq (k : Deck) (order : Nat) : k.resumed order = { k with
    state := if k.prior = some PriorState.fading then DeckState.fading else DeckState.playing
    prior := none, pausedForAlert := false, audibleOrder := order } := by
  unfold Deck.resumed
  simp only [beq_iff_eq]

/-- A cut takes the deck's entry from the list and leaves the deck EMPTY (R65, R66, R85). -/
theorem Rig.cutDeck_leaves (r : Rig) {d : DeckId} (hd : isProgramDeck d = true) :
    (∀ x ∈ (r.cutDeck d).order.entries, x.tag ≠ (r.deck d).entryTag) ∧ (r.cutDeck d).restsAt d ∧
      r.Ordered (r.cutDeck d) := by
  have gone (es : List Entry) (tag : Nat) : ∀ x ∈ withoutTag es tag, x.tag ≠ tag :=
    fun x hx => bne_iff_ne.mp (List.mem_filter.mp hx).2
  unfold Rig.cutDeck
  split
  · refine ⟨gone _ _, .inl ?_, ⟨[_], rfl⟩, rfl, rfl, rfl, rfl, rfl⟩
    exact Rig.unloadDeck_state (r.setEntries (withoutTag r.order.entries (r.deck d).entryTag)) d
  · refine ⟨?_, .inl ?_, r.endDeck_ordered d .cut⟩
    · rw [r.endDeck_cut hd]
      exact gone _ _
    · rw [r.endDeck_deck hd, if_pos rfl]
      rfl

/-- The rig after operations of the running order and the decks. -/
theorem Rig.Ordered.eq {r r' : Rig} (h : r.Ordered r') :
    r' = { r with egress := r'.egress, decks := r'.decks, order := r'.order } := by
  obtain ⟨-, hlibrary, hdelay, halerts, hswitch, hmonitors⟩ := h
  obtain ⟨_, _, _, _, _, _, _, _⟩ := r'
  cases hlibrary
  cases hdelay
  cases halerts
  cases hswitch
  cases hmonitors
  rfl

end Sys2Proof.Machine
end

section
/-!
SUPPORT and the statement O35: the deck requests, one by one.
-/

namespace Sys2Proof.Machine

section
variable {s : State} {e : Egress} {tag : Tag} {d : DeckId}

/-! ### Refusals -/

theorem execDeckFade_refused (he : s.rig.egress.secure 1 = some e) {x : Status}
    (h : s.rig.deckCheck d .fade = .error x) :
    exec (.deckFade tag d) s = .next (s.answered e [refusedWith tag .deckFade x]) := answer_refusedOnRig he h

theorem execDeckCut_refused (he : s.rig.egress.secure 1 = some e) {x : Status} (h : s.rig.deckCheck d .cut = .error x) :
    exec (.deckCut tag d) s = .next (s.answered e [refusedWith tag .deckCut x]) := answer_refusedOnRig he h

theorem execDeckPause_refused (he : s.rig.egress.secure 1 = some e) {x : Status}
    (h : s.rig.deckCheck d .pause = .error x) :
    exec (.deckPause tag d) s = .next (s.answered e [refusedWith tag .deckPause x]) := answer_refusedOnRig he h

theorem execDeckResume_refused (he : s.rig.egress.secure 1 = some e) {x : Status}
    (h : s.rig.deckCheck d .resume = .error x) :
    exec (.deckResume tag d) s = .next (s.answered e [refusedWith tag .deckResume x]) := answer_refusedOnRig he h

theorem execDeckStart_refused (he : s.rig.egress.secure 1 = some e) {x : Status}
    (h : s.rig.deckStartCheck d = .error x) :
    exec (.deckStart tag d) s = .next (s.answered e [refusedWith tag .deckStart x]) := answer_refusedOnRig he h

theorem Rig.deckStartCheck_first {r : Rig} {x : Status} (h : r.deckCheck d .start = .error x) :
    r.deckStartCheck d = .error x := bind_refused h _

/-! ### Pauses and fades (R63, R64) -/

theorem execDeckPause_carried (he : s.rig.egress.secure 1 = some e) (hd : d.val < 4)
    (hstate : (s.rig.deck d).state = .playing ∨ (s.rig.deck d).state = .fading) :
    exec (.deckPause tag d) s = .next ((s.answered e [doneWith tag .deckPause []]).onRig
      (·.setDeck d ((s.rig.deck d).paused false))) := by
  have hcheck : ({ s.rig with egress := e } : Rig).deckCheck d .pause = .ok d :=
    Rig.deckCheck_passes hd (fun h => by cases h) ((DeckState.allows_pause _).mpr hstate)
  refine (answer_carriedOnRig (f := fun r d => (r.setDeck d ((r.deck d).paused false)).reply tag .deckPause .done [])
    he hcheck).trans ?_
  exact congrArg Host.Outcome.next (State.received_replied he tag .deckPause []
    (f := fun r => r.setDeck d ((r.deck d).paused false)) fun _ _ => rfl)

theorem execDeckFade_carried (he : s.rig.egress.secure 1 = some e) (hd : d.val < 4)
    (hstate : (s.rig.deck d).state = .playing ∨ (s.rig.deck d).state = .fading) :
    exec (.deckFade tag d) s = .next { s with
      inbound := none
      rig := ({ ({ s.rig with egress := e } : Rig).fadeDeck d (s.rig.deck d).requestedFade with
        egress := (({ s.rig with egress := e } : Rig).fadeDeck d (s.rig.deck d).requestedFade).egress.answered
          [doneWith tag .deckFade []] }).settle } := by
  have hcheck : ({ s.rig with egress := e } : Rig).deckCheck d .fade = .ok d :=
    Rig.deckCheck_passes hd (fun h => by cases h) ((DeckState.allows_fade _).mpr hstate)
  refine (answer_carriedOnRig (f := fun r d =>
    ((r.fadeDeck d (r.deck d).requestedFade).reply tag .deckFade .done []).settle) he hcheck).trans ?_
  exact congrArg Host.Outcome.next (State.release_replied he tag .deckFade
    (g := fun r => r.fadeDeck d (r.deck d).requestedFade) (Rig.fadeDeck_ordered _ d _).told Rig.settle_ordered)

/-! ### Cuts (R65) -/

theorem execDeckCut_carried (he : s.rig.egress.secure 1 = some e) (hd : d.val < 4)
    (hstate : (s.rig.deck d).state.allows .cut = true) :
    exec (.deckCut tag d) s = .next { s with
      inbound := none
      rig := ({ ({ s.rig with egress := e } : Rig).cutDeck d with
        egress := (({ s.rig with egress := e } : Rig).cutDeck d).egress.answered
          [doneWith tag .deckCut []] }).settle } := by
  have hcheck : ({ s.rig with egress := e } : Rig).deckCheck d .cut = .ok d :=
    Rig.deckCheck_passes hd (fun h => by cases h) hstate
  refine (answer_carriedOnRig (f := fun r d => ((r.cutDeck d).reply tag .deckCut .done []).settle) he hcheck).trans ?_
  exact congrArg Host.Outcome.next (State.release_replied he tag .deckCut
    (g := fun r => r.cutDeck d) (Rig.cutDeck_ordered _ d).told Rig.settle_ordered)

/-- The queue after a request: the earlier replies and then its own, whatever reports stand around it. -/
theorem repliesOf_settled {e : Egress} {r : Rig} (h : e.Told r.egress) (k : RequestKind) :
    repliesOf (({ r with egress := r.egress.answered [doneWith tag k []] } : Rig).settle).egress.queue =
      repliesOf e.queue ++ [doneWith tag k []] :=
  ((Rig.settle_ordered _).told.replies.trans (repliesOf_answered _ tag k)).trans (congrArg (· ++ _) h.replies)

/-! ### Resumes (R64, R67) -/

theorem Rig.resumeDeck_few {r : Rig} (hfew : (programDecks.filter fun x => (r.deck x).audible).length < 2)
    (d : DeckId) : r.resumeDeck d = { r with decks :=
      { decks := vset r.decks.decks d ((r.deck d).resumed ((r.decks.lastAudible + 1) % 4294967296))
        lastAudible := (r.decks.lastAudible + 1) % 4294967296 } } := by
  rw [Rig.resumeDeck, Rig.audibleRule_few hfew]
  rfl

theorem Rig.resumeDeck_cut {r : Rig} {o : DeckId} (ho : r.cutFirst o) (hne : d ≠ o) :
    r.resumeDeck d = { r with
      egress := r.cutTold r.egress o
      decks :=
        { decks := vset (r.decksCut o) d ((r.deck d).resumed ((r.decks.lastAudible + 1) % 4294967296))
          lastAudible := (r.decks.lastAudible + 1) % 4294967296 }
      order := { r.order with entries := r.entriesCut o } } := by
  rw [Rig.resumeDeck, Rig.audibleRule_cut ho, Rig.makeAudible, Rig.cutOff_deck r hne]
  rfl

theorem execDeckResume_carried (he : s.rig.egress.secure 1 = some e) (hd : d.val < 4)
    (hstate : (s.rig.deck d).state = .paused)
    (hflags : ∀ x : DeckId, x.val < 4 → (s.rig.deck x).pausedForAlert = false) :
    exec (.deckResume tag d) s = .next { s with
      inbound := none
      rig := ({ ({ s.rig with egress := e } : Rig).resumeDeck d with
        egress := (({ s.rig with egress := e } : Rig).resumeDeck d).egress.answered
          [doneWith tag .deckResume []] }).settle } := by
  have hcheck : ({ s.rig with egress := e } : Rig).deckCheck d .resume = .ok d :=
    Rig.deckCheck_passes hd (Rig.freeFor_of_flags (r := { s.rig with egress := e }) hflags _)
      ((DeckState.allows_resume _).mpr hstate)
  refine (answer_carriedOnRig (f := fun r d => ((r.resumeDeck d).reply tag .deckResume .done []).settle)
    he hcheck).trans ?_
  exact congrArg Host.Outcome.next (State.release_replied he tag .deckResume
    (g := fun r => r.resumeDeck d) (Rig.resumeDeck_ordered _ d).told Rig.settle_ordered)

end

/-- Settles O35: the refusals of the legality table, and each request on a deck that it allows. -/
theorem deckRequestsFollowTheLegalityTable : Obligations.DeckRequestsFollowTheLegalityTable := by
  refine ⟨fun s e tag d he => ⟨fun hd => ?_, fun hd hpaused => ?_, fun hd hplays hfades => ?_, fun hd hflags => ?_⟩,
    fun s e tag d he hd => ?_⟩
  · have denied (q : DeckRequest) : s.rig.deckCheck d q = .error .denied := s.rig.deckCheck_denied hd q
    exact ⟨execDeckStart_refused he (Rig.deckStartCheck_first (denied _)), execDeckFade_refused he (denied _),
      execDeckCut_refused he (denied _), execDeckPause_refused he (denied _), execDeckResume_refused he (denied _)⟩
  · have hany := s.rig.anyPausedForAlert_iff.mpr hpaused
    exact ⟨execDeckStart_refused he (Rig.deckStartCheck_first (Rig.deckCheck_alertOnAir hd rfl hany)),
      execDeckResume_refused he (Rig.deckCheck_alertOnAir hd rfl hany)⟩
  · have refused {q : DeckRequest} (hq : s.rig.freeFor q) (hnot : ¬ (s.rig.deck d).state.allows q = true) :
        s.rig.deckCheck d q = .error .state := Rig.deckCheck_state hd hq (Bool.not_eq_true _ ▸ hnot)
    have hnot : ¬ ((s.rig.deck d).state = .playing ∨ (s.rig.deck d).state = .fading) := not_or.mpr ⟨hplays, hfades⟩
    refine ⟨execDeckFade_refused he (refused (fun h => by cases h) (mt (DeckState.allows_fade _).mp hnot)),
      execDeckPause_refused he (refused (fun h => by cases h) (mt (DeckState.allows_pause _).mp hnot)),
      fun hcued hpaused => execDeckCut_refused he (refused (fun h => by cases h) (mt (DeckState.allows_cut _).mp ?_))⟩
    exact fun h => h.elim hcued fun h => h.elim hplays fun h => h.elim hfades hpaused
  · have refused {q : DeckRequest} (hnot : ¬ (s.rig.deck d).state.allows q = true) :
        s.rig.deckCheck d q = .error .state :=
      Rig.deckCheck_state hd (Rig.freeFor_of_flags hflags q) (Bool.not_eq_true _ ▸ hnot)
    exact ⟨fun hcued => execDeckStart_refused he
        (Rig.deckStartCheck_first (refused (mt (DeckState.allows_start_iff _).mp hcued))),
      fun hpaused => execDeckResume_refused he (refused (mt (DeckState.allows_resume _).mp hpaused))⟩
  · intro k
    refine ⟨fun hstate => ?_, fun hplays hpos => ?_, fun hfading => ?_, fun hstate => ?_, fun hpaused hflags => ?_⟩
    · rw [execDeckPause_carried he hd hstate, Deck.paused_request]
    · intro n
      have hspan : (s.rig.deck d).fadedOver (s.rig.deck d).requestedFade =
          { s.rig.deck d with state := .fading, fadeSpan := n, fadeRemaining := n } := Deck.requestedFade_eq _
      rw [execDeckFade_carried he hd (.inl hplays),
        Rig.fadeDeck_playing (r := { s.rig with egress := e }) hplays hpos, show
          ({ s.rig with egress := e } : Rig).deck d = s.rig.deck d from rfl, hspan]
      rfl
    · have hnot : ({ s.rig with egress := e } : Rig).fadeDeck d (s.rig.deck d).requestedFade =
          { s.rig with egress := e } :=
        Rig.fadeDeck_not_playing (r := { s.rig with egress := e }) (fun h => nomatch hfading.symm.trans h) _
      rw [execDeckFade_carried he hd (.inr hfading), hnot]
      rfl
    · obtain ⟨htags, hrest, hordered⟩ := ({ s.rig with egress := e } : Rig).cutDeck_leaves (program_isProgramDeck hd)
      have hleft := Rig.settle_leftBy (r := { ({ s.rig with egress := e } : Rig).cutDeck d with
        egress := (({ s.rig with egress := e } : Rig).cutDeck d).egress.answered [doneWith tag .deckCut []] })
        htags hrest
      refine ⟨_, execDeckCut_carried he hd ((DeckState.allows_cut _).mpr hstate), hleft.1, hleft.2,
        repliesOf_settled hordered.told _, rfl, ?_⟩
      refine ((Rig.settle_ordered _).eq).trans ?_
      rw [hordered.eq]
    · intro order resumed
      have hresumed : (s.rig.deck d).resumed order = resumed := Deck.resumed_eq _ _
      refine ⟨fun hfew => ?_, fun o ho => ?_⟩
      · rw [execDeckResume_carried he hd hpaused hflags, Rig.resumeDeck_few (r := { s.rig with egress := e }) hfew,
          ← hresumed]
        rfl
      · have hne : d ≠ o := Rig.cutFirst_ne ho (by
          rw [Deck.audible, show (s.rig.deck d).state = .paused from hpaused]
          rfl)
        rw [execDeckResume_carried he hd hpaused hflags,
          Rig.resumeDeck_cut (r := { s.rig with egress := e }) ho hne, ← hresumed]
        rfl

end Sys2Proof.Machine
end

section
/-!
SUPPORT. The leader of a list (R81), what is due (R82, R83), and the arranging of a list in which no WAITING entry
stands before an ASSIGNED one (R77, R78).
-/

namespace Sys2Proof.Machine

/-! ### The leader (R81) -/

theorem leader_eq (es : List Entry) : leader es = (es.filter fun e => e.state == .airing).foldl
    (pickBest fun e b => serialGreater e.startNumber b.startNumber) none := by
  unfold leader
  congr 1
  funext best e
  cases best <;> rfl

theorem leader_greatest {es : List Entry} {l : Entry} (hl : l ∈ es) (hairing : l.state = .airing)
    (hgreatest : ∀ y ∈ es, y.state = .airing → y ≠ l → serialGreater l.startNumber y.startNumber = true) :
    leader es = some l := by
  rw [leader_eq]
  refine foldl_pickBest_eq (List.mem_filter.mpr ⟨hl, beq_iff_eq.mpr hairing⟩) fun y hy hyl => ?_
  obtain ⟨hmem, hy⟩ := List.mem_filter.mp hy
  have hgreater := hgreatest y hmem (beq_iff_eq.mp hy) hyl
  exact ⟨hgreater, serialGreater_asymm hgreater⟩

theorem leader_none_iff (es : List Entry) : leader es = none ↔ ∀ y ∈ es, y.state ≠ .airing := by
  rw [leader_eq]
  refine ⟨fun h y hy hairing => ?_, fun h => ?_⟩
  · obtain ⟨b, -, hb⟩ := foldl_pickBest_mem (fun e b : Entry => serialGreater e.startNumber b.startNumber)
      (List.ne_nil_of_mem (List.mem_filter (p := fun e => e.state == .airing).mpr ⟨hy, beq_iff_eq.mpr hairing⟩))
    rw [h] at hb
    cases hb
  · rw [List.filter_eq_nil_iff.mpr fun y hy hairing => h y hy (beq_iff_eq.mp hairing)]
    rfl

/-! ### What is due (R82, R83) -/

theorem Rig.isDue_iff (r : Rig) (x : Entry) :
    r.isDue x ↔ firstNonAiring r.order.entries = some x ∧ dueIn r.order.entries x = true := by
  refine and_congr_right fun _ => ?_
  unfold dueIn
  cases x.mode
  case manual => exact ⟨False.elim, fun h => Bool.false_ne_true h⟩
  case timed => exact Iff.rfl
  case segue => cases leader r.order.entries <;> simp

theorem Rig.startable_none_of_deferred {r : Rig} (h : r.deferred = true) : r.startable = none := if_pos h

/-- Nothing starts while the entry that is due has no CUED deck (R79). -/
theorem Rig.startable_none_of_not_cued {r : Rig}
    (h : ∀ x, r.isDue x → ∀ d, x.deck = some d → (r.deck d).state ≠ .cued) : r.startable = none := by
  cases hx : r.startable with
  | none => rfl
  | some x =>
    obtain ⟨-, hfirst, -, hdue, d, hd, hcued⟩ := (r.startable_iff x).mp hx
    exact absurd hcued (h x ((r.isDue_iff x).mpr ⟨hfirst, hdue⟩) d hd)

/-! ### A list with its WAITING entries last -/

/-- No WAITING entry stands before an ASSIGNED one. -/
def waitingLast (es : List Entry) : Prop :=
  ∃ front back : List Entry, es = front ++ back ∧ (∀ y ∈ front, y.state ≠ .waiting) ∧ ∀ y ∈ back, y.state ≠ .assigned

theorem waitingLast.not_before {es : List Entry} (h : waitingLast es) : waitingBeforeAssigned es = false := by
  obtain ⟨front, back, rfl, hfront, hback⟩ := h
  unfold waitingBeforeAssigned
  rw [List.dropWhile_append_of_pos fun y hy => bne_iff_ne.mpr (hfront y hy), List.any_eq_false]
  exact fun y hy hassigned => hback y ((List.dropWhile_sublist _).subset hy) (beq_iff_eq.mp hassigned)

theorem waitingLast.filter {es : List Entry} (h : waitingLast es) (p : Entry → Bool) : waitingLast (es.filter p) := by
  obtain ⟨front, back, rfl, hfront, hback⟩ := h
  exact ⟨front.filter p, back.filter p, List.filter_append .., fun y hy => hfront y (List.mem_of_mem_filter hy),
    fun y hy => hback y (List.mem_of_mem_filter hy)⟩

/-- Where an entry keeps its state or becomes AIRING. -/
theorem waitingLast.map {es : List Entry} (h : waitingLast es) {f : Entry → Entry}
    (hf : ∀ y ∈ es, (f y).state = y.state ∨ (f y).state = .airing) : waitingLast (es.map f) := by
  have keeps {y : Entry} (hy : y ∈ es) {st : EntryState} (hst : st ≠ .airing) (hne : y.state ≠ st) :
      (f y).state ≠ st := by
    rcases hf y hy with hsame | hairing
    · rwa [hsame]
    · rw [hairing]
      exact hst.symm
  obtain ⟨front, back, rfl, hfront, hback⟩ := h
  refine ⟨front.map f, back.map f, List.map_append, ?_, ?_⟩
  · intro _ hz
    obtain ⟨y, hy, rfl⟩ := List.mem_map.mp hz
    exact keeps (List.mem_append_left _ hy) (by decide) (hfront y hy)
  · intro _ hz
    obtain ⟨y, hy, rfl⟩ := List.mem_map.mp hz
    exact keeps (List.mem_append_right _ hy) (by decide) (hback y hy)

/-- Where the first WAITING entry, and no other, becomes ASSIGNED. -/
theorem waitingLast.assign {es : List Entry} (h : waitingLast es) {e : Entry} {f : Entry → Entry}
    (hfirst : es.find? (fun y => y.state == .waiting) = some e) (htags : (es.map Entry.tag).Nodup)
    (hf : ∀ y, (f y).state = .assigned) : waitingLast (es.map fun y => if y.tag == e.tag then f y else y) := by
  obtain ⟨front, back, rfl, hfront, hback⟩ := h
  have hwaiting : e.state = .waiting := beq_iff_eq.mp (by have := List.find?_some hfirst; exact this)
  have hmem : e ∈ back := (List.mem_append.mp (List.mem_of_find?_eq_some hfirst)).resolve_left
    fun hm => hfront e hm hwaiting
  rw [List.find?_append, List.find?_eq_none.mpr fun y hy hw => hfront y hy (beq_iff_eq.mp hw), Option.none_or,
    List.find?_eq_some_iff_append] at hfirst
  obtain ⟨-, before, after, rfl, hbefore⟩ := hfirst
  refine ⟨(front ++ before ++ [e]).map fun y => if y.tag == e.tag then f y else y,
    after.map fun y => if y.tag == e.tag then f y else y, by simp, ?_, ?_⟩
  · intro z hz
    obtain ⟨y, hy, rfl⟩ := List.mem_map.mp hz
    split
    · rw [hf]
      decide
    · rename_i hne
      rcases List.mem_append.mp hy with hy | hy
      · rcases List.mem_append.mp hy with hy | hy
        · exact hfront y hy
        · exact fun hw => by simpa [hw] using hbefore y hy
      · cases List.mem_singleton.mp hy
        exact absurd (beq_self_eq_true _) hne
  · intro z hz
    obtain ⟨y, hy, rfl⟩ := List.mem_map.mp hz
    have hne : y.tag ≠ e.tag := by
      rw [List.map_append, List.map_append, List.map_cons] at htags
      have hafter := (List.nodup_cons.mp (List.nodup_append.mp (List.nodup_append.mp htags).2.1).2.1).1
      exact fun ht => hafter (ht ▸ List.mem_map_of_mem hy)
    rw [if_neg (by simpa using hne)]
    exact hback y (List.mem_append_right _ (List.mem_cons_of_mem _ hy))

/-! ### The arranging of such a list comes to an end -/

/-- The running order is in form, with its WAITING entries last. -/
def Rig.inLine (r : Rig) : Prop := r.order.law ∧ waitingLast r.order.entries

/-- The number of ASSIGNED entries (R78). -/
def Rig.assignedCount (r : Rig) : Nat := (r.order.entries.filter fun e => e.state == .assigned).length

theorem Rig.assignOne_inLine {r r' : Rig} (hr : r.inLine) (h : r.assignOne = some r') : r'.inLine := by
  refine ⟨(Rig.assignOne_keepsOnAir h).order hr.1, ?_⟩
  obtain ⟨e, d, he, -, -, -, rfl⟩ := Rig.assignOne_some h
  rw [Rig.loadDeck_order]
  exact hr.2.assign (f := fun x => { x with state := .assigned, deck := some d }) he hr.1.2.1 fun _ => rfl

theorem Rig.assignOne_counts {r r' : Rig} (h : r.assignOne = some r') : r.assignedCount < r'.assignedCount := by
  obtain ⟨e, d, he, -, -, -, rfl⟩ := Rig.assignOne_some h
  unfold Rig.assignedCount
  rw [Rig.loadDeck_order]
  show _ < ((r.order.entries.map fun y => if y.tag == e.tag then _ else y).filter _).length
  have hwaiting : e.state = .waiting := beq_iff_eq.mp (by have := List.find?_some he; exact this)
  obtain ⟨before, after, hsplit⟩ := List.append_of_mem (List.mem_of_find?_eq_some he)
  have hle (es : List Entry) : (es.filter fun y => y.state == .assigned).length ≤
      ((es.map fun y => if y.tag == e.tag then { y with state := .assigned, deck := some d } else y).filter
        fun y => y.state == .assigned).length := by
    rw [← List.countP_eq_length_filter, ← List.countP_eq_length_filter, List.countP_map]
    refine List.countP_mono_left fun y _ hy => ?_
    dsimp only [Function.comp_apply]
    split
    · rfl
    · exact hy
  have hb := hle before
  have ha := hle after
  rw [hsplit]
  simp only [List.map_append, List.map_cons, List.filter_append, List.length_append, List.filter_cons, beq_self_eq_true,
    if_true, List.length_cons, hwaiting]
  simp only [show (EntryState.waiting == EntryState.assigned) = false from rfl, Bool.false_eq_true, if_false]
  omega

theorem Rig.assignOne_full {r : Rig} (h : 2 ≤ r.assignedCount) : r.assignOne = none := if_pos h

theorem Rig.arrangeFor_inLine {n : Nat} {r : Rig} (hr : r.inLine) (hn : 2 ≤ r.assignedCount + n) :
    (r.arrangeFor n).inLine ∧ (r.arrangeFor n).assignOne = none := by
  induction n generalizing r with
  | zero => exact ⟨hr, Rig.assignOne_full hn⟩
  | succ n ih =>
    unfold Rig.arrangeFor
    split
    · rename_i r' h
      have := Rig.assignOne_counts h
      exact ih (Rig.assignOne_inLine hr h) (by omega)
    · rename_i h
      rw [hr.2.not_before]
      exact ⟨hr, h⟩

theorem Rig.arrange_nothing {r : Rig} (hr : r.inLine) (h : r.assignOne = none) : r.arrange = r := by
  unfold Rig.arrange Rig.arrangeFor
  rw [h, hr.2.not_before]
  rfl

theorem Rig.arrange_arrange {r : Rig} (hr : r.inLine) : r.arrange.arrange = r.arrange := by
  obtain ⟨hline, hnone⟩ := Rig.arrangeFor_inLine (n := 192) hr (by omega)
  exact Rig.arrange_nothing hline hnone

/-! ### ASSIGNED entries whose decks are not CUED -/

/-- No ASSIGNED entry holds a CUED deck. -/
def Rig.noneCued (r : Rig) : Prop :=
  ∀ y ∈ r.order.entries, y.state = .assigned → ∀ b, y.deck = some b → (r.deck b).state ≠ .cued

theorem Rig.noneCued.startable {r : Rig} (h : r.noneCued) : r.startable = none := by
  cases hx : r.startable with
  | none => rfl
  | some x =>
    obtain ⟨-, hfirst, hassigned, -, d, hd, hcued⟩ := (r.startable_iff x).mp hx
    exact absurd hcued (h x (firstNonAiring_mem hfirst) hassigned d hd)

theorem Rig.assignOne_noneCued {r r' : Rig} (hr : r.noneCued) (h : r.assignOne = some r') : r'.noneCued := by
  intro y hy hassigned b hb
  have hquiet : (r.deck b).state ≠ .cued := by
    rcases Rig.assignOne_entries h hy with hold | ⟨d, hd, hempty⟩
    · exact hr y hold hassigned b hb
    · cases hb.symm.trans hd
      rw [hempty]
      nofun
  rcases Rig.assignOne_deck h b with hsame | ⟨-, -, hloading⟩
  · rwa [hsame]
  · rw [hloading]
    nofun

theorem Rig.displace_noneCued {r : Rig} (hr : r.noneCued) (e : Entry) : (r.displace e).noneCued := by
  intro y hy hassigned b hb
  rw [Rig.displace_deck]
  split
  · exact fun h => nomatch h
  · rcases Rig.displace_entries hy with hold | hwaiting
    · exact hr y hold hassigned b hb
    · rw [hwaiting] at hassigned
      cases hassigned

theorem Rig.arrange_noneCued {r : Rig} (hr : r.noneCued) : r.arrange.noneCued :=
  Rig.arrange_kept (P := Rig.noneCued) Rig.assignOne_noneCued (fun h _ _ => Rig.displace_noneCued h _) hr

end Sys2Proof.Machine
end

section
/-!
SUPPORT and the statement O37: the skip, the starts by request, and the starts that the controller makes (R79 to R84).
-/

namespace Sys2Proof.Machine

/-! ### Operations that change the decks alone -/

/-- A rig that differs from another in its decks alone. -/
def Rig.SetsDecks (r r' : Rig) : Prop := ∃ v, r' = { r with decks := { r.decks with decks := v } }

theorem Rig.SetsDecks.refl (r : Rig) : r.SetsDecks r := ⟨_, rfl⟩

theorem Rig.SetsDecks.trans {r₁ r₂ r₃ : Rig} (h : r₁.SetsDecks r₂) (k : r₂.SetsDecks r₃) : r₁.SetsDecks r₃ := by
  obtain ⟨v, rfl⟩ := h
  obtain ⟨w, rfl⟩ := k
  exact ⟨w, rfl⟩

theorem Rig.setDeck_setsDecks (r : Rig) (d : DeckId) (k : Deck) : r.SetsDecks (r.setDeck d k) := ⟨_, rfl⟩

theorem Rig.SetsDecks.eq {r r' : Rig} (h : r.SetsDecks r') {g : DeckId → Deck} (hg : ∀ d, r'.deck d = g d) :
    r' = { r with decks := { r.decks with decks := Vector.ofFn g } } := by
  obtain ⟨v, rfl⟩ := h
  have hv : v = Vector.ofFn g := by
    ext j hj
    rw [Vector.getElem_ofFn]
    exact hg ⟨j, hj⟩
  rw [hv]

theorem Rig.unloadEntries_setsDecks (r : Rig) (es : List Entry) : r.SetsDecks (r.unloadEntries es) := by
  induction es generalizing r with
  | nil => exact .refl r
  | cons e es ih =>
    unfold Rig.unloadEntries
    split
    · split
      · exact (r.setDeck_setsDecks _ _).trans (ih _)
      · exact ih r
    · exact ih r

/-! ### The fades of a skip (R83) -/

/-- Every deck that plays has a frame left. -/
def Rig.playsOn (r : Rig) : Prop :=
  ∀ d, isProgramDeck d = true → (r.deck d).state = .playing → (r.deck d).position < (r.deck d).playEnd

/-- One deck's fade: a PLAYING deck fades, and any other stays. -/
theorem Rig.fadeStep_eq {r : Rig} (h : r.playsOn) {b : DeckId} (hb : isProgramDeck b = true) (frames : Nat) :
    (if (r.deck b).audible then r.fadeDeck b frames else r) =
      if (r.deck b).state = .playing then r.setDeck b ((r.deck b).fadedOver frames) else r := by
  by_cases hplays : (r.deck b).state = .playing
  · have haudible : (r.deck b).audible = true := by
      rw [Deck.audible, hplays]
      rfl
    rw [if_pos haudible, if_pos hplays, Rig.fadeDeck_playing hplays (h b hb hplays)]
  · rw [Rig.fadeDeck_not_playing hplays, if_neg hplays]
    exact ite_self r

theorem Rig.fadeStep_deck (r : Rig) (b d : DeckId) (frames : Nat) :
    (if (r.deck b).state = .playing then r.setDeck b ((r.deck b).fadedOver frames) else r).deck d =
      if b = d ∧ (r.deck d).state = .playing then (r.deck d).fadedOver frames else r.deck d := by
  by_cases hbd : b = d
  · subst hbd
    split
    · simp only [*, true_and, if_true, Rig.deck_setDeck_self]
    · simp only [*, true_and, if_false]
  · simp only [hbd, false_and, if_false]
    split
    · exact r.setDeck_deck_other hbd _
    · rfl

theorem Deck.fadedOver_not_playing (k : Deck) (frames : Nat) : (k.fadedOver frames).state ≠ .playing :=
  fun h => nomatch h

/-- The PLAYING decks of the list fade, and no others change. -/
theorem Rig.fadeAudible_playsOn {r : Rig} (h : r.playsOn) (frames : Nat) {ds : List DeckId}
    (hds : ∀ b ∈ ds, isProgramDeck b = true) : r.SetsDecks (r.fadeAudible frames ds) ∧
      ∀ d, (r.fadeAudible frames ds).deck d =
        if d ∈ ds ∧ (r.deck d).state = .playing then (r.deck d).fadedOver frames else r.deck d := by
  induction ds generalizing r with
  | nil => exact ⟨.refl r, fun d => by simp [Rig.fadeAudible]⟩
  | cons b ds ih =>
    unfold Rig.fadeAudible
    rw [Rig.fadeStep_eq h (hds b List.mem_cons_self)]
    have hstep := fun d => Rig.fadeStep_deck r b d frames
    have hsets : r.SetsDecks
        (if (r.deck b).state = .playing then r.setDeck b ((r.deck b).fadedOver frames) else r) := by
      split
      · exact r.setDeck_setsDecks _ _
      · exact .refl r
    generalize (if (r.deck b).state = .playing then r.setDeck b ((r.deck b).fadedOver frames)
      else r) = r₁ at hstep hsets
    have hplays : r₁.playsOn := by
      intro d hd hstate
      rw [hstep] at hstate ⊢
      split at hstate
      · exact absurd hstate (Deck.fadedOver_not_playing _ _)
      · rename_i hnot
        rw [if_neg hnot]
        exact h d hd hstate
    obtain ⟨hrest, hdecks⟩ := ih hplays fun x hx => hds x (List.mem_cons_of_mem _ hx)
    refine ⟨hsets.trans hrest, fun d => ?_⟩
    rw [hdecks, hstep]
    by_cases hbd : b = d
    · subst hbd
      by_cases hstate : (r.deck b).state = .playing
      · simp [hstate, Deck.fadedOver_not_playing]
      · simp [hstate]
    · simp [hbd, Ne.symm hbd]

/-! ### The skip (R83) -/

theorem Rig.skipTaken_eq (r : Rig) (x : Entry) : ∃ v, r.skipTaken x = { r with
    egress := ((r.passedOver x).map fun y => Report.entrySkipped y.tag).foldl Egress.report r.egress
    decks := { r.decks with decks := v }
    order := { r.order with entries := r.leftBySkip x } } := by
  obtain ⟨v, hv⟩ := r.unloadEntries_setsDecks (r.passedOver x)
  refine ⟨v, ?_⟩
  rw [Rig.skipTaken, Rig.reports_eq, hv]
  rfl

theorem Rig.skipTaken_playsOn {r : Rig} (h : r.playsOn) (x : Entry) : (r.skipTaken x).playsOn := by
  intro d hd hstate
  rw [Rig.skipTaken_deck] at hstate ⊢
  split at hstate
  · cases hstate
  · rename_i hnot
    rw [if_neg hnot]
    exact h d hd hstate

theorem Rig.skipTo_eq_skipped {r : Rig} (h : r.playsOn) (x : Entry) : r.skipTo x = r.skipped x := by
  obtain ⟨hsets, hdecks⟩ := Rig.fadeAudible_playsOn (Rig.skipTaken_playsOn h x) 24000 (ds := programDecks)
    fun b hb => mem_programDecks hb
  have hfaded := hsets.eq (g := fun d : DeckId =>
      let k := r.deck d
      let n := min 24000 (k.playEnd - k.position)
      if ∃ y ∈ r.passedOver x, y.state = EntryState.assigned ∧ y.deck = some d then
        { Deck.reset with audibleOrder := k.audibleOrder }
      else if d.val < 4 ∧ k.state = .playing then
        { k with state := .fading, fadeSpan := n, fadeRemaining := n }
      else k) fun d => by
    rw [hdecks, Rig.skipTaken_deck]
    have hprogram : d ∈ programDecks ↔ d.val < 4 := (mem_programDecks_iff d).trans decide_eq_true_iff
    by_cases hgone : ∃ y ∈ r.passedOver x, y.state = EntryState.assigned ∧ y.deck = some d
    · rw [if_pos hgone, if_pos hgone]
      exact if_neg fun hstate => nomatch hstate.2
    · rw [if_neg hgone, if_neg hgone, Deck.fadedOver_eq]
      simp only [hprogram]
  obtain ⟨v, htaken⟩ := r.skipTaken_eq x
  rw [Rig.skipTo_eq, hfaded, htaken, Rig.updateEntry_eq]
  rfl

/-- The skip is made for the last entry whose skip is pending. -/
theorem Rig.makeSkip_last {r : Rig} (hdeferred : r.deferred = false) {x : Entry} {front back : List Entry}
    (hlist : r.order.entries = front ++ x :: back) (hx : x.skipPending = true)
    (hback : ∀ y ∈ back, y.skipPending = false) : r.makeSkip = r.skipTo x := by
  have hlast : (r.order.entries.filter fun e => e.skipPending).getLast? = some x := by
    have hnone : (back.filter fun e => e.skipPending) = [] :=
      List.filter_eq_nil_iff.mpr fun y hy => Bool.not_eq_true _ ▸ hback y hy
    rw [hlist, List.filter_append, List.filter_cons_of_pos hx, hnone]
    exact List.getLast?_concat
  rw [Rig.makeSkip, hdeferred, hlast]
  rfl

/-- No entry that a skip leaves has its skip pending. -/
theorem Rig.skipped_noSkip {r : Rig} (hlaw : r.order.law) {x : Entry} {front back : List Entry}
    (hlist : r.order.entries = front ++ x :: back) (hback : ∀ y ∈ back, y.skipPending = false)
    (hfront : ∀ y ∈ front, y.state = .airing → y.skipPending = false) :
    ∀ y ∈ (r.skipped x).order.entries, y.skipPending = false := by
  have hnodup := hlaw.2.1
  rw [hlist, List.map_append, List.map_cons] at hnodup
  have hne : ∀ y ∈ front, (y.tag != x.tag) = true := fun y hy => bne_iff_ne.mpr fun ht =>
    (List.nodup_append.mp hnodup).2.2 _ (List.mem_map_of_mem hy) _ List.mem_cons_self ht
  intro z hz
  obtain ⟨y, hy, rfl⟩ := List.mem_map.mp hz
  split
  · rfl
  · rename_i htag
    rw [hlist, List.takeWhile_append_of_pos hne, List.dropWhile_append_of_pos hne] at hy
    rcases List.mem_append.mp hy with hy | hy
    · obtain ⟨hmem, hairing⟩ := List.mem_filter.mp hy
      rw [List.takeWhile_cons_of_neg (by simp), List.append_nil] at hmem
      exact hfront y hmem (beq_iff_eq.mp hairing)
    · rw [List.dropWhile_cons_of_neg (by simp)] at hy
      rcases List.mem_cons.mp hy with rfl | hy
      · exact absurd rfl htag
      · exact hback y hy

theorem Rig.settle_skipped {r : Rig} {x : Entry} (hskip : r.makeSkip = r.skipped x)
    (hnone : ∀ y ∈ (r.skipped x).order.entries, y.skipPending = false) : r.settle = (r.skipped x).settle := by
  rw [Rig.settle, Rig.settle, hskip, Rig.makeSkip_none hnone]

/-! ### The start that the controller makes (R79, R80) -/

/-- After the start nothing more is due, and the arranging has come to its end. -/
theorem Rig.settle_start {r : Rig} {x : Entry} {cause : StartCause} {r₁ : Rig} (hskip : r.makeSkip = r)
    (hstart : r.startable = some x) (hcause : x.mode.cause = cause) (hr₁ : r.startEntry x cause = r₁)
    (hline : r₁.inLine) (hnone : r₁.noneCued) : r.settle = r₁.arrange := by
  rw [Rig.settle, hskip, Rig.startDue, hstart]
  dsimp only
  rw [hcause, hr₁, Rig.startDue, (Rig.arrange_noneCued hnone).startable]
  exact Rig.arrange_arrange hline

/-- The list after a start: some entries of the old one, the one that starts AIRING. -/
theorem Rig.begun_waitingLast {r : Rig} (h : waitingLast r.order.entries) (p : Entry → Bool) (told : Egress)
    (decks : Vector Deck 6) (x : Entry) (d : DeckId) (cause : StartCause) :
    waitingLast (r.begun told decks (r.order.entries.filter p) x d cause).order.entries := by
  refine (h.filter p).map fun y _ => ?_
  split
  · exact .inr rfl
  · exact .inl rfl

theorem Rig.begun_deck (r : Rig) (told : Egress) (decks : Vector Deck 6) (list : List Entry) (x : Entry) (d b : DeckId)
    (cause : StartCause) : (r.begun told decks list x d cause).deck b =
      if d = b then { r.deck d with
        state := .playing, audibleOrder := (r.decks.lastAudible + 1) % 4294967296 } else decks[b] := vset_get ..

/-- Where each deck is as it was or EMPTY, no ASSIGNED entry holds a CUED deck after the start. -/
theorem Rig.begun_noneCued {r : Rig} {x : Entry} {decks : Vector Deck 6} {list : List Entry} {d : DeckId}
    (told : Egress) (cause : StartCause) (hlist : list ⊆ r.order.entries)
    (hothers : ∀ y ∈ r.order.entries, y.tag ≠ x.tag → y.state = .assigned → ∀ b, y.deck = some b →
      (r.deck b).state ≠ .cued)
    (hdecks : ∀ b : DeckId, decks[b] = r.deck b ∨ decks[b].state = .empty) :
    (r.begun told decks list x d cause).noneCued := by
  intro z hz hassigned b hb
  obtain ⟨y, hy, rfl⟩ := List.mem_map.mp hz
  split at hassigned
  · cases hassigned
  · rename_i htag
    rw [if_neg htag] at hb
    have hquiet := hothers y (hlist hy) htag hassigned b hb
    rw [Rig.begun_deck]
    split
    · nofun
    · rcases hdecks b with hsame | hempty
      · rwa [hsame]
      · rw [hempty]
        nofun

end Sys2Proof.Machine
end

section
/-!
SUPPORT and the statement O37: ORDER_NEXT and DECK_START (R71, R90).
-/

namespace Sys2Proof.Machine

/-! ### The two requests -/

theorem Rig.nextCheck_alertOnAir {r : Rig} (h : r.anyPausedForAlert = true) : r.nextCheck = .error .alertOnAir := by
  unfold Rig.nextCheck
  rw [h]
  rfl

theorem Rig.nextCheck_absent {r : Rig} (h : r.anyPausedForAlert = false)
    (hfirst : firstNonAiring r.order.entries = none) : r.nextCheck = .error .absent := by
  unfold Rig.nextCheck
  rw [h, hfirst]
  rfl

theorem Rig.nextCheck_state {r : Rig} (h : r.anyPausedForAlert = false) {x : Entry}
    (hfirst : firstNonAiring r.order.entries = some x) (hx : ∀ d, x.deck = some d → (r.deck d).state ≠ .cued) :
    r.nextCheck = .error .state := by
  unfold Rig.nextCheck
  rw [h, hfirst]
  cases hd : x.deck with
  | none => simp [refuse, bind, Except.bind, hd]
  | some d => simp [refuse, bind, Except.bind, hd, hx d hd]

theorem Rig.nextCheck_passes {r : Rig} (h : r.anyPausedForAlert = false) {x : Entry} {d : DeckId}
    (hfirst : firstNonAiring r.order.entries = some x) (hstate : x.state = .assigned) (hd : x.deck = some d)
    (hcued : (r.deck d).state = .cued) : r.nextCheck = .ok x := by
  unfold Rig.nextCheck
  rw [h, hfirst]
  simp [refuse, bind, Except.bind, hd, hstate, hcued, pure, Except.pure]

/-- DECK_START of a deck that the first non-airing entry does not hold. -/
theorem Rig.deckStartCheck_other {r : Rig} (h : r.anyPausedForAlert = false) {d : DeckId} (hd : d.val < 4)
    (hfirst : ∀ x, firstNonAiring r.order.entries = some x → x.deck ≠ some d) : r.deckStartCheck d = .error .state := by
  cases hallows : (r.deck d).state.allows .start with
  | false => exact Rig.deckStartCheck_first (Rig.deckCheck_state hd (fun _ => h) hallows)
  | true =>
    unfold Rig.deckStartCheck
    rw [Rig.deckCheck_passes hd (fun _ => h) hallows]
    cases hx : firstNonAiring r.order.entries with
    | none => rfl
    | some x => simp [refuse, bind, Except.bind, hfirst x hx]

theorem Rig.deckStartCheck_passes {r : Rig} (h : r.anyPausedForAlert = false) {x : Entry} {d : DeckId}
    (hval : d.val < 4) (hfirst : firstNonAiring r.order.entries = some x) (hd : x.deck = some d) (hcued : (r.deck d).state = .cued) :
    r.deckStartCheck d = .ok x := by
  unfold Rig.deckStartCheck
  rw [Rig.deckCheck_passes hval (fun _ => h) ((DeckState.allows_start_iff _).mpr hcued), hfirst]
  simp [refuse, bind, Except.bind, hd, pure, Except.pure]

section
variable {s : State} {e : Egress} {tag : Tag}

theorem execOrderNext_refused (he : s.rig.egress.secure 1 = some e) {x : Status} (h : s.rig.nextCheck = .error x) :
    exec (.orderNext tag) s = .next (s.answered e [refusedWith tag .orderNext x]) := answer_refusedOnRig he h

/-- The state after a start by request: STARTED, the reply, and then assignment and the settling. -/
def State.startedBy (s : State) (tag : Tag) (k : RequestKind) (r : Rig) : State := { s with
  inbound := none
  rig := ({ r with egress := r.egress.answered [doneWith tag k []] } : Rig).assignThenSettle }

theorem execOrderNext_carried (he : s.rig.egress.secure 1 = some e) {x : Entry}
    (hcheck : ({ s.rig with egress := e } : Rig).nextCheck = .ok x) : exec (.orderNext tag) s =
      .next (s.startedBy tag .orderNext (({ s.rig with egress := e } : Rig).startEntry x .request)) := by
  refine (answer_carriedOnRig (f := fun r x =>
    ((r.startEntry x .request).reply tag .orderNext .done []).assignThenSettle) he hcheck).trans ?_
  exact congrArg Host.Outcome.next (State.release_replied he tag .orderNext
    (g := fun r => r.startEntry x .request) (Rig.startEntry_ordered _ x _).told Rig.assignThenSettle_ordered)

theorem execDeckStart_carried (he : s.rig.egress.secure 1 = some e) {d : DeckId} {x : Entry}
    (hcheck : ({ s.rig with egress := e } : Rig).deckStartCheck d = .ok x) : exec (.deckStart tag d) s =
      .next (s.startedBy tag .deckStart (({ s.rig with egress := e } : Rig).startEntry x .request)) := by
  refine (answer_carriedOnRig (f := fun r x =>
    ((r.startEntry x .request).reply tag .deckStart .done []).assignThenSettle) he hcheck).trans ?_
  exact congrArg Host.Outcome.next (State.release_replied he tag .deckStart
    (g := fun r => r.startEntry x .request) (Rig.startEntry_ordered _ x _).told Rig.assignThenSettle_ordered)

end

/-- The one entry of a tag becomes AIRING. -/
theorem map_started {es list : List Entry} {x : Entry} (hx : x ∈ es) (htags : (es.map Entry.tag).Nodup)
    (hlist : list ⊆ es) (f : Entry → Entry) : list.map (fun y => if y.tag = x.tag then f y else y) =
      list.map fun y => if y.tag = x.tag then f x else y := by
  refine List.map_congr_left fun y hy => ?_
  split
  · rw [List.inj_on_of_nodup_map htags (hlist hy) hx ‹_›]
  · rfl

/-- The controller's own start, the audible rule having left each deck as it was or EMPTY, and some of the entries. -/
theorem Rig.settle_begun {r : Rig} {x : Entry} {d : DeckId} {cause : StartCause} {told : Egress}
    {decks : Vector Deck 6} {p : Entry → Bool} (hlaw : r.order.law) (hskip : r.makeSkip = r)
    (hlast : waitingLast r.order.entries) (hstart : r.startable = some x) (hcause : x.mode.cause = cause)
    (hothers : ∀ y ∈ r.order.entries, y.tag ≠ x.tag → y.state = .assigned → ∀ b, y.deck = some b →
      (r.deck b).state ≠ .cued)
    (hdecks : ∀ b : DeckId, decks[b] = r.deck b ∨ decks[b].state = .empty)
    (hbegun : r.startEntry x cause = r.begun told decks (r.order.entries.filter p) x d cause) :
    r.settle = (r.begun told decks (r.order.entries.filter p) x d cause).arrange := by
  have hstarted := (Rig.startEntry_keepsOnAir (firstNonAiring_mem ((r.startable_iff x).mp hstart).2.1) cause).order hlaw
  rw [hbegun] at hstarted
  exact Rig.settle_start hskip hstart hcause hbegun ⟨hstarted, Rig.begun_waitingLast hlast p told decks x d cause⟩
    (Rig.begun_noneCued told cause List.filter_sublist.subset hothers hdecks)

theorem Rig.decksCut_get (r : Rig) (o b : DeckId) :
    (r.decksCut o)[b] = r.deck b ∨ (r.decksCut o)[b].state = .empty := by
  by_cases hbo : o = b
  · subst hbo
    exact .inr (congrArg Deck.state (vset_same ..))
  · exact .inl (vset_other _ _ _ _ hbo)

/-- Settles O37: the leader, what settling starts and skips, and the two requests. -/
theorem startRequestsStartTheFirstEntry : Obligations.StartRequestsStartTheFirstEntry := by
  refine ⟨fun es l => leader_greatest, leader_none_iff, ?_, ?_, ?_, fun s e tag he hlaw => ?_⟩
  · intro r hlaw h
    rcases h with hheld | ⟨hnoskip, hnone⟩
    · have hdeferred := r.deferred_iff.mpr hheld
      exact Rig.settle_eq_arrange (Rig.makeSkip_deferred hdeferred) (Rig.startable_none_of_deferred hdeferred)
    · exact Rig.settle_eq_arrange (Rig.makeSkip_none hnoskip) (Rig.startable_none_of_not_cued hnone)
  · intro r x d front ws hlaw hheld hnoskip hdue hassigned hd hval hcued hlist hfront hws hothers cause
    have hprogram := program_isProgramDeck hval
    obtain ⟨hfirst, hdueIn⟩ := (r.isDue_iff x).mp hdue
    have hstart : r.startable = some x := (r.startable_iff x).mpr
      ⟨Bool.not_eq_true _ ▸ mt r.deferred_iff.mp hheld, hfirst, hassigned, hdueIn, d, hd, hcued⟩
    have hback : ∀ y ∈ ws, y.state ≠ .assigned := fun y hy h => nomatch (hws y hy).symm.trans h
    have hquiet : ∀ y ∈ r.order.entries, y.tag ≠ x.tag → y.state = .assigned → ∀ b, y.deck = some b →
        (r.deck b).state ≠ .cued := by
      intro y hy htag hya
      rw [hlist] at hy
      exact (List.mem_append.mp hy).elim (fun hy => hothers y hy htag hya) fun hy => absurd hya (hback y hy)
    have settles {told : Egress} {decks : Vector Deck 6} {p : Entry → Bool} := Rig.settle_begun (told := told)
      (decks := decks) (p := p) (d := d) hlaw (Rig.makeSkip_none hnoskip) ⟨front, ws, hlist, hfront, hback⟩ hstart
      (cause := cause) StartMode.cause_eq hquiet
    refine ⟨fun hfew => ?_, fun o ho => ?_⟩
    · have hall := settles (p := fun _ => true) (fun b => .inl rfl) (by
        rw [List.filter_true]
        exact Rig.startEntry_few hd hprogram cause hfew)
      rwa [List.filter_true] at hall
    · exact settles (r.decksCut_get o)
        (Rig.startEntry_cut hd hprogram cause ho (Rig.cutFirst_ne ho (Deck.not_audible_of_cued hcued)))
  · intro r x front back hlaw hheld hlist hx hback hfront hplays
    have hdeferred : r.deferred = false := Bool.not_eq_true _ ▸ mt r.deferred_iff.mp hheld
    have hskip : r.makeSkip = r.skipped x := (Rig.makeSkip_last hdeferred hlist hx hback).trans
      (Rig.skipTo_eq_skipped (fun d hd => hplays d (of_decide_eq_true hd)) x)
    exact Rig.settle_skipped hskip (Rig.skipped_noSkip hlaw hlist hback hfront)
  · intro paused first
    have hfree : ¬ paused → s.rig.anyPausedForAlert = false := fun h =>
      Bool.not_eq_true _ ▸ mt s.rig.anyPausedForAlert_iff.mp h
    refine ⟨fun h => ?_, fun h hfirst => ?_, fun x h hfirst hx => ?_, fun d hval h hfirst => ?_, ?_⟩
    · exact execOrderNext_refused he (Rig.nextCheck_alertOnAir (s.rig.anyPausedForAlert_iff.mpr h))
    · exact execOrderNext_refused he (Rig.nextCheck_absent (hfree h) hfirst)
    · exact execOrderNext_refused he (Rig.nextCheck_state (hfree h) hfirst hx)
    · exact execDeckStart_refused he (Rig.deckStartCheck_other (hfree h) hval hfirst)
    · intro x d h hfirst hd hval hcued order number airing begun
      have hmem : x ∈ s.rig.order.entries := firstNonAiring_mem hfirst
      have hassigned : x.state = .assigned := by
        have hnot : x.state ≠ .airing := by
          have := List.find?_some hfirst
          exact bne_iff_ne.mp this
        have hheld := (hlaw.2.2.1 x hmem).2.2.2.mp (by rw [hd]; rfl)
        cases hstate : x.state with
        | waiting => exact absurd hstate hheld
        | assigned => rfl
        | airing => exact absurd hstate hnot
      have hprogram := program_isProgramDeck hval
      have hnext := execOrderNext_carried (tag := tag) he
        (Rig.nextCheck_passes (r := { s.rig with egress := e }) (hfree h) hfirst hassigned hd hcued)
      have hdeck := execDeckStart_carried (tag := tag) he
        (Rig.deckStartCheck_passes (r := { s.rig with egress := e }) (hfree h) hval hfirst hd hcued)
      rw [hnext, hdeck]
      have hbegun (k : RequestKind) (told : Egress) (decks : Vector Deck 6) {list : List Entry}
          (hlist : list ⊆ s.rig.order.entries) : s.startedBy tag k
            (({ s.rig with egress := e } : Rig).begun told decks list x d .request) = begun k told decks list := by
        unfold Rig.begun
        dsimp only
        rw [map_started hmem hlaw.2.1 hlist]
        rfl
      refine ⟨fun hfew => ?_, fun o ho => ?_⟩
      · rw [Rig.startEntry_few (r := { s.rig with egress := e }) hd hprogram .request hfew]
        exact ⟨congrArg _ (hbegun .orderNext _ _ (List.Subset.refl _)),
          congrArg _ (hbegun .deckStart _ _ (List.Subset.refl _))⟩
      · rw [Rig.startEntry_cut (r := { s.rig with egress := e }) hd hprogram .request ho
          (Rig.cutFirst_ne ho (Deck.not_audible_of_cued hcued))]
        exact ⟨congrArg _ (hbegun .orderNext _ _ List.filter_sublist.subset),
          congrArg _ (hbegun .deckStart _ _ List.filter_sublist.subset)⟩

end Sys2Proof.Machine
end

section
/-!
SUPPORT. The start of a run of alerts (R131, R151, R152, R160, R162, R68).
-/

namespace Sys2Proof.Machine

/-! ### What an airing leaves -/

/-- The rig after operations that leave the program decks, the running order, the delay and the run's own settings. -/
structure Rig.KeepsRun (r r' : Rig) : Prop where
  program : r.SparesProgram r'
  lastAudible : r'.decks.lastAudible = r.decks.lastAudible
  delay : r'.delay = r.delay
  decksPaused : r'.alerts.decksPaused = r.alerts.decksPaused
  fallbackEnable : r'.airSwitch.fallbackEnable = r.airSwitch.fallbackEnable

theorem Rig.KeepsRun.trans {r₁ r₂ r₃ : Rig} (h : r₁.KeepsRun r₂) (k : r₂.KeepsRun r₃) : r₁.KeepsRun r₃ :=
  ⟨h.program.trans k.program, k.lastAudible.trans h.lastAudible, k.delay.trans h.delay,
    k.decksPaused.trans h.decksPaused, k.fallbackEnable.trans h.fallbackEnable⟩

theorem Rig.KeepsRun.refl (r : Rig) : r.KeepsRun r := ⟨.refl r, rfl, rfl, rfl, rfl⟩

theorem Rig.Ordered.keepsRun {r r' : Rig} (h : r.Ordered r') (hprogram : r.SparesProgram r')
    (hlast : r'.decks.lastAudible = r.decks.lastAudible) : r.KeepsRun r' :=
  ⟨hprogram, hlast, h.delay, congrArg Alerts.decksPaused h.alerts, congrArg AirSwitch.fallbackEnable h.airSwitch⟩

theorem Rig.loadDeck_lastAudible (r : Rig) (d : DeckId) (q : LoadRequest) :
    (r.loadDeck d q).decks.lastAudible = r.decks.lastAudible := by
  unfold Rig.loadDeck
  split <;> rfl

theorem Rig.emptyDeck_lastAudible (r : Rig) (d : DeckId) : (r.emptyDeck d).decks.lastAudible = r.decks.lastAudible := by
  unfold Rig.emptyDeck
  split <;> rfl

theorem Rig.loadFallback_lastAudible (r : Rig) : r.loadFallback.decks.lastAudible = r.decks.lastAudible := by
  unfold Rig.loadFallback
  split
  · rfl
  · split
    · exact r.loadDeck_lastAudible _ _
    all_goals rfl

theorem Rig.serveFallback_lastAudible (r : Rig) (was : Bool) :
    (r.serveFallback was).decks.lastAudible = r.decks.lastAudible := by
  unfold Rig.serveFallback
  split
  · split
    · exact r.loadFallback_lastAudible
    · split
      · rfl
      · exact (Rig.loadFallback_lastAudible _).trans (r.emptyDeck_lastAudible deckF)
  · split
    · exact r.emptyDeck_lastAudible deckF
    · rfl

theorem Rig.emptyDeck_keepsRun (r : Rig) {d : DeckId} (hd : isProgramDeck d ≠ true) : r.KeepsRun (r.emptyDeck d) :=
  (r.emptyDeck_ordered d).keepsRun (r.emptyDeck_sparesProgram hd) (r.emptyDeck_lastAudible d)

theorem Rig.evaluateOwner_keepsRun (r : Rig) (c : OwnerCause) : r.KeepsRun (r.evaluateOwner c) := by
  unfold Rig.evaluateOwner
  split
  · exact .refl r
  · have served := (({ r with airSwitch := r.airSwitch.changed r.evaluatedOwner } : Rig).report
      (.airOwner r.airSwitch.owner r.evaluatedOwner c)).serveFallback_ordered r.airSwitch.usesFallback
    obtain ⟨-, -, henable⟩ := r.airSwitch.changed_keeps r.evaluatedOwner
    have switched : r.KeepsRun (({ r with airSwitch := r.airSwitch.changed r.evaluatedOwner } : Rig).report
        (.airOwner r.airSwitch.owner r.evaluatedOwner c)) := ⟨Rig.sparesProgram_of rfl rfl, rfl, rfl, rfl, henable⟩
    exact switched.trans (served.keepsRun (Rig.serveFallback_sparesProgram _ _) (Rig.serveFallback_lastAudible _ _))

theorem Rig.switchRunStart_keepsRun (r : Rig) : r.KeepsRun r.switchRunStart :=
  ⟨r.switchRunStart_sparesProgram, (Rig.evaluateOwner_keepsRun _ .alertStart).lastAudible,
    (Rig.evaluateOwner_keepsRun _ .alertStart).delay, (Rig.evaluateOwner_keepsRun _ .alertStart).decksPaused,
    (Rig.evaluateOwner_keepsRun _ .alertStart).fallbackEnable⟩

theorem Rig.switchRunEnd_keepsRun (r : Rig) : r.KeepsRun r.switchRunEnd :=
  ⟨r.switchRunEnd_sparesProgram, (Rig.evaluateOwner_keepsRun _ .alertEnd).lastAudible,
    (Rig.evaluateOwner_keepsRun _ .alertEnd).delay, (Rig.evaluateOwner_keepsRun _ .alertEnd).decksPaused,
    (Rig.evaluateOwner_keepsRun _ .alertEnd).fallbackEnable⟩

theorem Rig.loadPart_keepsRun (r : Rig) (i : RecordId) (p : Part) : r.KeepsRun (r.loadPart i p).1 := by
  refine ⟨r.loadPart_sparesProgram i p, ?_, ?_, ?_, ?_⟩
  all_goals
    unfold Rig.loadPart
    split
    · rfl
    · split
      · unfold Rig.loadDeck
        split <;> rfl
      · split <;> rfl

theorem Rig.playing_keepsRun (r : Rig) (i : RecordId) : r.KeepsRun (r.playing i) := by
  have named : r.KeepsRun ((r.namedAiring i).report (.alertAiring i)) :=
    ⟨Rig.sparesProgram_of rfl rfl, rfl, rfl, rfl, rfl⟩
  refine named.trans ?_
  unfold Rig.playing Rig.loadFirstPart
  dsimp only
  split
  · exact Rig.loadPart_keepsRun _ i .leadIn
  · exact (Rig.loadPart_keepsRun _ i .leadIn).trans (Rig.loadPart_keepsRun _ i .slot)

/-- The record named is AIRING, and the switch is as it stood until a run starts. -/
theorem Rig.playing_airs (r : Rig) (i : RecordId) : ((r.playing i).record i).state = .airing ∧
    (r.playing i).alerts.airing = some i ∧ (r.playing i).airSwitch = r.airSwitch := by
  have steady := r.playing_steady i
  refine ⟨(steady.alerts.states i).trans ?_, steady.alerts.airing, steady.owner.airSwitch⟩
  exact congrArg AlertRecord.state ((Rig.record_setRecord r i i _).trans (if_pos rfl))

/-! ### The queue's head (R151) -/

theorem Alerts.head_eq (a : Alerts) : a.head = (allRecords.filter fun i => a.records[i].state == .queued).foldl
    (pickBest fun i b => a.records[i].queuesBefore a.records[b]) none := by
  unfold Alerts.head
  congr 1
  funext best i
  cases best <;> rfl

theorem AlertRecord.queuesBefore_first {x y : AlertRecord} (h : y.severity < x.severity ∨
    y.severity = x.severity ∧ serialGreater y.queueEntry x.queueEntry = true) :
    x.queuesBefore y = true ∧ y.queuesBefore x = false := by
  unfold AlertRecord.queuesBefore
  rcases h with hless | ⟨hsame, hlater⟩
  · simp [hless, Nat.lt_asymm hless, Nat.ne_of_lt hless]
  · simp [hsame, hlater, serialGreater_asymm hlater]

/-- The QUEUED record of greatest severity, and among those of equal severity the one that was queued first. -/
theorem Alerts.head_best {a : Alerts} {j : RecordId} (hj : a.records[j].state = .queued)
    (hbest : ∀ m : RecordId, a.records[m].state = .queued → m ≠ j →
      a.records[m].severity < a.records[j].severity ∨ a.records[m].severity = a.records[j].severity ∧
        serialGreater a.records[m].queueEntry a.records[j].queueEntry = true) : a.head = some j := by
  have hall : ∀ m : RecordId, m ∈ allRecords := by decide
  rw [Alerts.head_eq]
  exact foldl_pickBest_eq (List.mem_filter.mpr ⟨hall j, beq_iff_eq.mpr hj⟩) fun m hm hne =>
    AlertRecord.queuesBefore_first (hbest m (beq_iff_eq.mp (List.mem_filter.mp hm).2) hne)

/-! ### Alert-pause (R68) -/

theorem Deck.paused_forAlert (k : Deck) : k.paused true = { k with
    state := .paused, pausedForAlert := true
    prior := some (if k.state = .fading then PriorState.fading else PriorState.playing) } := by
  unfold Deck.paused
  simp only [Bool.true_or, beq_iff_eq]

theorem Rig.pauseStep_deck (r : Rig) (b d : DeckId) :
    (if (r.deck b).audible then r.setDeck b ((r.deck b).paused true) else r).deck d =
      if b = d ∧ (r.deck d).audible = true then (r.deck d).paused true else r.deck d := by
  by_cases hbd : b = d
  · subst hbd
    split
    · simp only [*, true_and, if_true, Rig.deck_setDeck_self]
    · simp [*]
  · simp only [hbd, false_and, if_false]
    split
    · exact r.setDeck_deck_other hbd _
    · rfl

/-- The audible decks of the list are paused, and no others change. -/
theorem Rig.pauseDecks_deck (ds : List DeckId) (r : Rig) (d : DeckId) :
    (ds.foldl (fun r d => if (r.deck d).audible then r.setDeck d ((r.deck d).paused true) else r) r).deck d =
      if d ∈ ds ∧ (r.deck d).audible = true then (r.deck d).paused true else r.deck d := by
  have hquiet : ((r.deck d).paused true).audible = false := rfl
  induction ds generalizing r with
  | nil => simp
  | cons b ds ih =>
    have hstep := r.pauseStep_deck b d
    rw [List.foldl_cons, ih _ (by rw [hstep]; split <;> rfl), hstep]
    by_cases hbd : b = d
    · subst hbd
      by_cases ha : (r.deck b).audible = true <;> simp [ha, hquiet]
    · simp [hbd, Ne.symm hbd]

theorem Rig.alertPause_deck (r : Rig) {d : DeckId} (hd : isProgramDeck d = true) : r.alertPause.deck d =
    if (r.deck d).audible = true then { r.deck d with
      state := .paused, pausedForAlert := true
      prior := some (if (r.deck d).state = .fading then PriorState.fading else PriorState.playing) }
    else r.deck d := by
  rw [Rig.alertPause, Rig.pauseDecks_deck, Deck.paused_forAlert]
  simp only [(mem_programDecks_iff d).mpr hd, true_and]

/-! ### The start of a run (R152) -/

theorem Delay.held_formula {d : Delay} (hbypass : d.state ≠ .bypass) (hheld : d.state ≠ .held) : d.held = { d with
    state := .held, prior := some d.state, exitFlag := d.exitFlag || d.state == .exit
    overrunFlag := false, crossfade := 0 } := if_neg (not_or.mpr ⟨hbypass, hheld⟩)

theorem Delay.held_bypass {d : Delay} (h : d.state = .bypass) : d.held = d := if_pos (.inl h)

theorem Rig.delayHold_eq (r : Rig) : r.delayHold = { r with delay := r.delay.held, egress := r.delayHold.egress } :=
  r.changeDelay_eq _ _

/-- Over a delay the run holds it, and the program decks go on. -/
theorem Rig.runStart_held {r : Rig} (h : r.delay.held.state ≠ .bypass) : r.SparesProgram r.runStart ∧
    r.runStart.delay = r.delay.held ∧ r.runStart.alerts.decksPaused = r.alerts.decksPaused := by
  have started := r.switchRunStart_keepsRun
  have hdelay : r.switchRunStart.delayHold.delay = r.delay.held := by
    rw [Rig.delayHold_eq, started.delay]
  have hstart : r.runStart = r.switchRunStart.delayHold := if_neg (by rwa [hdelay])
  rw [hstart]
  refine ⟨started.program.trans (Rig.delayHold_sparesProgram _), hdelay, ?_⟩
  rw [Rig.delayHold_eq]
  exact started.decksPaused

/-- Over BYPASS the run pauses every program deck on air. -/
theorem Rig.runStart_bypass {r : Rig} (h : r.delay.state = .bypass) : r.runStart.delay = r.delay ∧
    r.runStart.alerts.decksPaused = true ∧
    ∀ d, isProgramDeck d = true → r.runStart.deck d = if (r.deck d).audible = true then { r.deck d with
        state := .paused, pausedForAlert := true
        prior := some (if (r.deck d).state = .fading then PriorState.fading else PriorState.playing) }
      else r.deck d := by
  have started := r.switchRunStart_keepsRun
  have hdelay : r.switchRunStart.delayHold.delay = r.delay := by
    rw [Rig.delayHold_eq, started.delay, Delay.held_bypass h]
  have hprogram := started.program.trans (Rig.delayHold_sparesProgram _)
  unfold Rig.runStart
  generalize r.switchRunStart.delayHold = x at hdelay hprogram
  have hx : x.delay.state = .bypass := hdelay.symm ▸ h
  have hpaused := x.alertPause_ordered.delay
  have hdecks := fun d => x.alertPause_deck (d := d)
  rw [if_pos hx]
  generalize x.alertPause = y at hpaused hdecks
  refine ⟨hpaused.trans hdelay, rfl, fun d hd => ?_⟩
  refine (hdecks d hd).trans ?_
  rw [hprogram.deck d hd]

end Sys2Proof.Machine
end

section
/-!
SUPPORT. The end of a run of alerts: the decks that wake (R68, R132, R154, R162).
-/

namespace Sys2Proof.Machine

/-! ### Operations that pause no deck -/

/-- The rig after operations that leave no deck PAUSED but those that they leave as they were. -/
def Rig.PausesNone (r r' : Rig) : Prop := ∀ d, r'.deck d = r.deck d ∨ (r'.deck d).state ≠ .paused

theorem Rig.PausesNone.refl (r : Rig) : r.PausesNone r := fun _ => .inl rfl

theorem Rig.PausesNone.trans {r₁ r₂ r₃ : Rig} (h : r₁.PausesNone r₂) (k : r₂.PausesNone r₃) : r₁.PausesNone r₃ := by
  intro d
  rcases k d with hsame | hnot
  · rw [hsame]
    exact h d
  · exact .inr hnot

/-- Where the decks that change do not become PAUSED. -/
theorem Rig.pausesNone_of {r r' : Rig} {p : DeckId → Prop} [DecidablePred p] {f : DeckId → Deck}
    (hf : ∀ d, (f d).state ≠ .paused) (h : ∀ d, r'.deck d = if p d then f d else r.deck d) : r.PausesNone r' := by
  intro d
  rw [h]
  split
  · exact .inr (hf d)
  · exact .inl rfl

theorem Deck.emptied_not_paused (k : Deck) : k.emptied.state ≠ .paused := fun h => nomatch h

theorem Deck.resumed_not_paused (k : Deck) (order : Nat) : (k.resumed order).state ≠ .paused := by
  unfold Deck.resumed
  dsimp only
  split <;> nofun

theorem Deck.resumed_not_empty (k : Deck) (order : Nat) : (k.resumed order).state ≠ .empty := by
  unfold Deck.resumed
  dsimp only
  split <;> nofun

theorem Deck.fadedOver_not_paused (k : Deck) (frames : Nat) : (k.fadedOver frames).state ≠ .paused := fun h => nomatch h

theorem Rig.endDeck_pausesNone (r : Rig) {d : DeckId} (hd : isProgramDeck d = true) (c : EndCause) :
    r.PausesNone (r.endDeck d c) :=
  Rig.pausesNone_of (p := fun b => d = b) (fun _ => (r.deck d).emptied_not_paused) (r.endDeck_deck hd c)

theorem Rig.audibleRule_pausesNone (r : Rig) : r.PausesNone r.audibleRule := by
  by_cases htwo : r.onAir < 2
  · rw [Rig.audibleRule_few htwo]
    exact .refl r
  · obtain ⟨o, hmem, ho⟩ := Rig.oldestAudible_mem (r := r) fun h0 => htwo (by omega)
    rw [Rig.audibleRule_oldest htwo ho]
    exact r.endDeck_pausesNone ((r.mem_audibleDecks o).mp hmem).1 .cut

theorem Rig.makeAudible_pausesNone (r : Rig) (d : DeckId) {f : Deck → Nat → Deck}
    (hf : ∀ k n, (f k n).state ≠ .paused) : r.PausesNone (r.makeAudible d f) :=
  Rig.pausesNone_of (p := fun b => d = b) (fun _ => hf _ _) fun b => r.makeAudible_deck d b f

theorem Rig.resumeDeck_pausesNone (r : Rig) (d : DeckId) : r.PausesNone (r.resumeDeck d) :=
  r.audibleRule_pausesNone.trans (Rig.makeAudible_pausesNone _ d Deck.resumed_not_paused)

theorem Rig.startEntry_pausesNone (r : Rig) (e : Entry) (c : StartCause) : r.PausesNone (r.startEntry e c) := by
  have started (d : DeckId) : r.PausesNone (r.startDeck d) := by
    unfold Rig.startDeck
    have ruled : r.PausesNone (if isProgramDeck d then r.audibleRule else r) := by
      split
      · exact r.audibleRule_pausesNone
      · exact .refl r
    exact ruled.trans (Rig.makeAudible_pausesNone _ d fun _ _ => nofun)
  unfold Rig.startEntry
  split
  · exact .refl r
  · exact started _

theorem Rig.fadeDeck_pausesNone (r : Rig) {d : DeckId} (hd : isProgramDeck d = true) (frames : Nat) :
    r.PausesNone (r.fadeDeck d frames) := by
  unfold Rig.fadeDeck
  dsimp only
  split
  · exact .refl r
  · split
    · exact r.endDeck_pausesNone hd .played
    · exact Rig.pausesNone_of (p := fun b => d = b) (fun _ => (r.deck d).fadedOver_not_paused frames)
        fun b => r.deck_setDeck d b _

theorem Rig.fadeAudible_pausesNone (r : Rig) (frames : Nat) {ds : List DeckId}
    (hds : ∀ b ∈ ds, isProgramDeck b = true) : r.PausesNone (r.fadeAudible frames ds) := by
  induction ds generalizing r with
  | nil => exact .refl r
  | cons b ds ih =>
    have step : r.PausesNone (if (r.deck b).audible then r.fadeDeck b frames else r) := by
      split
      · exact r.fadeDeck_pausesNone (hds b List.mem_cons_self) frames
      · exact .refl r
    exact step.trans (ih _ fun x hx => hds x (List.mem_cons_of_mem _ hx))

theorem Rig.skipTo_pausesNone (r : Rig) (e : Entry) : r.PausesNone (r.skipTo e) := by
  have taken : r.PausesNone (r.skipTaken e) :=
    Rig.pausesNone_of (fun d => (r.deck d).emptied_not_paused) (r.skipTaken_deck e)
  have faded := Rig.fadeAudible_pausesNone (r.skipTaken e) 24000 (ds := programDecks) fun b hb => mem_programDecks hb
  intro d
  rw [Rig.skipTo_eq, Rig.updateEntry_deck]
  exact taken.trans faded d

/-! ### Flagged decks -/

/-- A deck stands PAUSED for an alert (R68). -/
def Rig.asleep (r : Rig) (d : DeckId) : Prop := (r.deck d).state = .paused ∧ (r.deck d).pausedForAlert = true

theorem Rig.PausesNone.awake {r r' : Rig} (h : r.PausesNone r') {d : DeckId} (hd : ¬ r.asleep d) : ¬ r'.asleep d := by
  rcases h d with hsame | hnot
  · unfold Rig.asleep
    rwa [hsame]
  · exact fun hasleep => hnot hasleep.1

theorem Rig.awake_kept (d : DeckId) : Rig.KeptBySettling fun r => ¬ r.asleep d where
  assign := by
    intro r r' hr h
    have loads : r.PausesNone r' := fun b => (Rig.assignOne_deck h b).imp_right fun ⟨_, _, hloading⟩ => by
      rw [hloading]
      nofun
    exact loads.awake hr
  displace := by
    intro r e hr _ _
    have unloads : r.PausesNone (r.displace e) :=
      Rig.pausesNone_of (fun b => (r.deck b).emptied_not_paused) (r.displace_deck e)
    exact unloads.awake hr
  skip hr _ := (Rig.skipTo_pausesNone _ _).awake hr
  start hr _ := (Rig.startEntry_pausesNone _ _ _).awake hr

/-! ### The order of waking (R68) -/

theorem mem_insertByOrder (r : Rig) (b d : DeckId) (ds : List DeckId) :
    d ∈ insertByOrder r b ds ↔ d = b ∨ d ∈ ds := by
  induction ds with
  | nil => exact List.mem_singleton.trans (by simp)
  | cons x ds ih =>
    unfold insertByOrder
    split
    · exact List.mem_cons
    · rw [List.mem_cons, ih, List.mem_cons]
      exact or_left_comm

theorem Rig.mem_wakeOrder (r : Rig) (d : DeckId) : d ∈ r.wakeOrder ↔ isProgramDeck d = true ∧ r.asleep d := by
  have inserted (ds acc : List DeckId) : d ∈ ds.foldl (fun ds d => insertByOrder r d ds) acc ↔ d ∈ ds ∨ d ∈ acc := by
    induction ds generalizing acc with
    | nil => simp
    | cons b ds ih =>
      rw [List.foldl_cons, ih, mem_insertByOrder, List.mem_cons, or_left_comm, or_assoc]
  unfold Rig.wakeOrder Rig.asleep
  rw [inserted, List.mem_filter, mem_programDecks_iff]
  simp

/-- The decks of a list that were asleep are so no longer, and no other deck falls asleep. -/
theorem Rig.wakeAll_awake {r : Rig} {ds : List DeckId} {d : DeckId} (h : d ∈ ds ∨ ¬ r.asleep d) :
    ¬ (r.wakeAll ds).asleep d := by
  induction ds generalizing r with
  | nil => exact h.resolve_left List.not_mem_nil
  | cons b ds ih =>
    rw [Rig.wakeAll_cons]
    refine ih ?_
    rcases h with h | h
    · rcases List.mem_cons.mp h with rfl | h
      · refine .inr ?_
        split
        · have hdeck : ((r.resumeDeck d).deck d).state ≠ .paused := by
            rw [Rig.resumeDeck, Rig.makeAudible_deck, if_pos rfl]
            exact Deck.resumed_not_paused _ _
          exact fun h => hdeck h.1
        · exact fun h => ‹¬ _› (beq_iff_eq.mpr h.1)
      · exact .inl h
    · refine .inr ?_
      split
      · exact (r.resumeDeck_pausesNone b).awake h
      · exact h

theorem Rig.woken_awake (r : Rig) {d : DeckId} (hd : isProgramDeck d = true) : ¬ r.woken.asleep d :=
  Rig.wakeAll_awake (by rw [r.mem_wakeOrder]; exact (Classical.em _).imp_left fun h => ⟨hd, h⟩)

/-- The sleeping decks, in the order of their numbers. -/
def Rig.sleepers (r : Rig) : List DeckId :=
  programDecks.filter fun d => (r.deck d).state == .paused && (r.deck d).pausedForAlert

theorem Rig.wakeOrder_eq (r : Rig) : r.wakeOrder = r.sleepers.foldl (fun ds d => insertByOrder r d ds) [] := rfl

theorem Rig.mem_sleepers (r : Rig) (d : DeckId) : d ∈ r.sleepers ↔ isProgramDeck d = true ∧ r.asleep d := by
  unfold Rig.sleepers Rig.asleep
  rw [List.mem_filter, mem_programDecks_iff]
  simp

theorem Rig.sleepers_perm {r : Rig} {l : List DeckId} (hl : l.Nodup)
    (h : ∀ d, d ∈ l ↔ isProgramDeck d = true ∧ r.asleep d) : r.sleepers.Perm l :=
  (List.perm_ext_iff_of_nodup (nodup_programDecks.filter _) hl).mpr fun d => (r.mem_sleepers d).trans (h d).symm

theorem Rig.wakeOrder_one {r : Rig} {k : DeckId} (h : ∀ d, d = k ↔ isProgramDeck d = true ∧ r.asleep d) :
    r.wakeOrder = [k] := by
  have hone : r.sleepers = [k] := List.perm_singleton.mp
    (Rig.sleepers_perm (List.nodup_singleton k) fun d => List.mem_singleton.trans (h d))
  rw [Rig.wakeOrder_eq, hone]
  rfl

theorem Rig.wakeOrder_two {r : Rig} {k m : DeckId} (hkm : k ≠ m)
    (h : ∀ d, d = k ∨ d = m ↔ isProgramDeck d = true ∧ r.asleep d)
    (horder : serialGreater (r.deck m).audibleOrder (r.deck k).audibleOrder = true) : r.wakeOrder = [k, m] := by
  have htwo := List.perm_pair.mp (Rig.sleepers_perm (r := r) (l := [k, m]) (by simpa using hkm) fun d => by
    rw [List.mem_cons, List.mem_singleton]
    exact h d)
  rcases htwo with htwo | htwo
  · simp [Rig.wakeOrder_eq, htwo, insertByOrder, serialGreater_asymm horder]
  · simp [Rig.wakeOrder_eq, htwo, insertByOrder, horder]

/-! ### One deck or two that wake while at most one is on air -/

/-- No start is due: the running order is held, or no skip is pending and the first non-airing entry is not due. -/
def Rig.quiet (r : Rig) : Prop :=
  r.order.hold = true ∨ (∀ x ∈ r.order.entries, x.skipPending = false) ∧
    ∀ x, firstNonAiring r.order.entries = some x → dueIn r.order.entries x = false

theorem Rig.quiet.settle {r : Rig} (h : r.quiet) : r.settle = r.arrange := by
  rcases h with hhold | ⟨hnoskip, hnotdue⟩
  · have hdeferred := r.deferred_iff.mpr (.inl hhold)
    exact Rig.settle_eq_arrange (Rig.makeSkip_deferred hdeferred) (Rig.startable_none_of_deferred hdeferred)
  · refine Rig.settle_eq_arrange (Rig.makeSkip_none hnoskip) ?_
    cases hx : r.startable with
    | none => rfl
    | some x =>
      obtain ⟨-, hfirst, -, hdue, -⟩ := (r.startable_iff x).mp hx
      exact absurd ((hnotdue x hfirst).symm.trans hdue) Bool.false_ne_true

/-- The rig in which deck `k` has resumed, with at most one other on air. -/
def Rig.resumedAs (r : Rig) (k : DeckId) : Rig := { r with decks :=
  { decks := vset r.decks.decks k ((r.deck k).resumed ((r.decks.lastAudible + 1) % 4294967296))
    lastAudible := (r.decks.lastAudible + 1) % 4294967296 } }

theorem Rig.resumedAs_deck (r : Rig) (k d : DeckId) : (r.resumedAs k).deck d =
    if k = d then (r.deck k).resumed ((r.decks.lastAudible + 1) % 4294967296) else r.deck d := vset_get ..

theorem Rig.resumeDeck_resumedAs {r : Rig} (h : r.onAir < 2) (k : DeckId) : r.resumeDeck k = r.resumedAs k :=
  Rig.resumeDeck_few h k

theorem Rig.wakeAll_one {r : Rig} {k : DeckId} (hk : (r.deck k).state = .paused) (h : r.onAir < 2) :
    r.wakeAll [k] = r.resumedAs k := by
  rw [Rig.wakeAll_cons, if_pos (beq_iff_eq.mpr hk), Rig.resumeDeck_resumedAs h]
  rfl

theorem Rig.wakeAll_two {r : Rig} {k m : DeckId} (hkm : k ≠ m) (hk : (r.deck k).state = .paused)
    (hm : (r.deck m).state = .paused) (h : r.onAir = 0) : r.wakeAll [k, m] = (r.resumedAs k).resumedAs m := by
  have hone : (r.resumedAs k).onAir < 2 := by
    refine Nat.lt_of_le_of_lt (Rig.onAir_le_of (r := r) (l := [k]) fun d _ ha => ?_) (by simp [h])
    rw [Rig.resumedAs_deck] at ha
    split at ha
    · exact .inl (List.mem_singleton.mpr (Eq.symm ‹_›))
    · exact .inr ha
  have hm' : ((r.resumedAs k).deck m).state = .paused := by rwa [Rig.resumedAs_deck, if_neg hkm]
  rw [Rig.wakeAll_cons, if_pos (beq_iff_eq.mpr hk), Rig.resumeDeck_resumedAs (by omega), Rig.wakeAll_one hm' hone]

/-- A deck that no ASSIGNED entry names and that is not EMPTY stands through the settling where no start is due. -/
theorem Rig.quiet.deck {r : Rig} (h : r.quiet) {d : DeckId} {k : Deck} (hd : r.deck d = k) (hk : k.state ≠ .empty)
    (hnamed : ∀ x ∈ r.order.entries, x.state = .assigned → x.deck ≠ some d) : r.settle.deck d = k := by
  rw [h.settle]
  exact (Rig.holdsAside.arrange hk ⟨hd, hnamed⟩).1

end Sys2Proof.Machine
end

section
/-!
SUPPORT and the statement O46: ALERT_CONFIRM of a first alert, and ALERT_ABORT of the one that airs (R151 to R156).
-/

namespace Sys2Proof.Machine

/-! ### A request's rig, its messages aside -/

/-- A request that its checks pass leaves the rig that carrying it out makes, but for the egress queue. -/
theorem answer_reaches {α : Type} {s : State} {e : Egress} {tag : Tag} {k : RequestKind}
    (he : s.rig.egress.secure 1 = some e) {check : Rig → Except Status α} {f : Rig → α → Rig} {a : α}
    (hc : check { s.rig with egress := e } = .ok a) :
    ∃ t x, (.next (s.takeOnRig fun r => r.judged tag k (check r) (f r)) : Answer) = .next t ∧
      t.rig = { f { s.rig with egress := e } a with egress := x } :=
  ⟨_, _, answer_carriedOnRig he hc, rfl⟩

theorem Rig.recordCheck_passes {r : Rig} {i : RecordId} (h : (r.record i).state ≠ .free) : r.recordCheck i = .ok i := by
  unfold Rig.recordCheck
  rw [require_index]
  simp [refuse, bind, Except.bind, h, pure, Except.pure]

theorem execAlertConfirm_reaches {s : State} {e : Egress} (tag : Tag) {i : RecordId}
    (he : s.rig.egress.secure 1 = some e) (hi : (s.rig.record i).state = .awaiting) :
    ∃ t x y, exec (.alertConfirm tag i) s = .next t ∧
      t.rig = { ({ s.rig with egress := x } : Rig).confirmAlert i with egress := y } := by
  have hcheck : ({ s.rig with egress := e } : Rig).undecidedCheck i = .ok i := by
    unfold Rig.undecidedCheck
    rw [Rig.recordCheck_passes (r := { s.rig with egress := e }) (fun h => nomatch hi.symm.trans h), ok_bind,
      show (({ s.rig with egress := e } : Rig).record i).state = .awaiting from hi]
    rfl
  obtain ⟨t, y, hexec, ht⟩ := answer_reaches (tag := tag) (k := .alertConfirm)
    (check := fun r => r.undecidedCheck i)
    (f := fun r i => (r.reply tag .alertConfirm .done []).confirmAlert i) he hcheck
  exact ⟨t, _, y, hexec, ht⟩

theorem execAlertAbort_reaches {s : State} {e : Egress} (tag : Tag) {i : RecordId}
    (he : s.rig.egress.secure 1 = some e) (hi : (s.rig.record i).state = .airing) :
    ∃ t y, exec (.alertAbort tag i) s = .next t ∧ t.rig = { ({ s.rig with egress := e } : Rig).stopAiring i .aborted
      (.alertAbortedRequest i) with egress := y } := by
  obtain ⟨t, y, hexec, ht⟩ := answer_reaches (tag := tag) (k := .alertAbort)
    (check := fun r => do
      let i ← r.recordCheck i
      refuse .state ((r.record i).state != .airing)
      return i)
    (f := fun r i => (r.stopAiring i .aborted (.alertAbortedRequest i)).reply tag .alertAbort .done []) (a := i) he (by
      rw [Rig.recordCheck_passes (r := { s.rig with egress := e }) (fun h => nomatch hi.symm.trans h), ok_bind,
        show (({ s.rig with egress := e } : Rig).record i).state = .airing from hi]
      rfl)
  exact ⟨t, y, hexec, ht⟩

/-! ### The first alert to air (R152, R156) -/

/-- The record is QUEUED and confirmed, before anything airs. -/
def Rig.confirmed (r : Rig) (i : RecordId) : Rig := (r.enqueue i).report (.alertConfirmed i)

theorem Rig.confirmed_record (r : Rig) (i j : RecordId) : ((r.confirmed i).record j).state =
    if i = j then .queued else (r.record j).state := by
  refine (congrArg AlertRecord.state (Rig.record_setRecord r i j _)).trans ?_
  split <;> rfl

theorem Rig.confirmed_keepsRun (r : Rig) (i : RecordId) : r.KeepsRun (r.confirmed i) :=
  ⟨Rig.sparesProgram_of rfl rfl, rfl, rfl, rfl, rfl⟩

theorem Rig.confirmed_ownerStays (r : Rig) (i : RecordId) : r.OwnerStays (r.confirmed i) :=
  ⟨rfl, rfl, Rig.sparesF_of_decks rfl⟩

/-- With nothing AIRING the queue is empty, and the record confirmed begins a run. -/
theorem Rig.confirmAlert_airs {r : Rig} {i : RecordId} (hlaw : r.alertLaw) (hi : (r.record i).state = .awaiting)
    (hidle : r.alerts.airing = none) : r.confirmAlert i = ((r.confirmed i).playing i).runStart := by
  have hhead : (r.confirmed i).alerts.head = some i := by
    refine Alerts.head_best ((r.confirmed_record i i).trans (if_pos rfl)) fun m hm hne => ?_
    refine absurd hm (fun h => hlaw.2.2.1 hidle m ?_)
    rwa [show (r.confirmed i).alerts.records[m].state = _ from r.confirmed_record i m, if_neg (Ne.symm hne)] at h
  have hidle' : (r.confirmed i).alerts.airing = none := hidle
  have hnot : (r.record i).state ≠ .recording := by
    rw [hi]
    nofun
  unfold Rig.confirmAlert
  rw [if_neg hnot]
  show (r.confirmed i).airIfIdle = _
  unfold Rig.airIfIdle
  rw [hidle', hhead]
  exact Rig.airRecord_true _ i

theorem Rig.runStart_airs (r : Rig) (i : RecordId) : (((r.playing i).runStart).record i).state = .airing ∧
    (r.playing i).runStart.alerts.airing = some i ∧ (r.playing i).runStart.airSwitch.runFlag = true := by
  obtain ⟨hstate, hairing, -⟩ := r.playing_airs i
  have stays := (r.playing i).runStart_evaluated.alerts
  exact ⟨(stays.states i).trans hstate, stays.airing.trans hairing, stays.runFlag⟩

/-- The owner in a run (R162). -/
theorem Rig.ownerLaw.owner_run {r : Rig} (h : r.ownerLaw) (hrun : r.airSwitch.runFlag = true) :
    r.airSwitch.owner = .alert := h.1.trans (if_pos hrun)

theorem Rig.ownerLaw.owner_no_run {r : Rig} (h : r.ownerLaw) (hrun : r.airSwitch.runFlag = false) :
    r.airSwitch.owner = if r.monitors.acts dlySilence = true ∧ r.airSwitch.fallbackEnable = true then .fallback
      else .program := h.1.trans (if_neg (by rw [hrun]; nofun))

/-! ### The end of a run (R154, R155) -/

theorem Rig.SparesProgram.onAir {r r' : Rig} (h : r.SparesProgram r') : r'.onAir = r.onAir := by
  unfold Rig.onAir Rig.audibleDecks
  rw [List.filter_congr fun d hd => congrArg Deck.audible (h.deck d (mem_programDecks hd))]

theorem Rig.SparesProgram.asleep {r r' : Rig} (h : r.SparesProgram r') {d : DeckId} (hd : isProgramDeck d = true) :
    r'.asleep d ↔ r.asleep d := by
  unfold Rig.asleep
  rw [h.deck d hd]

theorem Rig.delayRelease_eq (r : Rig) :
    r.delayRelease = { r with delay := r.delay.released, egress := r.delayRelease.egress } := r.changeDelay_eq _ _

/-- What the switch and the delay make of the end of a run, before the decks wake. -/
theorem Rig.runReleased (r : Rig) : r.SparesProgram r.switchRunEnd.delayRelease ∧
    r.switchRunEnd.delayRelease.decks.lastAudible = r.decks.lastAudible ∧
    r.switchRunEnd.delayRelease.delay = r.delay.released ∧
    r.switchRunEnd.delayRelease.alerts.decksPaused = r.alerts.decksPaused ∧
    r.switchRunEnd.delayRelease.airSwitch.fallbackEnable = r.airSwitch.fallbackEnable := by
  have ended := r.switchRunEnd_keepsRun
  refine ⟨ended.program.trans (Rig.delayRelease_sparesProgram _), ?_, ?_, ?_, ?_⟩
  · rw [Rig.delayRelease_eq]
    exact ended.lastAudible
  · rw [Rig.delayRelease_eq, ended.delay]
  · rw [Rig.delayRelease_eq]
    exact ended.decksPaused
  · rw [Rig.delayRelease_eq]
    exact ended.fallbackEnable

/-- The decks wake only where the run had paused them. -/
theorem Rig.runEnd_cases (r : Rig) : (r.alerts.decksPaused = false ∧ r.SparesProgram r.runEnd ∨
      r.alerts.decksPaused = true ∧ ∃ x, r.SparesProgram x ∧ x.decks.lastAudible = r.decks.lastAudible ∧
        r.runEnd = x.woken.settle) ∧
    r.runEnd.delay = r.delay.released ∧ r.runEnd.alerts.decksPaused = false ∧
    r.runEnd.airSwitch.fallbackEnable = r.airSwitch.fallbackEnable := by
  obtain ⟨hprogram, hlast, hdelay, hpaused, henable⟩ := r.runReleased
  unfold Rig.runEnd
  generalize r.switchRunEnd.delayRelease = y at hprogram hlast hdelay hpaused henable
  dsimp only
  cases hy : y.alerts.decksPaused with
  | true =>
    rw [if_pos rfl]
    have resumed := Rig.alertResume_ordered { y with alerts := { y.alerts with decksPaused := false } }
    refine ⟨.inr ⟨hpaused.symm.trans hy, { y with alerts := { y.alerts with decksPaused := false } },
        hprogram.trans (Rig.sparesProgram_of rfl rfl), hlast, Rig.alertResume_eq _⟩,
      resumed.delay.trans hdelay, congrArg Alerts.decksPaused resumed.alerts,
      (congrArg AirSwitch.fallbackEnable resumed.airSwitch).trans henable⟩
  | false =>
    rw [if_neg Bool.false_ne_true]
    exact ⟨.inl ⟨hpaused.symm.trans hy, hprogram⟩, hdelay, hy, henable⟩

/-- The record that airs is ABORTED, and the queue not yet looked at (R155). -/
def Rig.abortedAiring (r : Rig) (i : RecordId) : Rig :=
  ((r.emptyDeck deckA).leftAiring i .aborted).report (.alertAbortedRequest i)

theorem Rig.abortedAiring_keepsRun (r : Rig) (i : RecordId) : r.KeepsRun (r.abortedAiring i) :=
  (r.emptyDeck_keepsRun not_program_deckA).trans ⟨Rig.sparesProgram_of rfl rfl, rfl, rfl, rfl, rfl⟩

theorem Rig.abortedAiring_record (r : Rig) {i j : RecordId} (hij : i ≠ j) :
    (r.abortedAiring i).record j = r.record j :=
  (Rig.record_setRecord (r.emptyDeck deckA) i j _).trans ((if_neg hij).trans
    (congrArg (fun a : Alerts => a.records[j]) (r.emptyDeck_ordered deckA).alerts))

/-- With nothing QUEUED the run ends, with nothing AIRING, deck A EMPTY and the owner evaluated. -/
theorem Rig.stopAiring_ends {r : Rig} {i : RecordId} (howner : r.ownerLaw)
    (hqueue : ∀ j : RecordId, (r.record j).state ≠ .queued) :
    r.stopAiring i .aborted (.alertAbortedRequest i) = (r.abortedAiring i).runEnd ∧
    (r.abortedAiring i).runEnd.alerts.airing = none ∧ ((r.abortedAiring i).runEnd.deck deckA).state = .empty ∧
    (r.abortedAiring i).runEnd.airSwitch.runFlag = false ∧
    (r.abortedAiring i).runEnd.airSwitch.owner = (if r.monitors.acts dlySilence = true ∧
      r.airSwitch.fallbackEnable = true then .fallback else .program) := by
  have hqueue' : ∀ j : RecordId, j ≠ i → ((r.emptyDeck deckA).record j).state ≠ .queued := fun j _ => by
    rw [show (r.emptyDeck deckA).record j = r.record j from
      congrArg (fun a : Alerts => a.records[j]) (r.emptyDeck_ordered deckA).alerts]
    exact hqueue j
  have hlast : r.stopAiring i .aborted (.alertAbortedRequest i) = (r.abortedAiring i).runEnd :=
    Rig.leaveAiring_last (by decide) _ hqueue'
  obtain ⟨hairing, hdeckA, hrun⟩ := Rig.leaveAiring_ends (i := i) (st := .aborted) (by decide)
    (.alertAbortedRequest i) hqueue' (r.emptyDeck_state deckA)
  have hlaw := Rig.leaveAiring_ownerLaw ((r.emptyDeck_steady deckA).owner.law howner) i .aborted
    (.alertAbortedRequest i)
  have hmonitors := ((r.emptyDeck_ordered deckA).beside.trans
    ((r.emptyDeck deckA).leaveAiring_beside i .aborted (.alertAbortedRequest i))).monitors
  rw [show (r.emptyDeck deckA).leaveAiring i .aborted (.alertAbortedRequest i) = (r.abortedAiring i).runEnd from hlast]
    at hairing hdeckA hrun hlaw hmonitors
  have henable := (r.abortedAiring i).runEnd_cases.2.2.2.trans (r.abortedAiring_keepsRun i).fallbackEnable
  refine ⟨hlast, hairing, hdeckA, hrun, (hlaw.owner_no_run hrun).trans ?_⟩
  rw [hmonitors, henable]

theorem Delay.released_not_held {d : Delay} (h : d.state ≠ .held) : d.released = d := if_pos h

theorem Delay.released_held {d : Delay} (h : d.state = .held) : d.released = { d with
    state := if d.exitFlag = true then .exit
      else if (d.target : Int) * 4096 < d.length then .catchup
      else if d.length < (d.target : Int) * 4096 then .build else .steady
    prior := none, exitFlag := false, overrunFlag := false } := if_neg (not_not.mpr h)

/-! ### The decks that wake (R68) -/

section
variable {r : Rig} {k : DeckId}

/-- The one sleeping deck resumes, with at most one other on air. -/
theorem Rig.woken_one (hquiet : r.quiet) (hk : r.asleep k)
    (honly : ∀ d, d = k ↔ isProgramDeck d = true ∧ r.asleep d) (hfew : r.onAir < 2)
    (hnamed : ∀ x ∈ r.order.entries, x.state = .assigned → x.deck ≠ some k) :
    r.woken.settle.deck k = (r.deck k).resumed ((r.decks.lastAudible + 1) % 4294967296) := by
  have hwoken : r.woken = r.resumedAs k := by
    rw [Rig.woken, Rig.wakeOrder_one honly, Rig.wakeAll_one hk.1 hfew]
  rw [hwoken]
  exact Rig.quiet.deck (r := r.resumedAs k) hquiet ((r.resumedAs_deck k k).trans (if_pos rfl))
    (Deck.resumed_not_empty _ _) hnamed

/-- Two sleeping decks resume in increasing audible order, with no other on air. -/
theorem Rig.woken_two {m : DeckId} (hquiet : r.quiet) (hkm : k ≠ m) (hk : r.asleep k) (hm : r.asleep m)
    (honly : ∀ d, d = k ∨ d = m ↔ isProgramDeck d = true ∧ r.asleep d) (hair : r.onAir = 0)
    (horder : serialGreater (r.deck m).audibleOrder (r.deck k).audibleOrder = true)
    (hnamed : ∀ x ∈ r.order.entries, x.state = .assigned → x.deck ≠ some k ∧ x.deck ≠ some m) :
    r.woken.settle.deck k = (r.deck k).resumed ((r.decks.lastAudible + 1) % 4294967296) ∧
      r.woken.settle.deck m = (r.deck m).resumed ((r.decks.lastAudible + 2) % 4294967296) := by
  have hwoken : r.woken = (r.resumedAs k).resumedAs m := by
    rw [Rig.woken, Rig.wakeOrder_two hkm honly horder, Rig.wakeAll_two hkm hk.1 hm.1 hair]
  have hdeckk : ((r.resumedAs k).resumedAs m).deck k =
      (r.deck k).resumed ((r.decks.lastAudible + 1) % 4294967296) := by
    rw [Rig.resumedAs_deck, if_neg hkm.symm, Rig.resumedAs_deck, if_pos rfl]
  have hdeckm : ((r.resumedAs k).resumedAs m).deck m =
      (r.deck m).resumed ((r.decks.lastAudible + 2) % 4294967296) := by
    rw [Rig.resumedAs_deck, if_pos rfl, Rig.resumedAs_deck, if_neg hkm]
    congr 1
    show ((r.decks.lastAudible + 1) % 4294967296 + 1) % 4294967296 = _
    omega
  rw [hwoken]
  exact ⟨Rig.quiet.deck (r := (r.resumedAs k).resumedAs m) hquiet hdeckk (Deck.resumed_not_empty _ _)
      fun x hx hxa => (hnamed x hx hxa).1,
    Rig.quiet.deck (r := (r.resumedAs k).resumedAs m) hquiet hdeckm (Deck.resumed_not_empty _ _)
      fun x hx hxa => (hnamed x hx hxa).2⟩

end

end Sys2Proof.Machine
end

section
/-!
The statement O46, its three clauses: a run that begins, one that ends, and one that goes on.
-/

namespace Sys2Proof.Machine

/-- A run that begins: the record airs, and the delay is held or the program decks on air are paused. -/
theorem Rig.confirmAlert_begins {r : Rig} {i : RecordId} (hlaw : r.alertLaw) (howner : r.ownerLaw)
    (hi : (r.record i).state = .awaiting) (hidle : r.alerts.airing = none) :
    ((r.confirmAlert i).record i).state = .airing ∧ (r.confirmAlert i).alerts.airing = some i ∧
      (r.confirmAlert i).airSwitch.runFlag = true ∧ (r.confirmAlert i).airSwitch.owner = .alert ∧
      (r.delay.held.state ≠ .bypass → (r.confirmAlert i).delay = r.delay.held ∧ r.SparesProgram (r.confirmAlert i) ∧
        (r.confirmAlert i).alerts.decksPaused = r.alerts.decksPaused) ∧
      (r.delay.state = .bypass → (r.confirmAlert i).delay = r.delay ∧ (r.confirmAlert i).alerts.decksPaused = true ∧
        ∀ d, isProgramDeck d = true → (r.confirmAlert i).deck d = if (r.deck d).audible = true then { r.deck d with
            state := .paused, pausedForAlert := true
            prior := some (if (r.deck d).state = .fading then PriorState.fading else PriorState.playing) }
          else r.deck d) := by
  have keeps := (r.confirmed_keepsRun i).trans ((r.confirmed i).playing_keepsRun i)
  have hairlaw := Rig.airRecord_true_ownerLaw ((r.confirmed_ownerStays i).law howner) i
  obtain ⟨hstate, hairing, hrun⟩ := (r.confirmed i).runStart_airs i
  rw [Rig.airRecord_true] at hairlaw
  rw [Rig.confirmAlert_airs hlaw hi hidle]
  refine ⟨hstate, hairing, hrun, hairlaw.owner_run hrun, fun hheld => ?_, fun hbypass => ?_⟩
  · obtain ⟨hprogram, hdelay, hpaused⟩ := Rig.runStart_held (r := (r.confirmed i).playing i) (by rwa [keeps.delay])
    exact ⟨hdelay.trans (congrArg Delay.held keeps.delay), keeps.program.trans hprogram,
      hpaused.trans keeps.decksPaused⟩
  · obtain ⟨hdelay, hpaused, hdecks⟩ := Rig.runStart_bypass (r := (r.confirmed i).playing i) (by rwa [keeps.delay])
    refine ⟨hdelay.trans keeps.delay, hpaused, fun d hd => (hdecks d hd).trans ?_⟩
    rw [keeps.program.deck d hd]

/-- A run that goes on: the head of the queue airs, and the switch, the delay and the run's settings stand. -/
theorem Rig.stopAiring_next {r : Rig} {i j : RecordId} (hi : (r.record i).state = .airing)
    (hj : (r.record j).state = .queued)
    (hbest : ∀ m : RecordId, (r.record m).state = .queued → m ≠ j →
      (r.record m).severity < (r.record j).severity ∨ (r.record m).severity = (r.record j).severity ∧
        serialGreater (r.record m).queueEntry (r.record j).queueEntry = true) :
    r.stopAiring i .aborted (.alertAbortedRequest i) = (r.abortedAiring i).playing j := by
  have hij : i ≠ j := by
    rintro rfl
    cases hi.symm.trans hj
  have hsame {m : RecordId} (hm : i ≠ m) : (r.abortedAiring i).alerts.records[m] = r.record m :=
    r.abortedAiring_record hm
  have hhead : (r.abortedAiring i).alerts.head = some j := by
    refine Alerts.head_best (by rwa [hsame hij]) fun m hm hne => ?_
    have him : i ≠ m := by
      rintro rfl
      have haborted : ((r.abortedAiring i).record i).state = .aborted :=
        ((r.emptyDeck deckA).leftAiring_record i i .aborted).trans (if_pos rfl)
      cases haborted.symm.trans hm
    rw [hsame hij, hsame him]
    rw [hsame him] at hm
    exact hbest m hm hne
  show (r.abortedAiring i).airNext = _
  unfold Rig.airNext
  rw [hhead]
  exact Rig.airRecord_false _ j

theorem Rig.sleepers_of {r : Rig} {p : DeckId → Prop} (hp : ∀ d, p d → d.val < 4 ∧ r.asleep d)
    (honly : ∀ d : DeckId, d.val < 4 → r.asleep d → p d) (d : DeckId) : p d ↔ isProgramDeck d = true ∧ r.asleep d :=
  ⟨fun h => ⟨program_isProgramDeck (hp d h).1, (hp d h).2⟩, fun ⟨hd, h⟩ => honly d (of_decide_eq_true hd) h⟩

/-- The decks that a run had paused wake at its end, `x`, as they stood when it was aborted, `r` (R68). -/
theorem Rig.SparesProgram.wakes {r x : Rig} (hspares : r.SparesProgram x)
    (hlast : x.decks.lastAudible = r.decks.lastAudible) (hquiet : r.quiet)
    (hnamed : ∀ y ∈ r.order.entries, y.state = .assigned → ∀ k, y.deck = some k →
      (r.deck k).state = .loading ∨ (r.deck k).state = .cued) :
    (∀ k : DeckId, k.val < 4 → r.asleep k → (∀ m : DeckId, m.val < 4 → r.asleep m → m = k) → r.onAir < 2 →
      x.woken.settle.deck k = (r.deck k).resumed ((r.decks.lastAudible + 1) % 4294967296)) ∧
    ∀ k m : DeckId, k.val < 4 → m.val < 4 → k ≠ m → r.asleep k → r.asleep m →
      serialGreater (r.deck m).audibleOrder (r.deck k).audibleOrder = true →
      (∀ n : DeckId, n.val < 4 → r.asleep n → n = k ∨ n = m) → (∀ n : DeckId, n.val < 4 → (r.deck n).audible = false) →
      x.woken.settle.deck k = (r.deck k).resumed ((r.decks.lastAudible + 1) % 4294967296) ∧
        x.woken.settle.deck m = (r.deck m).resumed ((r.decks.lastAudible + 2) % 4294967296) := by
  have hdeck {k : DeckId} (hk : k.val < 4) : x.deck k = r.deck k := hspares.deck k (program_isProgramDeck hk)
  have hasleep {k : DeckId} (hk : k.val < 4) : x.asleep k ↔ r.asleep k := hspares.asleep (program_isProgramDeck hk)
  have hxquiet : x.quiet := by
    unfold Rig.quiet
    rwa [hspares.order]
  have hunnamed {k : DeckId} (hk : r.asleep k) : ∀ y ∈ x.order.entries, y.state = .assigned → y.deck ≠ some k := by
    intro y hy hya hyk
    rw [hspares.order] at hy
    rcases hnamed y hy hya k hyk with h | h <;> cases hk.1.symm.trans h
  refine ⟨fun k hk hks honly hfew => ?_, fun k m hk hm hkm hks hms hlater honly hnone => ?_⟩
  · have hone := Rig.woken_one hxquiet ((hasleep hk).mpr hks)
      (Rig.sleepers_of (fun n hn => hn ▸ ⟨hk, (hasleep hk).mpr hks⟩) fun n hn h => honly n hn ((hasleep hn).mp h))
      (hspares.onAir.symm ▸ hfew) (hunnamed hks)
    rwa [hdeck hk, hlast] at hone
  · have hzero : r.onAir = 0 := by
      unfold Rig.onAir Rig.audibleDecks
      rw [List.filter_eq_nil_iff.mpr fun n hn => ?_]
      · rfl
      · rw [hnone n (of_decide_eq_true (mem_programDecks hn))]
        nofun
    have htwo := Rig.woken_two hxquiet hkm ((hasleep hk).mpr hks) ((hasleep hm).mpr hms)
      (Rig.sleepers_of (fun n hn => hn.elim (fun h => h ▸ ⟨hk, (hasleep hk).mpr hks⟩)
        fun h => h ▸ ⟨hm, (hasleep hm).mpr hms⟩) fun n hn h => honly n hn ((hasleep hn).mp h))
      (hspares.onAir.trans hzero) (by rwa [hdeck hk, hdeck hm])
      fun y hy hya => ⟨hunnamed hks y hy hya, hunnamed hms y hy hya⟩
    rwa [hdeck hk, hdeck hm, hlast] at htwo

/-- Settles O46: a run that begins, one that ends, and one that goes on. -/
theorem anAlertRunTakesTheAirAndGivesItBack : Obligations.AnAlertRunTakesTheAirAndGivesItBack := by
  intro s e tag i he halert howner _ d
  refine ⟨fun hi hidle => ?_, fun hi hqueue => ?_, fun j hi hj hbest => ?_⟩
  · obtain ⟨t, x, y, hexec, ht⟩ := execAlertConfirm_reaches tag he hi
    obtain ⟨hstate, hairing, hrun, hair, hheld, hbypass⟩ :=
      Rig.confirmAlert_begins (r := { s.rig with egress := x }) halert howner hi hidle
    refine ⟨t, hexec, ?_⟩
    rw [ht]
    refine ⟨hstate, hairing, hrun, hair, fun hnb hnh => ?_, fun hb => ?_⟩
    · have hformula := Delay.held_formula hnb hnh
      obtain ⟨hdelay, hprogram, hpaused⟩ := hheld (by
        show d.held.state ≠ .bypass
        rw [hformula]
        nofun)
      exact ⟨hdelay.trans hformula, fun k hk => hprogram.deck k (program_isProgramDeck hk), hpaused⟩
    · obtain ⟨hdelay, hpaused, hdecks⟩ := hbypass hb
      exact ⟨hdelay, hpaused, fun k hk => hdecks k (program_isProgramDeck hk)⟩
  · obtain ⟨t, y, hexec, ht⟩ := execAlertAbort_reaches tag he hi
    obtain ⟨hstop, hairing, hdeckA, hrun, hair⟩ :=
      Rig.stopAiring_ends (r := { s.rig with egress := e }) (i := i) howner hqueue
    have keeps := ({ s.rig with egress := e } : Rig).abortedAiring_keepsRun i
    obtain ⟨hcases, hdelay, hpaused, -⟩ := (({ s.rig with egress := e } : Rig).abortedAiring i).runEnd_cases
    rw [hstop] at ht
    generalize ({ s.rig with egress := e } : Rig).abortedAiring i
      = q at hairing hdeckA hrun hair keeps hcases hdelay hpaused ht
    have hreleased : q.runEnd.delay = d.released := hdelay.trans (congrArg Delay.released keeps.delay)
    refine ⟨t, hexec, ?_⟩
    rw [ht]
    refine ⟨hairing, hpaused, hdeckA, hrun, hair, fun h => hreleased.trans (Delay.released_not_held h),
      fun h => hreleased.trans (Delay.released_held h), fun hnot k hk => ?_, fun hwas k hk hflag hstate => ?_, ?_⟩
    · obtain ⟨-, hspares⟩ := hcases.resolve_right fun h =>
        Bool.false_ne_true (hnot.symm.trans (keeps.decksPaused.symm.trans h.1))
      exact (keeps.program.trans hspares).deck k (program_isProgramDeck hk)
    · obtain ⟨-, x, -, -, hwakes⟩ := hcases.resolve_left fun h =>
        Bool.false_ne_true (h.1.symm.trans (keeps.decksPaused.trans hwas))
      have hawake := (Rig.awake_kept k).settle (x.woken_awake (program_isProgramDeck hk))
      rw [← hwakes] at hawake
      exact hawake ⟨hstate, hflag⟩
    · intro es asleep woken hwas hnamed hquiet
      obtain ⟨-, x, hprogram, hlast, hwakes⟩ := hcases.resolve_left fun h =>
        Bool.false_ne_true (h.1.symm.trans (keeps.decksPaused.trans hwas))
      have hreceived : s.rig.SparesProgram { s.rig with egress := e } := Rig.sparesProgram_of rfl rfl
      obtain ⟨hone, htwo⟩ := (hreceived.trans (keeps.program.trans hprogram)).wakes
        (hlast.trans keeps.lastAudible) hquiet hnamed
      simp only [← hwakes, Deck.resumed_eq] at hone htwo
      refine ⟨hone, ?_⟩
      have hnumber : (s.rig.decks.lastAudible % 4294967296 + 1) % 4294967296 =
          (s.rig.decks.lastAudible + 1) % 4294967296 := by omega
      rw [← hnumber] at htwo
      exact htwo
  · obtain ⟨t, y, hexec, ht⟩ := execAlertAbort_reaches tag he hi
    have hnext := Rig.stopAiring_next (r := { s.rig with egress := e }) hi hj hbest
    have keeps := (({ s.rig with egress := e } : Rig).abortedAiring_keepsRun i).trans (Rig.playing_keepsRun _ j)
    obtain ⟨hstate, hairing, hswitch⟩ := (({ s.rig with egress := e } : Rig).abortedAiring i).playing_airs j
    have hsame : (({ s.rig with egress := e } : Rig).abortedAiring i).airSwitch = s.rig.airSwitch :=
      (Rig.emptyDeck_ordered { s.rig with egress := e } deckA).airSwitch
    rw [hnext] at ht
    refine ⟨t, hexec, ?_⟩
    rw [ht]
    exact ⟨hairing, hstate, hswitch.trans hsame, keeps.delay, keeps.decksPaused⟩

end Sys2Proof.Machine
end
